-- ==== Sys2Proof/Word.lean ====
section
/-! DEFINITION. The number types of the Stelbar 7240: bytes and words as the lines and the channel carry them, and the
identifiers of its objects (Conventions; R1, R64, R86, R90, R91, R130). An identifier type holds exactly the numbers the
manual allows, so no operation has to test one again. -/

namespace Sys2Proof

/-- One byte of a frame, of a text or of a line (R181). -/
abbrev Byte := BitVec 8

/-- A 16-bit word: a revision, a group mask, a seed, a motion order (R7, R64, R86, R122). -/
abbrev Word := BitVec 16

/-- A place in the instrument table, 0–2047 (R1). -/
abbrev Slot := Fin 2048

/-- A board row, 0–255 (R91). -/
abbrev RowNo := Fin 256

/-- A segment and its board line, 0–7 (R86, R112). -/
abbrev SegNo := Fin 8

/-- A unit address; 1–31 are used and 0 is never sent to (R91, R182). -/
abbrev UnitAddr := Fin 32

/-- A layout, 0–7 (R90). -/
abbrev LayoutNo := Fin 8

/-- A ribbon channel, 0–3 (R64). -/
abbrev RibbonNo := Fin 4

/-- A terminal line and its terminal, 0–15 (R130, R145). -/
abbrev LineNo := Fin 16

/-- A page entry, 0–7 (R145). -/
abbrev PageNo := Fin 8

/-- A tape group, 0–15 (R1). -/
abbrev GroupNo := Fin 16

/-- A price in pu; "absent" is a marker of its own and is written `none` (Conventions). -/
abbrev Price := Option Nat

/-- A text: the characters in the order they are written, each by its code. -/
abbrev Text := List Byte

/-- A keyed table of a fixed number of like objects, as a list of the entries that differ from the table's power-on
value, keys rising; what an unlisted key reads as is given by the accessor of each table (Machine/Table.lean). -/
abbrev Table (n : Nat) (α : Type) := List (Fin n × α)

/-- The byte of a number, its low eight bits. -/
abbrev byte (n : Nat) : Byte := BitVec.ofNat 8 n

end Sys2Proof
end

