-- ==== Sys2Proof/Config.lean ====
section
/-! DEFINITION. What the manual fixes for every 7240: capacities, limits, rates and times. Each constant cites the rule
that gives it. The manual leaves no value of the part open that a model must hold free, so no constant here is opaque. -/

namespace Sys2Proof.Config

/-- The greatest price, 65,535 255/256 points (Conventions). -/
def maxPrice : Nat := 16777215
/-- The ceiling of the cumulative volume (R2). -/
def maxVolume : Nat := 999999999
/-- The ceiling of the trade count (R2). -/
def maxTradeCount : Nat := 65535
/-- The greatest number of shares of one trade (R12). -/
def maxShares : Nat := 9999999
/-- Rows in one bound-rows list (R26). -/
def maxBoundRows : Nat := 4
/-- Items in one TRADE-BLOCK (R16). -/
def maxBlockItems : Nat := 16
/-- Entries in the tape queue (R49). -/
def tapeCapacity : Nat := 512
/-- The ceiling of a GAP's omitted count (R54). -/
def maxOmitted : Nat := 65535
/-- The value of the accumulator at which a pacing event is a character event (R71). -/
def pacingModulus : Nat := 960000
/-- The limits a ribbon rate is clamped to (R66). -/
def minRate : Nat := 500
def maxRate : Nat := 4000
/-- The separator's blanks after an entry (R51, R73). -/
def separatorLength : Nat := 3
/-- Characters of the output queue (R138). -/
def outputCapacity : Nat := 512
/-- Free characters a page line needs (R139). -/
def pageLineRoom : Nat := 96
/-- Characters of an input line (R130). -/
def inputCapacity : Nat := 40
/-- The longest text of a BULLETIN, TERMINAL-TEXT, LINE-TEST or forward (R60, R140, R141, R152). -/
def maxText : Nat := 60
/-- Watch entries of the pool, and of one terminal (R154). -/
def watchPool : Nat := 128
def watchesPerTerminal : Nat := 8
/-- Ended alerts waiting in one alert list (R157). -/
def maxEndedAlerts : Nat := 8
/-- Lines of the alert ring (section 8.1). -/
def ringFirst : Nat := 12
def ringLast : Nat := 19
/-- The gap timer and the reply timer, in ms (R162). -/
def gapTime : Nat := 100
def replyTime : Nat := 1000
/-- The ceiling of the channel counts (R162). -/
def maxChannelCount : Nat := 255
/-- The longest body of a request (section 9.2). -/
def maxBody : Nat := 253
/-- The answer timer, in ms (R114). -/
def answerTime : Nat := 40
def echoAnswerTime : Nat := 120
/-- The poll wait, in ms (R117). -/
def pollWaitTime : Nat := 50
/-- Resends of a frame (R115). -/
def maxResends : Nat := 2
/-- Unanswered polls after which a row is silent (R120). -/
def silentPolls : Nat := 3
/-- The constant part of the stall timer, in ms (R100). -/
def stallMargin : Nat := 200
/-- The wait timer of a line test, in ms (R141). -/
def testWaitTime : Nat := 100
/-- Cells of a row and positions of a drum (Conventions). -/
def rowCells : Nat := 32
def drumPositions : Nat := 40
/-- Steps counted for every cell of an unknown image (R99). -/
def unknownSteps : Nat := 39

end Sys2Proof.Config
end

