-- ==== Sys2Proof/Syntax.lean ====
section
/-! DEFINITION. The commands of the 7240: one constructor of `Instr` for each row of spec/opcode_table.json, in the
table's order. A request of the host carries the body of its frame as the bytes the host wrote, so that the common checks
of R168 (length, then fields) are part of its meaning; an answer of a row unit carries the bytes that came after its kind
byte, and whether a byte came with a framing error (R182); the other events carry the object they happen to. -/

namespace Sys2Proof

/-- The two line errors of a received character (R134). -/
inductive RxError where
  | parity
  | framing
deriving DecidableEq, Repr

/-- Where a line's receiver took a character from: the wire, or the line's own transmitter (R131, R141). -/
inductive RxSource where
  | wire
  | loop
deriving DecidableEq, Repr

/-- The receiver of a terminal line, and where it found a character (log 22). -/
structure RxPoint where
  line   : LineNo
  source : RxSource
deriving DecidableEq, Repr

inductive Instr where
  /-- RESET_ASSERTED (R180). -/
  | resetAsserted
  /-- RESET_RELEASED (R180). -/
  | resetReleased
  /-- BAD_COUNT_FRAME (R164): the count byte 0 or 255. -/
  | badCountFrame (count : Byte)
  /-- UNKNOWN_KIND (R168): the kind byte and the body of the complete frame. -/
  | unknownKind (kind : Byte) (body : List Byte)
  /-- GAP_TIMER_EXPIRY (R165). -/
  | gapTimerExpiry
  /-- REPLY_TAKEN (R167). -/
  | replyTaken
  /-- REPLY_TIMER_EXPIRY (R167). -/
  | replyTimerExpiry
  /-- LIST (R11), kind 0x01. -/
  | list (body : List Byte)
  /-- DELIST (R19), kind 0x02. -/
  | delist (body : List Byte)
  /-- TRADE (R12), kind 0x03. -/
  | trade (body : List Byte)
  /-- TRADE_BLOCK (R16), kind 0x04. -/
  | tradeBlock (body : List Byte)
  /-- QUOTE (R17), kind 0x05. -/
  | quote (body : List Byte)
  /-- SET_STATE_OPEN (R18), kind 0x06 with the action OPEN. -/
  | setStateOpen (body : List Byte)
  /-- SET_STATE_HALT (R18), kind 0x06 with the action HALT. -/
  | setStateHalt (body : List Byte)
  /-- FETCH (R22), kind 0x07. -/
  | fetch (body : List Byte)
  /-- AMEND (R23), kind 0x08. -/
  | amend (body : List Byte)
  /-- DAY_ROLL (R25), kind 0x09. -/
  | dayRoll (body : List Byte)
  /-- BULLETIN (R60), kind 0x10. -/
  | bulletin (body : List Byte)
  /-- RIBBON_SETUP (R66), kind 0x11. -/
  | ribbonSetup (body : List Byte)
  /-- RIBBON_START (R67), kind 0x12. -/
  | ribbonStart (body : List Byte)
  /-- RIBBON_STOP_IMMEDIATE (R69), kind 0x13 with the mode IMMEDIATE. -/
  | ribbonStopImmediate (body : List Byte)
  /-- RIBBON_STOP_DRAIN (R70), kind 0x13 with the mode DRAIN. -/
  | ribbonStopDrain (body : List Byte)
  /-- ALIGN (R68), kind 0x14. -/
  | align (body : List Byte)
  /-- SEGMENT_SETUP (R87), kind 0x20. -/
  | segmentSetup (body : List Byte)
  /-- LAYOUT (R90), kind 0x21. -/
  | layout (body : List Byte)
  /-- BIND (R104), kind 0x22. -/
  | bind (body : List Byte)
  /-- UNBIND (R105), kind 0x23. -/
  | unbind (body : List Byte)
  /-- ROW_CLEAR (R106), kind 0x24. -/
  | rowClear (body : List Byte)
  /-- ROW_SETUP (R107), kind 0x25. -/
  | rowSetup (body : List Byte)
  /-- EXERCISE (R122), kind 0x26. -/
  | exercise (body : List Byte)
  /-- LINE_SETUP (R132), kind 0x30. -/
  | lineSetup (body : List Byte)
  /-- TERMINAL_TEXT (R140), kind 0x31. -/
  | terminalText (body : List Byte)
  /-- LINE_TEST (R141), kind 0x32. -/
  | lineTest (body : List Byte)
  /-- COLLECT (R171), kind 0x40. -/
  | collect (body : List Byte)
  /-- SETTLE (R175), kind 0x41. -/
  | settle (body : List Byte)
  /-- RESTART (R179), kind 0x42. -/
  | restart (body : List Byte)
  /-- PACING_EVENT (R71) of one ribbon. -/
  | pacingEvent (r : RibbonNo)
  /-- CHARACTER_EVENT (R73) of one ribbon: the pacing event at which its accumulator reaches 960,000. -/
  | characterEvent (r : RibbonNo)
  /-- REPAINT_START (R96) on one segment. -/
  | repaintStart (g : SegNo)
  /-- LAMP_CHANGE (R103) on one segment. -/
  | lampChange (g : SegNo)
  /-- COMPLETION_POLL (R117) on one segment. -/
  | completionPoll (g : SegNo)
  /-- READINESS_POLL (R118) on one segment. -/
  | readinessPoll (g : SegNo)
  /-- ECHO_REQUEST (R124) on one segment. -/
  | echoRequest (g : SegNo)
  /-- PATTERN_FRAME_SEND (R124) on one segment. -/
  | patternFrameSend (g : SegNo)
  /-- BOARD_FRAME_SENT (R114): the last byte of the frame in hand has gone out. -/
  | boardFrameSent (g : SegNo)
  /-- ACK (R113): a complete ACK frame, its address and sum bytes, and whether a byte came with a framing error. -/
  | ack (g : SegNo) (addr sum : Byte) (spoiled : Bool)
  /-- NAK (R115): a complete NAK frame. -/
  | nak (g : SegNo) (addr sum : Byte) (spoiled : Bool)
  /-- STATUS (R117): a complete STATUS frame with its status byte. -/
  | status (g : SegNo) (addr state sum : Byte) (spoiled : Bool)
  /-- ECHO (R125): a complete ECHO frame with its 32 sensed positions. -/
  | echo (g : SegNo) (addr : Byte) (sensed : List Byte) (sum : Byte) (spoiled : Bool)
  /-- BAD_ANSWER (R182): a first byte that is no answer kind. -/
  | badAnswer (g : SegNo) (first : Byte)
  /-- ANSWER_TIMER_EXPIRY (R114). -/
  | answerTimerExpiry (g : SegNo)
  /-- STALL_TIMER_EXPIRY (R102) of one row. -/
  | stallTimerExpiry (r : RowNo)
  /-- HOLD_TIMER_EXPIRY (R103) of one row. -/
  | holdTimerExpiry (r : RowNo)
  /-- POLL_WAIT_EXPIRY (R117) of one row. -/
  | pollWaitExpiry (r : RowNo)
  /-- GOOD_CHARACTER (R136) received on a terminal line, from the wire or from the loop of a test. -/
  | goodCharacter (t : RxPoint) (c : Byte)
  /-- BREAK (R135) received on a terminal line. -/
  | breakReceived (t : RxPoint)
  /-- LINE_ERROR (R134): a character with a parity or a framing error. -/
  | lineError (t : RxPoint) (kind : RxError)
  /-- LINE_PRESENT_RISE (R133). -/
  | linePresentRise (t : LineNo)
  /-- LINE_PRESENT_FALL (R133). -/
  | linePresentFall (t : LineNo)
  /-- TERMINAL_CHARACTER_SENT (R138): the transmitter finishes a character. -/
  | terminalCharacterSent (t : LineNo)
  /-- WAIT_TIMER_EXPIRY (R141) of a line test. -/
  | waitTimerExpiry (t : LineNo)
  /-- DEALER_QUOTE (R148): the submitted line is "Q", a blank and `rest`. -/
  | dealerQuote (t : LineNo) (rest : List Byte)
  /-- SET_A_WATCH (R149): the submitted line is "W", a blank and `rest`. -/
  | setAWatch (t : LineNo) (rest : List Byte)
  /-- REMOVE_WATCHES (R150): the submitted line is "X", a blank and `rest`. -/
  | removeWatches (t : LineNo) (rest : List Byte)
  /-- SET_THE_PAGE (R151): the submitted line is "P" alone (`none`), or "P", a blank and the rest. -/
  | setThePage (t : LineNo) (rest : Option (List Byte))
  /-- FORWARD_A_TEXT (R152): the submitted line is ">" and `text`. -/
  | forwardAText (t : LineNo) (text : List Byte)
  /-- UNKNOWN_COMMAND (R147): a submitted line that matches no command. -/
  | unknownCommand (t : LineNo) (line : List Byte)
  /-- REQUEST_BYTE_WRITTEN (R164): the host writes a byte. -/
  | requestByteWritten (b : Byte)
  /-- REPLY_BYTE_TAKEN (R167): the host reads a byte. -/
  | replyByteTaken
  /-- WIRE_RETURNS_TO_MARK (R134) on a terminal line. -/
  | wireReturnsToMark (t : LineNo)
deriving DecidableEq, Repr

end Sys2Proof
end

