-- ==== Sys2Proof/Machine/State.lean ====
section
/-! DEFINITION. The whole state of the 7240 as plain data, block by block as the chapters give it, with each part's
power-on value, and the two reason types of a stop. A table that is written as a list holds only the objects that differ
from their power-on value (`Table`); Machine/Table.lean reads and writes it. Where the manual names one fact twice (a row's
retry count, a line's state word, a watch's "alert waiting", the current notice of ATTENTION), the state holds it once and
the other view is computed. -/

namespace Sys2Proof.Machine

/-! ## The quotation store (R1, R5) -/

inductive SlotState where
  | free | listed | trading | halted | delisting
deriving DecidableEq, Repr

inductive Tick where
  | none | up | down | zeroUp | zeroDown
deriving DecidableEq, Repr

/-- The instrument record of one slot (R1). -/
structure Record where
  state      : SlotState
  symbol     : Text
  e          : Nat
  group      : GroupNo
  close      : Nat
  last       : Price
  high       : Price
  low        : Price
  bid        : Price
  ask        : Price
  volume     : Nat
  tradeCount : Nat
  tick       : Tick
  revision   : Word
  boundRows  : List RowNo
deriving DecidableEq, Repr

/-- The FREE values of R1. -/
def Record.free : Record where
  state := .free
  symbol := []
  e := 1
  group := 0
  close := 0
  last := none
  high := none
  low := none
  bid := none
  ask := none
  volume := 0
  tradeCount := 0
  tick := .none
  revision := 0
  boundRows := []

/-! ## The tape queue (R49) -/

inductive StateWord where
  | openWord | haltWord
deriving DecidableEq, Repr

/-- The kind of an entry with its fields (R49). -/
inductive EntryBody where
  | print (slot : Slot) (price shares : Nat)
  | corr (slot : Slot) (price : Nat)
  | state (slot : Slot) (word : StateWord)
  | bulletin (mask : Byte) (text : Text)
  | gap (omitted : Nat)
deriving DecidableEq, Repr

/-- One entry. `id` is the model's own: it tells one entry from another with equal fields (R49, R58). -/
structure Entry where
  id           : Nat
  body         : EntryBody
  normalLength : Nat
  pending      : List RibbonNo
deriving DecidableEq, Repr

/-- The tape queue, head first. `nextId` is the model's own: the `id` the next entry takes. -/
structure Tape where
  entries : List Entry
  nextId  : Nat
deriving DecidableEq, Repr

/-! ## The ribbon channels (R64) -/

inductive RibbonState where
  | stopped | primed | running | draining
deriving DecidableEq, Repr

inductive Level where
  | normal | abbreviated | digits
deriving DecidableEq, Repr

inductive Phase where
  | idle | marker | text | separator
deriving DecidableEq, Repr

/-- The state of one ribbon channel (R64). `text` is the composed text of the current entry and `pos` the place of the
next character in the current phase. `onLine` is the character last started on the ribbon line (R72). -/
structure Ribbon where
  state      : RibbonState
  groupMask  : Word
  lockGroup  : Fin 4
  normalRate : Nat
  fastRate   : Nat
  acc        : Nat
  level      : Level
  backlog    : Nat
  current    : Option Nat
  phase      : Phase
  text       : Text
  pos        : Nat
  markerOwed : Bool
  lastShown  : Option Slot
  onLine     : Option Byte
deriving DecidableEq, Repr

/-- The power-on values of R64. -/
def Ribbon.powerOn : Ribbon where
  state := .stopped
  groupMask := 0xFFFF
  lockGroup := 0
  normalRate := 1500
  fastRate := 2500
  acc := 0
  level := .normal
  backlog := 0
  current := none
  phase := .idle
  text := []
  pos := 0
  markerOwed := false
  lastShown := none
  onLine := none

/-! ## Timers -/

/-- A timer: stopped, or running with the time left in ms (the hold timer: in s). No time passes between commands, so the
time left is the time the timer was started with. -/
inductive Timer where
  | stopped
  | running (left : Nat)
deriving DecidableEq, Repr

/-- A poll wait (R117): stopped, running with the ms left, or expired, so that its row is due for a poll. -/
inductive PollWait where
  | stopped
  | running (left : Nat)
  | due
deriving DecidableEq, Repr

/-! ## Segments, layouts and rows (R86, R90, R91) -/

inductive SegmentState where
  | disabled | active | exercise
deriving DecidableEq, Repr

/-- The exercise steps of R124. -/
inductive ExerciseStep where
  | waiting | patternSent | turning | echoing | passed | failed
deriving DecidableEq, Repr

/-- A row of the exercise list with its step and the estimate worked out when its pattern was sent (R124). -/
structure ExerciseRow where
  row      : RowNo
  step     : ExerciseStep
  estimate : Nat
deriving DecidableEq, Repr

/-- The result of the last completed exercise (R126). -/
structure ExerciseResult where
  listed : Nat
  passed : Nat
  failed : Nat
deriving DecidableEq, Repr

/-- A segment (R86) with its exercise (R122, R126). -/
structure Segment where
  state         : SegmentState
  stepPeriod    : Nat
  settleTime    : Nat
  motionLimit   : Nat
  hold          : Nat
  motionCounter : Word
  queue         : List RowNo
  seed          : Word
  exerciseList  : List ExerciseRow
  result        : ExerciseResult
deriving DecidableEq, Repr

/-- The power-on values of R86 and R126. -/
def Segment.powerOn : Segment where
  state := .disabled
  stepPeriod := 30
  settleTime := 120
  motionLimit := 4
  hold := 10
  motionCounter := 0
  queue := []
  seed := 0
  exerciseList := []
  result := ⟨0, 0, 0⟩

inductive FieldKind where
  | symbol | last | change | volume | bid | ask | high | low
deriving DecidableEq, Repr

/-- One field of a layout (R90). -/
structure Field where
  kind  : FieldKind
  start : Nat
  width : Nat
deriving DecidableEq, Repr

/-- The three lamps of a row. -/
structure Lamps where
  up    : Bool
  down  : Bool
  fresh : Bool
deriving DecidableEq, Repr

/-- A picture of a row: a drum position for each cell, cell 0 first, and the lamps (R91). -/
structure Image where
  cells : List Nat
  lamps : Lamps
deriving DecidableEq, Repr

/-- The image of a repaint under way, held with its estimate (R91, R99). -/
structure Sent where
  image    : Image
  estimate : Nat
deriving DecidableEq, Repr

inductive Display where
  | clean | queued | sending | moving | down | faulted
deriving DecidableEq, Repr

inductive Cause where
  | notReady | silent | segmentOff | unknown | stalled | mismatch
deriving DecidableEq, Repr

/-- Where a row's unit sits (R91). -/
structure RowUnit where
  segment : SegNo
  address : UnitAddr
deriving DecidableEq, Repr

/-- A row (R91), with the two parts the board line keeps for each row: the missed-poll count and the poll wait (R112). -/
structure Row where
  rowUnit     : Option RowUnit
  binding     : Option Slot
  layout      : LayoutNo
  display     : Display
  cause       : Cause
  faultCell   : Nat
  shown       : Option Image
  shownSlot   : Option Slot
  sent        : Option Sent
  newFresh    : Bool
  again       : Bool
  lampOffOwed : Bool
  owed        : Nat
  holdTimer   : Timer
  stallTimer  : Timer
  motionOrder : Option Word
  missed      : Nat
  pollWait    : PollWait
deriving DecidableEq, Repr

/-- The power-on values of R91 and R112. -/
def Row.powerOn : Row where
  rowUnit := none
  binding := none
  layout := 0
  display := .down
  cause := .segmentOff
  faultCell := 0
  shown := none
  shownSlot := none
  sent := none
  newFresh := false
  again := false
  lampOffOwed := false
  owed := 0
  holdTimer := .stopped
  stallTimer := .stopped
  motionOrder := none
  missed := 0
  pollWait := .stopped

/-! ## Board lines (R112) -/

/-- What the line was taken for (R116, R124). -/
inductive LineUse where
  | repaint | lampChange | completionPoll | readinessPoll | pattern | echoRequest
deriving DecidableEq, Repr

/-- The content of a frame the 7240 sends (R113). -/
inductive FrameBody where
  | image (i : Image)
  | lamps (l : Lamps)
  | poll
  | echoRequest
deriving DecidableEq, Repr

/-- The frame in hand (R112). -/
structure Frame where
  use     : LineUse
  row     : RowNo
  address : UnitAddr
  body    : FrameBody
deriving DecidableEq, Repr

/-- A board line (R112). The line state is computed (`Device.lineState`): OFF, FREE or IN-HAND. While a frame is in
hand, the answer timer is stopped until its last byte has gone out. -/
structure BoardLine where
  frame            : Option Frame
  retry            : Nat
  answerTimer      : Timer
  pollCursor       : Option UnitAddr
  completionCursor : Option Word
deriving DecidableEq, Repr

/-- The power-on values of R112. -/
def BoardLine.powerOn : BoardLine where
  frame := none
  retry := 0
  answerTimer := .stopped
  pollCursor := none
  completionCursor := none

/-! ## Terminal lines (R130) -/

inductive TermState where
  | disabled | absent | active | loopback
deriving DecidableEq, Repr

inductive Rate where
  | b300 | b1200 | b2400 | b4800 | b9600
deriving DecidableEq, Repr

inductive Format where
  | even7 | odd7 | none8
deriving DecidableEq, Repr

/-- The receiver: idle, assembling a character, or waiting for the wire to return to mark after a break (R130, R134).
A character is taken in one step when it has been judged, so no step leaves a receiver assembling. -/
inductive Receiver where
  | idle | assembling | afterBreak
deriving DecidableEq, Repr

/-- A character under way with the settings it started with (R132, R138); in a test it goes round the loop and not out on
the wire, which the line holds at mark (R141). -/
structure Sending where
  char   : Byte
  format : Format
  rate   : Rate
  loop   : Bool
deriving DecidableEq, Repr

/-- A character received in a line test (R141). -/
inductive Received where
  | good (c : Byte)
  | parity
  | framing
deriving DecidableEq, Repr

/-- The test record (R130, R141). `started` counts the characters of the text started on the loop. -/
structure TestRecord where
  prior    : TermState
  text     : Text
  received : List Received
  started  : Nat
  wait     : Timer
deriving DecidableEq, Repr

/-- The error kinds seen in a test (R141). -/
structure ErrorKinds where
  value   : Bool
  parity  : Bool
  framing : Bool
  missing : Bool
deriving DecidableEq, Repr

inductive TestResult where
  | none
  | matched
  | mismatch (position : Nat) (kinds : ErrorKinds)
  | abandoned
deriving DecidableEq, Repr

/-- A terminal line (R130). The reply slot and the host text slot hold the text; the screen sequences are put round it
when the item enters the queue (R138, R140, R147). -/
structure Terminal where
  state       : TermState
  rate        : Rate
  format      : Format
  present     : Bool
  receiver    : Receiver
  input       : Text
  errored     : Bool
  reply       : Option Text
  hostText    : Option Text
  queue       : Text
  transmitter : Option Sending
  test        : Option TestRecord
  testResult  : TestResult
deriving DecidableEq, Repr

/-- The power-on values of R130; line-present is an input from outside, written here as false until a change is sampled. -/
def Terminal.powerOn : Terminal where
  state := .disabled
  rate := .b1200
  format := .even7
  present := false
  receiver := .idle
  input := []
  errored := false
  reply := none
  hostText := none
  queue := []
  transmitter := none
  test := none
  testResult := .none

/-! ## The dealer service (R145, R154, R157) -/

inductive Condition where
  | above | below | equal | any
deriving DecidableEq, Repr

/-- An alert waiting in a terminal's alert list (R157). A watch alert names its watch by slot and condition, which no
two watches of one terminal share (R154). -/
inductive Alert where
  | watch (slot : Slot) (cond : Condition)
  | ended (symbol : Text)
deriving DecidableEq, Repr

/-- What the dealer service holds for one terminal (R145). The forward buffer is empty when its text is. -/
structure Dealer where
  page       : Table 8 (Option Slot)
  marks      : Table 8 Bool
  alerts     : List Alert
  forward    : Text
  redrawOwed : Bool
  ringNext   : Nat
  ringNewest : Option Nat
deriving DecidableEq, Repr

/-- The power-on values of R145. -/
def Dealer.powerOn : Dealer where
  page := []
  marks := []
  alerts := []
  forward := []
  redrawOwed := false
  ringNext := 12
  ringNewest := none

inductive WatchState where
  | armed | fired
deriving DecidableEq, Repr

/-- A watch entry in use (R154); whether its alert waits is read from the alert list. -/
structure Watch where
  terminal  : LineNo
  slot      : Slot
  cond      : Condition
  threshold : Price
  state     : WatchState
deriving DecidableEq, Repr

/-! ## Notices, settling and the host channel (R162, R170, R175) -/

/-- A notice kind with its object (R170). -/
inductive Notice where
  | row (r : RowNo)
  | segment (g : SegNo)
  | ribbon (r : RibbonNo)
  | tape
  | terminal (t : LineNo)
  | settled
  | channel
deriving DecidableEq, Repr

inductive ChannelState where
  | idle | receiving | working | replying
deriving DecidableEq, Repr

inductive AbandonCause where
  | none | frameAbandoned | replyAbandoned
deriving DecidableEq, Repr

/-- The reply buffer: the frame, how many of its bytes the host has taken, and, for the reply to a COLLECT, the notice
it took and whether it carries a forwarded text (R162, R172, R173). -/
structure Reply where
  bytes       : List Byte
  taken       : Nat
  collected   : Option Notice
  carriesText : Bool
deriving DecidableEq, Repr

def Reply.empty : Reply := ⟨[], 0, none, false⟩

/-- The counts of the last settle to complete (R175, R177). -/
structure SettleResult where
  rowsOwing          : Nat
  rowsShown          : Nat
  rowsNotShown       : Nat
  ribbonsWithTargets : Nat
  ribbonsReached     : Nat
  ribbonsStopped     : Nat
deriving DecidableEq, Repr

/-- The settle record (R175); each unsettled ribbon stands with the entry that is its target (R82). -/
structure Settle where
  outstanding        : Bool
  rowsOwing          : Nat
  rowsStillOwing     : Nat
  rowsShown          : Nat
  rowsNotShown       : Nat
  ribbonsWithTargets : Nat
  unsettled          : List (RibbonNo × Nat)
  ribbonsReached     : Nat
  ribbonsStopped     : Nat
  result             : SettleResult
deriving DecidableEq, Repr

/-- No settle outstanding and every count 0 (R175). -/
def Settle.powerOn : Settle where
  outstanding := false
  rowsOwing := 0
  rowsStillOwing := 0
  rowsShown := 0
  rowsNotShown := 0
  ribbonsWithTargets := 0
  unsettled := []
  ribbonsReached := 0
  ribbonsStopped := 0
  result := ⟨0, 0, 0, 0, 0, 0⟩

/-- The host channel (R162). `assembly` holds the count byte and the bytes after it. -/
structure Channel where
  state            : ChannelState
  assembly         : List Byte
  gapTimer         : Timer
  reply            : Reply
  replyTimer       : Timer
  reservation      : Option Slot
  settle           : Settle
  framesAbandoned  : Nat
  repliesAbandoned : Nat
  cause            : AbandonCause
  abandonedKind    : Option Byte
deriving DecidableEq, Repr

/-- The values of R162 when the reset input is released. -/
def Channel.powerOn : Channel where
  state := .idle
  assembly := []
  gapTimer := .stopped
  reply := Reply.empty
  replyTimer := .stopped
  reservation := none
  settle := Settle.powerOn
  framesAbandoned := 0
  repliesAbandoned := 0
  cause := .none
  abandonedKind := none

/-! ## The whole part -/

/-- Every block of the 7240 and the level of its reset input. -/
structure Device where
  resetHeld : Bool
  channel   : Channel
  notices   : List Notice
  slots     : Table 2048 Record
  directory : List (Text × Slot)
  tape      : Tape
  ribbons   : Table 4 Ribbon
  segments  : Table 8 Segment
  lines     : Table 8 BoardLine
  layouts   : Table 8 (List Field)
  rows      : Table 256 Row
  terminals : Table 16 Terminal
  dealers   : Table 16 Dealer
  watches   : List Watch
deriving DecidableEq, Repr

/-- Every block at its power-on values (R27, R63, R64, R110, R129, R144, R161, R180). -/
def Device.powerOn : Device where
  resetHeld := false
  channel := Channel.powerOn
  notices := []
  slots := []
  directory := []
  tape := ⟨[], 0⟩
  ribbons := []
  segments := []
  lines := []
  layouts := []
  rows := []
  terminals := []
  dealers := []
  watches := []

/-- The state of the machine: the part, and the commands that wait, first in, first out. -/
structure State where
  device  : Device
  pending : List Instr
deriving DecidableEq, Repr

/-- The machine right after the release of the reset input (R180), with no command waiting. -/
def State.reset : State where
  device := Device.powerOn
  pending := []

/-- The reasons a step could stop with a fault. There is none: the manual gives every command an effect in every state,
be it that nothing changes, so no meaning ever faults. -/
inductive Fault where
deriving DecidableEq, Repr

/-- The reasons a step could be refused. -/
inductive Refusal where
  /-- A command whose meaning is not written yet. Raised by a refused arm of `exec` alone; safe, since a refusal proves
  nothing about the part. No arm raises it at present. -/
  | notModelled (mnemonic : String)
deriving DecidableEq, Repr

end Sys2Proof.Machine
end

