-- ==== Sys2Proof/Machine/Table.lean ====
section
/-! DEFINITION. Reading and writing the state's tables, and one getter, one setter and one update for each part of the
device. A table lists only the objects that differ from their power-on value, keys rising, so that equal tables are equal
lists. -/

namespace Sys2Proof.Machine

/-- What a table holds at a key: the listed value, or `d`, the power-on value, for an unlisted key. -/
def tableGet {n : Nat} {α : Type} (d : α) : Table n α → Fin n → α
  | [], _ => d
  | (a, v) :: t, k => if a = k then v else tableGet d t k

/-- The table without a key. -/
def tableErase {n : Nat} {α : Type} (t : Table n α) (k : Fin n) : Table n α :=
  t.filter (fun p => p.1 ≠ k)

/-- A new key put before the first greater one. -/
def tableInsert {n : Nat} {α : Type} (k : Fin n) (v : α) : Table n α → Table n α
  | [] => [(k, v)]
  | (a, w) :: t => if k < a then (k, v) :: (a, w) :: t else (a, w) :: tableInsert k v t

/-- Write one key; writing the power-on value removes the entry. -/
def tableSet {n : Nat} {α : Type} [DecidableEq α] (d : α) (t : Table n α) (k : Fin n) (v : α) : Table n α :=
  if v = d then tableErase t k else tableInsert k v (tableErase t k)

/-- The canonical form: keys strictly rising and no entry equal to the power-on value. -/
def tableWf {n : Nat} {α : Type} [DecidableEq α] (d : α) : Table n α → Bool
  | [] => true
  | (a, v) :: t => v ≠ d && t.all (fun p => a < p.1) && tableWf d t

/-! Getters and setters. -/

def Device.slot (d : Device) (i : Slot) : Record := tableGet Record.free d.slots i
def Device.ribbon (d : Device) (r : RibbonNo) : Ribbon := tableGet Ribbon.powerOn d.ribbons r
def Device.segment (d : Device) (g : SegNo) : Segment := tableGet Segment.powerOn d.segments g
def Device.line (d : Device) (g : SegNo) : BoardLine := tableGet BoardLine.powerOn d.lines g
def Device.layout (d : Device) (l : LayoutNo) : List Field := tableGet [] d.layouts l
def Device.row (d : Device) (r : RowNo) : Row := tableGet Row.powerOn d.rows r
def Device.terminal (d : Device) (t : LineNo) : Terminal := tableGet Terminal.powerOn d.terminals t
def Device.dealer (d : Device) (t : LineNo) : Dealer := tableGet Dealer.powerOn d.dealers t

def Device.setSlot (d : Device) (i : Slot) (x : Record) : Device :=
  { d with slots := tableSet Record.free d.slots i x }
def Device.setRibbon (d : Device) (r : RibbonNo) (x : Ribbon) : Device :=
  { d with ribbons := tableSet Ribbon.powerOn d.ribbons r x }
def Device.setSegment (d : Device) (g : SegNo) (x : Segment) : Device :=
  { d with segments := tableSet Segment.powerOn d.segments g x }
def Device.setLine (d : Device) (g : SegNo) (x : BoardLine) : Device :=
  { d with lines := tableSet BoardLine.powerOn d.lines g x }
def Device.setLayout (d : Device) (l : LayoutNo) (x : List Field) : Device :=
  { d with layouts := tableSet [] d.layouts l x }
def Device.setRow (d : Device) (r : RowNo) (x : Row) : Device :=
  { d with rows := tableSet Row.powerOn d.rows r x }
def Device.setTerminal (d : Device) (t : LineNo) (x : Terminal) : Device :=
  { d with terminals := tableSet Terminal.powerOn d.terminals t x }
def Device.setDealer (d : Device) (t : LineNo) (x : Dealer) : Device :=
  { d with dealers := tableSet Dealer.powerOn d.dealers t x }
def Device.setChannel (d : Device) (x : Channel) : Device := { d with channel := x }
def Device.setNotices (d : Device) (x : List Notice) : Device := { d with notices := x }
def Device.setDirectory (d : Device) (x : List (Text × Slot)) : Device := { d with directory := x }
def Device.setTape (d : Device) (x : Tape) : Device := { d with tape := x }
def Device.setWatches (d : Device) (x : List Watch) : Device := { d with watches := x }
def Device.setResetHeld (d : Device) (x : Bool) : Device := { d with resetHeld := x }

def Device.modSlot (d : Device) (i : Slot) (f : Record → Record) : Device := d.setSlot i (f (d.slot i))
def Device.modRibbon (d : Device) (r : RibbonNo) (f : Ribbon → Ribbon) : Device := d.setRibbon r (f (d.ribbon r))
def Device.modSegment (d : Device) (g : SegNo) (f : Segment → Segment) : Device := d.setSegment g (f (d.segment g))
def Device.modLine (d : Device) (g : SegNo) (f : BoardLine → BoardLine) : Device := d.setLine g (f (d.line g))
def Device.modRow (d : Device) (r : RowNo) (f : Row → Row) : Device := d.setRow r (f (d.row r))
def Device.modTerminal (d : Device) (t : LineNo) (f : Terminal → Terminal) : Device := d.setTerminal t (f (d.terminal t))
def Device.modDealer (d : Device) (t : LineNo) (f : Dealer → Dealer) : Device := d.setDealer t (f (d.dealer t))
def Device.modSettle (d : Device) (f : Settle → Settle) : Device :=
  d.setChannel { d.channel with settle := f d.channel.settle }

/-- A dealer's page entry and its mark (R145). -/
def Dealer.entry (x : Dealer) (p : PageNo) : Option Slot := tableGet none x.page p
def Dealer.marked (x : Dealer) (p : PageNo) : Bool := tableGet false x.marks p
def Dealer.setEntry (x : Dealer) (p : PageNo) (s : Option Slot) : Dealer :=
  { x with page := tableSet none x.page p s }
def Dealer.setMark (x : Dealer) (p : PageNo) (b : Bool) : Dealer :=
  { x with marks := tableSet false x.marks p b }

/-- Every number of a kind, rising: the order in which a rule that names no other order goes through its objects. -/
def everyRow : List RowNo := List.finRange 256
def everySlot : List Slot := List.finRange 2048
def everySegment : List SegNo := List.finRange 8
def everyRibbon : List RibbonNo := List.finRange 4
def everyLine : List LineNo := List.finRange 16
def everyPage : List PageNo := List.finRange 8

/-- Do one thing for each object of a list, in its order. -/
def forEach {α : Type} (l : List α) (f : α → Device → Device) (d : Device) : Device :=
  l.foldl (fun d x => f x d) d

end Sys2Proof.Machine
end

