-- ==== Sys2Proof/Machine/PriceFormat.lean ====
section
/-! DEFINITION. The price formatter (chapter 2): every text that shows a price, a change, a volume or a symbol, and the
reading of typed prices. Its functions read their arguments alone (R29). -/

namespace Sys2Proof.Machine

/-- A character's code, and a text spelt out. -/
def ch (c : Char) : Byte := byte c.toNat
def txt (l : List Char) : Text := l.map ch

def blank : Byte := ch ' '
def blanks (n : Nat) : Text := List.replicate n blank

/-- The overflow fill of R36. -/
def fill (w : Nat) : Text := List.replicate w (ch '-')

/-- The decimal digits of a number, without leading zeros; `fuel` bounds the count of digits. -/
def digitsFrom : Nat → Nat → Text → Text
  | 0, _, acc => acc
  | fuel + 1, n, acc =>
    let acc := byte (48 + n % 10) :: acc
    if n / 10 = 0 then acc else digitsFrom fuel (n / 10) acc

/-- The decimal digits of a number; 0 is written "0" (R33). -/
def digits (n : Nat) : Text := digitsFrom (n + 1) n []

/-- Padding to a width: a figure stands at the right, a symbol at the left (R45). -/
def rightJustify (w : Nat) (t : Text) : Text := blanks (w - t.length) ++ t
def leftJustify (w : Nat) (t : Text) : Text := t ++ blanks (w - t.length)

/-! ## The fraction text at one denominator (section 2.2) -/

/-- The numerator at D = 2^k of a fractional part, an exact half going to the even integer (R31). -/
def numerator (f k : Nat) : Nat :=
  let q := 256 / 2 ^ k
  let n0 := f / q
  let r := f % q
  if 2 * r < q then n0
  else if 2 * r = q then (if n0 % 2 = 0 then n0 else n0 + 1)
  else n0 + 1

/-- Reduction: while n is even and not zero, n and D are both halved (R32). -/
def reduce : Nat → Nat → Nat × Nat
  | n, 0 => (n, 0)
  | n, k + 1 => if n ≠ 0 ∧ n % 2 = 0 then reduce (n / 2) k else (n, k + 1)

/-- The text of w points and n over 2^k, in one of the three forms (R33). -/
def fractionForm (w n k : Nat) : Text :=
  if n = 0 then digits w
  else if w = 0 then digits n ++ ch '/' :: digits (2 ^ k)
  else digits w ++ blank :: (digits n ++ ch '/' :: digits (2 ^ k))

/-- A price written at D = 2^k: split, numerator, carry and reduction, text (R31 to R33). -/
def fractionText (p k : Nat) : Text :=
  let w := p / 256
  let n := numerator (p % 256) k
  if n = 2 ^ k then fractionForm (w + 1) 0 k
  else fractionForm w (reduce n k).1 (reduce n k).2

/-! ## Fitting (section 2.3) -/

/-- The first text no longer than w, from D = 2^k downward to D = 2 (R34). -/
def fitFraction (p w : Nat) : Nat → Option Text
  | 0 => none
  | k + 1 => if (fractionText p (k + 1)).length ≤ w then some (fractionText p (k + 1)) else fitFraction p w k

/-- Rounding to whole points, an exact half going to the even one (R35). -/
def wholeRounding (p : Nat) : Nat :=
  let w := p / 256
  let f := p % 256
  if f < 128 then w else if 128 < f then w + 1 else if w % 2 = 0 then w else w + 1

/-- The fitted text of a price, or none when even its whole points are too long (R34, R35). -/
def fitPrice (p e w : Nat) : Option Text :=
  match fitFraction p w e with
  | some t => some t
  | none => if (digits (wholeRounding p)).length ≤ w then some (digits (wholeRounding p)) else none

/-- A fitted PRICE request (R34 to R36). -/
def priceField (p : Price) (e w : Nat) : Text :=
  match p with
  | none => blanks w
  | some p =>
    match fitPrice p e w with
    | some t => rightJustify w t
    | none => fill w

/-- The price the LAST field shows (R39). -/
def lastShownPrice (r : Record) : Price :=
  if r.state = .listed then some r.close else
    match r.last with
    | some p => some p
    | none => some r.close

/-- The signed text of a change that is not zero (R42). -/
def signedChange (c : Int) (e w : Nat) : Text :=
  match fitPrice c.natAbs e (w - 1) with
  | some t => if w = 0 then [] else rightJustify w ((if 0 < c then ch '+' else ch '-') :: t)
  | none => fill w

/-- A CHANGE request (R41). -/
def changeField (r : Record) (w : Nat) : Text :=
  if r.state = .halted ∧ 4 ≤ w then rightJustify w (txt ['H', 'A', 'L', 'T'])
  else if r.state = .listed then blanks w
  else
    match r.last with
    | none => blanks w
    | some last =>
      let c : Int := (last : Int) - (r.close : Int)
      if c = 0 then rightJustify w (if 4 ≤ w then txt ['U', 'N', 'C', 'H'] else txt ['0'])
      else signedChange c r.e w

/-- A VOLUME request (R43). -/
def volumeField (volume w : Nat) : Text :=
  let lots := digits (volume / 100)
  let thousands := digits (volume / 100 / 1000) ++ [ch 'K']
  if lots.length ≤ w then rightJustify w lots
  else if thousands.length ≤ w then rightJustify w thousands
  else fill w

/-- The symbol as a board field shows it: a blank in the full stop's place (R44). -/
def boardSymbol (s : Text) : Text := s.map (fun c => if c = ch '.' then blank else c)

/-- A SYMBOL request of a board field and of a terminal field (R44). -/
def symbolField (board : Bool) (s : Text) (w : Nat) : Text :=
  leftJustify w ((if board then boardSymbol s else s).take w)

/-- The text of one field of a row or a line, of exactly w characters (R39 to R45, R97). -/
def fieldText (r : Record) (board : Bool) (k : FieldKind) (w : Nat) : Text :=
  match k with
  | .symbol => symbolField board r.symbol w
  | .last => priceField (lastShownPrice r) r.e w
  | .change => changeField r w
  | .volume => volumeField r.volume w
  | .bid => priceField r.bid r.e w
  | .ask => priceField r.ask r.e w
  | .high => priceField r.high r.e w
  | .low => priceField r.low r.e w

/-- The unfitted text of a price for a ribbon (R37). -/
def ribbonPrice (p e : Nat) : Text := fractionText p e

/-! ## The drum order (Conventions, R46) -/

/-- The drum position of a character; every character a board text uses stands on the drums (R46). -/
def drumPosition (c : Byte) : Nat :=
  let n := c.toNat
  if 48 ≤ n ∧ n ≤ 57 then n - 47
  else if 65 ≤ n ∧ n ≤ 90 then n - 54
  else if c = ch '+' then 37
  else if c = ch '-' then 38
  else if c = ch '/' then 39
  else 0

/-! ## Reading typed prices (section 2.8) -/

def isDigit (c : Byte) : Bool := 48 ≤ c.toNat && c.toNat ≤ 57
def isLetter (c : Byte) : Bool := 65 ≤ c.toNat && c.toNat ≤ 90

/-- The value of 1 to `most` decimal digits; anything else is refused (R47). -/
def readDigits (most : Nat) (t : Text) : Option Nat :=
  if t ≠ [] ∧ t.length ≤ most ∧ t.all isDigit then
    some (t.foldl (fun n c => n * 10 + (c.toNat - 48)) 0)
  else none

/-- A text cut at the first occurrence of a character, which is left out. -/
def cutAt (c : Byte) : Text → Option (Text × Text)
  | [] => none
  | a :: t =>
    if a = c then some ([], t)
    else
      match cutAt c t with
      | none => none
      | some (l, r) => some (a :: l, r)

/-- The value in pu of "n/d" (R47, R48). -/
def readFraction (t : Text) : Option Nat :=
  match cutAt (ch '/') t with
  | none => none
  | some (a, b) =>
    match readDigits 3 a, readDigits 3 b with
    | some n, some d =>
      if d ∈ [2, 4, 8, 16, 32, 64, 128, 256] ∧ 1 ≤ n ∧ n < d then some (n * (256 / d)) else none
    | _, _ => none

/-- The value in pu of whole points (R47, R48). -/
def readWhole (t : Text) : Option Nat :=
  match readDigits 5 t with
  | none => none
  | some w => if w ≤ 65535 then some (w * 256) else none

/-- A typed price in one of the three forms, read exactly; none is the refusal (R47, R48). -/
def readPrice (t : Text) : Option Nat :=
  match cutAt blank t with
  | some (a, b) =>
    match readWhole a, readFraction b with
    | some w, some f => some (w + f)
    | _, _ => none
  | none => if ch '/' ∈ t then readFraction t else readWhole t

end Sys2Proof.Machine
end

