-- ==== Sys2Proof/Machine/Operands.lean ====
section
/-! DEFINITION. Operand forms: how the fields of a request body are read and checked (the common checks of R168 with the
field types of R181 and the layouts of section 10.2), how a reply's fields are written, and the codes of section 10.3. A
reader answers the fields, or the refusal of the first common check that fails: length, then fields. -/

namespace Sys2Proof.Machine

/-- The status of a reply (R169). -/
inductive Status where
  | accepted | unknownKind | badLength | badField | notFree | duplicate | notListed | wrongState | reservationLost
  | busy | noSpace
deriving DecidableEq, Repr

/-! ## Codes (section 10.3) -/

def Status.code : Status → Byte
  | .accepted => 0x00
  | .unknownKind => 0x01
  | .badLength => 0x02
  | .badField => 0x03
  | .notFree => 0x04
  | .duplicate => 0x05
  | .notListed => 0x06
  | .wrongState => 0x07
  | .reservationLost => 0x08
  | .busy => 0x09
  | .noSpace => 0x0A

def slotStateCode : SlotState → Byte
  | .free => 0
  | .listed => 1
  | .trading => 2
  | .halted => 3
  | .delisting => 4

def tickCode : Tick → Byte
  | .none => 0
  | .up => 1
  | .down => 2
  | .zeroUp => 3
  | .zeroDown => 4

def ribbonStateCode : RibbonState → Byte
  | .stopped => 0
  | .primed => 1
  | .running => 2
  | .draining => 3

def levelCode : Level → Byte
  | .normal => 0
  | .abbreviated => 1
  | .digits => 2

def segmentStateCode : SegmentState → Byte
  | .disabled => 0
  | .active => 1
  | .exercise => 2

def displayCode : Display → Byte
  | .clean => 0
  | .queued => 1
  | .sending => 2
  | .moving => 3
  | .down => 4
  | .faulted => 5

def causeCode : Cause → Byte
  | .notReady => 1
  | .silent => 2
  | .segmentOff => 3
  | .unknown => 4
  | .stalled => 5
  | .mismatch => 6

def exerciseStepCode : ExerciseStep → Byte
  | .waiting => 1
  | .patternSent => 2
  | .turning => 3
  | .echoing => 4
  | .passed => 5
  | .failed => 6

def termStateCode : TermState → Byte
  | .disabled => 0
  | .absent => 1
  | .active => 2
  | .loopback => 3

def formatCode : Format → Byte
  | .even7 => 0
  | .odd7 => 1
  | .none8 => 2

def testResultCode : TestResult → Byte
  | .none => 0
  | .matched => 1
  | .mismatch _ _ => 2
  | .abandoned => 3

def abandonCode : AbandonCause → Byte
  | .none => 0
  | .frameAbandoned => 1
  | .replyAbandoned => 2

/-- The baud of a rate (R130). -/
def baud : Rate → Nat
  | .b300 => 300
  | .b1200 => 1200
  | .b2400 => 2400
  | .b4800 => 4800
  | .b9600 => 9600

/-- The divisor of the 1.2288 MHz base clock for a rate (R130). -/
def divisor (r : Rate) : Nat := 1228800 / (16 * baud r)

/-! ## The kinds of section 10.2 -/

def kindList : Byte := 0x01
def kindDelist : Byte := 0x02
def kindTrade : Byte := 0x03
def kindTradeBlock : Byte := 0x04
def kindQuote : Byte := 0x05
def kindSetState : Byte := 0x06
def kindFetch : Byte := 0x07
def kindAmend : Byte := 0x08
def kindDayRoll : Byte := 0x09
def kindBulletin : Byte := 0x10
def kindRibbonSetup : Byte := 0x11
def kindRibbonStart : Byte := 0x12
def kindRibbonStop : Byte := 0x13
def kindAlign : Byte := 0x14
def kindSegmentSetup : Byte := 0x20
def kindLayout : Byte := 0x21
def kindBind : Byte := 0x22
def kindUnbind : Byte := 0x23
def kindRowClear : Byte := 0x24
def kindRowSetup : Byte := 0x25
def kindExercise : Byte := 0x26
def kindLineSetup : Byte := 0x30
def kindTerminalText : Byte := 0x31
def kindLineTest : Byte := 0x32
def kindCollect : Byte := 0x40
def kindSettle : Byte := 0x41
def kindRestart : Byte := 0x42

/-- The kind bytes that name a request (section 10.2). -/
def requestKinds : List Byte :=
  [kindList, kindDelist, kindTrade, kindTradeBlock, kindQuote, kindSetState, kindFetch, kindAmend, kindDayRoll,
   kindBulletin, kindRibbonSetup, kindRibbonStart, kindRibbonStop, kindAlign, kindSegmentSetup, kindLayout, kindBind,
   kindUnbind, kindRowClear, kindRowSetup, kindExercise, kindLineSetup, kindTerminalText, kindLineTest, kindCollect,
   kindSettle, kindRestart]

/-! ## Writing fields (R181) -/

/-- A number of two, three and four bytes, most significant first. -/
def wordBytes (n : Nat) : List Byte := [byte (n / 256), byte n]
def tripleBytes (n : Nat) : List Byte := [byte (n / 65536), byte (n / 256), byte n]
def longBytes (n : Nat) : List Byte := [byte (n / 16777216), byte (n / 65536), byte (n / 256), byte n]
def flagByte (b : Bool) : Byte := if b then 1 else 0

/-- A price: 0x00 and three bytes, or 0x01 and three zero bytes for absent. -/
def priceBytes : Price → List Byte
  | some p => 0x00 :: tripleBytes p
  | none => [0x01, 0, 0, 0]

/-- A symbol padded with blanks to 7. -/
def symbolBytes (s : Text) : List Byte := leftJustify 7 s

/-! ## Reading fields (R181) -/

def byteAt (b : List Byte) (k : Nat) : Nat := (b.getD k 0).toNat
def wordAt (b : List Byte) (k : Nat) : Nat := byteAt b k * 256 + byteAt b (k + 1)
def tripleAt (b : List Byte) (k : Nat) : Nat := byteAt b k * 65536 + byteAt b (k + 1) * 256 + byteAt b (k + 2)
def longAt (b : List Byte) (k : Nat) : Nat := byteAt b k * 16777216 + tripleAt b (k + 1)

/-- An identifier below n. -/
def idOf (n v : Nat) : Option (Fin n) := if h : v < n then some ⟨v, h⟩ else none
def slotAt (b : List Byte) (k : Nat) : Option Slot := idOf 2048 (wordAt b k)
def idAt (n : Nat) (b : List Byte) (k : Nat) : Option (Fin n) := idOf n (byteAt b k)

/-- A flag, 0 or 1. -/
def flagAt (b : List Byte) (k : Nat) : Option Bool :=
  if byteAt b k = 0 then some false else if byteAt b k = 1 then some true else none

/-- A price, present or absent. -/
def priceAt (b : List Byte) (k : Nat) : Option Price :=
  if byteAt b k = 0 then some (some (tripleAt b (k + 1))) else if byteAt b k = 1 then some none else none

/-- A price that must be present. -/
def presentPriceAt (b : List Byte) (k : Nat) : Option Nat := (priceAt b k).join

/-- A number of shares, 1–9,999,999. -/
def sharesAt (b : List Byte) (k : Nat) : Option Nat :=
  if 1 ≤ tripleAt b k ∧ tripleAt b k ≤ Config.maxShares then some (tripleAt b k) else none

/-- Whether a text is a symbol: 1 to 5 letters, and a full stop and one letter or nothing (Conventions, R11). -/
def symbolOk (t : Text) : Bool :=
  match cutAt (ch '.') t with
  | none => 1 ≤ t.length && t.length ≤ 5 && t.all isLetter
  | some (a, c) => 1 ≤ a.length && a.length ≤ 5 && a.all isLetter && c.length == 1 && c.all isLetter

/-- The symbol field of 7 bytes: the characters before the first blank, and only blanks from there. -/
def symbolAt (b : List Byte) (k : Nat) : Option Text :=
  let f := (b.drop k).take 7
  let s := f.takeWhile (· ≠ blank)
  if symbolOk s ∧ (f.dropWhile (· ≠ blank)).all (· = blank) then some s else none

/-- A text of printable characters, blank to '~', that runs to the end of the body. -/
def printable (c : Byte) : Bool := 0x20 ≤ c.toNat && c.toNat ≤ 0x7E
def textFrom (b : List Byte) (k : Nat) : Option Text :=
  if (b.drop k).all printable then some (b.drop k) else none

/-- An optional item: not applied and not checked when its presence bit is clear. -/
def optionalItem {α : Type} (b : List Byte) (k bit : Nat) (value : Option α) : Option (Option α) :=
  if (b.getD k 0).getLsbD bit then value.map some else some none

/-- The order of the common checks: length, then fields (R168). -/
def checked {α : Type} (lengthOk : Bool) (fields : Option α) : Except Status α :=
  if lengthOk then
    match fields with
    | some f => .ok f
    | none => .error .badField
  else .error .badLength

/-! ## The bodies of section 10.2 -/

structure ListFields where
  slot   : Slot
  symbol : Text
  e      : Nat
  group  : GroupNo
  close  : Nat
deriving DecidableEq, Repr

/-- LIST: slot, symbol, e 1–8, group, close present (R11). -/
def readList (b : List Byte) : Except Status ListFields :=
  checked (b.length = 15) <|
    match slotAt b 0, symbolAt b 2, idAt 16 b 10, presentPriceAt b 11 with
    | some slot, some symbol, some group, some close =>
      if 1 ≤ byteAt b 9 ∧ byteAt b 9 ≤ 8 then some ⟨slot, symbol, byteAt b 9, group, close⟩ else none
    | _, _, _, _ => none

/-- A body of one slot word: DELIST (R19). -/
def readSlot (b : List Byte) : Except Status Slot := checked (b.length = 2) (slotAt b 0)

structure TradeItem where
  slot   : Slot
  price  : Nat
  shares : Nat
  onTape : Bool
  late   : Bool
deriving DecidableEq, Repr

/-- A trade item at place k (R12, section 10.2). -/
def tradeItemAt (b : List Byte) (k : Nat) : Option TradeItem :=
  match slotAt b k, presentPriceAt b (k + 2), sharesAt b (k + 6) with
  | some slot, some price, some shares =>
    if byteAt b (k + 9) ≤ 3 then
      some ⟨slot, price, shares, (b.getD (k + 9) 0).getLsbD 0, (b.getD (k + 9) 0).getLsbD 1⟩
    else none
  | _, _, _ => none

def readTrade (b : List Byte) : Except Status TradeItem := checked (b.length = 10) (tradeItemAt b 0)

/-- The first n items of a block; none when one of them fails a field check (R16). -/
def tradeItems (b : List Byte) : Nat → Option (List TradeItem)
  | 0 => some []
  | n + 1 =>
    match tradeItems b n, tradeItemAt b (10 * n) with
    | some l, some i => some (l ++ [i])
    | _, _ => none

/-- TRADE-BLOCK: 1 to 16 items (R16). -/
def readTradeBlock (b : List Byte) : Except Status (List TradeItem) :=
  checked (b.length % 10 = 0 && 1 ≤ b.length / 10 && b.length / 10 ≤ Config.maxBlockItems) (tradeItems b (b.length / 10))

structure QuoteFields where
  slot : Slot
  bid  : Price
  ask  : Price
deriving DecidableEq, Repr

/-- QUOTE: slot, bid and ask (R17). -/
def readQuote (b : List Byte) : Except Status QuoteFields :=
  checked (b.length = 10) <|
    match slotAt b 0, priceAt b 2, priceAt b 6 with
    | some slot, some bid, some ask => some ⟨slot, bid, ask⟩
    | _, _, _ => none

/-- SET-STATE: slot and action, OPEN 1 or HALT 2 (R18). -/
def readSetState (b : List Byte) : Except Status (Slot × StateWord) :=
  checked (b.length = 3) <|
    match slotAt b 0 with
    | some slot =>
      if byteAt b 2 = 1 then some (slot, .openWord) else if byteAt b 2 = 2 then some (slot, .haltWord) else none
    | none => none

inductive FetchTarget where
  | slot (i : Slot)
  | symbol (s : Text)
deriving DecidableEq, Repr

/-- FETCH: slot or symbol, the length deciding the form, and the reserve flag (R22). -/
def readFetch (b : List Byte) : Except Status (FetchTarget × Bool) :=
  if b.length = 3 then
    checked true <|
      match slotAt b 0, flagAt b 2 with
      | some i, some f => some (.slot i, f)
      | _, _ => none
  else
    checked (b.length = 8) <|
      match symbolAt b 0, flagAt b 7 with
      | some s, some f => some (.symbol s, f)
      | _, _ => none

structure AmendFields where
  slot   : Slot
  print  : Bool
  last   : Option Price
  high   : Option Price
  low    : Option Price
  volume : Option Nat
  close  : Option Nat
deriving DecidableEq, Repr

/-- AMEND: presence bits 0–4 and the correction-print flag, bit 7 (R23, section 10.2). -/
def readAmend (b : List Byte) : Except Status AmendFields :=
  checked (b.length = 23) <|
    match slotAt b 0, optionalItem b 2 0 (priceAt b 3), optionalItem b 2 1 (priceAt b 7),
        optionalItem b 2 2 (priceAt b 11),
        optionalItem b 2 3 (if longAt b 15 ≤ Config.maxVolume then some (longAt b 15) else none),
        optionalItem b 2 4 (presentPriceAt b 19) with
    | some slot, some last, some high, some low, some volume, some close =>
      if (b.getD 2 0).getLsbD 5 ∨ (b.getD 2 0).getLsbD 6 then none
      else some ⟨slot, (b.getD 2 0).getLsbD 7, last, high, low, volume, close⟩
    | _, _, _, _, _, _ => none

/-- A request without a body (DAY-ROLL, COLLECT, SETTLE, RESTART). -/
def readNothing (b : List Byte) : Except Status Unit := checked (b.length = 0) (some ())

/-- BULLETIN: a mask that names a ribbon, bits 4–7 clear, and a text of 1–60 characters (R60). -/
def readBulletin (b : List Byte) : Except Status (Byte × Text) :=
  checked (2 ≤ b.length && b.length ≤ 61) <|
    match textFrom b 1 with
    | some t => if 1 ≤ byteAt b 0 ∧ byteAt b 0 ≤ 15 then some (b.getD 0 0, t) else none
    | none => none

structure RibbonFields where
  ribbon     : RibbonNo
  groupMask  : Option Word
  lockGroup  : Option (Fin 4)
  normalRate : Option Nat
  fastRate   : Option Nat
deriving DecidableEq, Repr

/-- RIBBON-SETUP: presence bits 0–3; rates are not checked here, since they are clamped (R66). -/
def readRibbonSetup (b : List Byte) : Except Status RibbonFields :=
  checked (b.length = 9) <|
    match idAt 4 b 0, optionalItem b 1 1 (idAt 4 b 4), optionalItem b 1 0 (some (BitVec.ofNat 16 (wordAt b 2))),
        optionalItem b 1 2 (some (wordAt b 5)), optionalItem b 1 3 (some (wordAt b 7)) with
    | some r, some lock, some mask, some normal, some fast =>
      if byteAt b 1 ≤ 15 then some ⟨r, mask, lock, normal, fast⟩ else none
    | _, _, _, _, _ => none

/-- A body of one ribbon byte: RIBBON-START (R67). -/
def readRibbon (b : List Byte) : Except Status RibbonNo := checked (b.length = 1) (idAt 4 b 0)

inductive StopMode where
  | immediate | drain
deriving DecidableEq, Repr

/-- RIBBON-STOP: ribbon and mode, IMMEDIATE 1 or DRAIN 2 (R69). -/
def readRibbonStop (b : List Byte) : Except Status (RibbonNo × StopMode) :=
  checked (b.length = 2) <|
    match idAt 4 b 0 with
    | some r => if byteAt b 1 = 1 then some (r, .immediate) else if byteAt b 1 = 2 then some (r, .drain) else none
    | none => none

/-- ALIGN: a lock group 1–3 (R68). -/
def readAlign (b : List Byte) : Except Status (Fin 4) :=
  checked (b.length = 1) <|
    match idAt 4 b 0 with
    | some g => if g = 0 then none else some g
    | none => none

structure SegmentFields where
  segment     : SegNo
  stepPeriod  : Option Nat
  settleTime  : Option Nat
  motionLimit : Option Nat
  hold        : Option Nat
  enable      : Option Bool
deriving DecidableEq, Repr

/-- SEGMENT-SETUP: presence bits 0–4; the timings and the motion limit are clamped and not checked (R87). -/
def readSegmentSetup (b : List Byte) : Except Status SegmentFields :=
  checked (b.length = 7) <|
    match idAt 8 b 0, optionalItem b 1 4 (flagAt b 6), optionalItem b 1 0 (some (byteAt b 2)),
        optionalItem b 1 1 (some (byteAt b 3)), optionalItem b 1 2 (some (byteAt b 4)),
        optionalItem b 1 3 (some (byteAt b 5)) with
    | some g, some enable, some step, some settle, some limit, some hold =>
      if byteAt b 1 ≤ 31 then some ⟨g, step, settle, limit, hold, enable⟩ else none
    | _, _, _, _, _, _ => none

def fieldKindOf : Nat → Option FieldKind
  | 0 => some .symbol
  | 1 => some .last
  | 2 => some .change
  | 3 => some .volume
  | 4 => some .bid
  | 5 => some .ask
  | 6 => some .high
  | 7 => some .low
  | _ => none

/-- One field of a LAYOUT at place k: kind, start 0–31, width 1–32, not past cell 31 (R90). -/
def layoutFieldAt (b : List Byte) (k : Nat) : Option Field :=
  match fieldKindOf (byteAt b k) with
  | some kind =>
    if byteAt b (k + 1) ≤ 31 ∧ 1 ≤ byteAt b (k + 2) ∧ byteAt b (k + 2) ≤ 32 ∧
        byteAt b (k + 1) + byteAt b (k + 2) ≤ Config.rowCells then
      some ⟨kind, byteAt b (k + 1), byteAt b (k + 2)⟩
    else none
  | none => none

def layoutFields (b : List Byte) : Nat → Option (List Field)
  | 0 => some []
  | n + 1 =>
    match layoutFields b n, layoutFieldAt b (1 + 3 * n) with
    | some l, some f => some (l ++ [f])
    | _, _ => none

/-- No two fields cover a common cell (R90). -/
def fieldsDisjoint : List Field → Bool
  | [] => true
  | f :: l => l.all (fun g => f.start + f.width ≤ g.start || g.start + g.width ≤ f.start) && fieldsDisjoint l

/-- LAYOUT: a layout and 1–8 fields (R90). -/
def readLayout (b : List Byte) : Except Status (LayoutNo × List Field) :=
  checked (1 ≤ b.length && (b.length - 1) % 3 = 0 && 1 ≤ (b.length - 1) / 3 && (b.length - 1) / 3 ≤ 8) <|
    match idAt 8 b 0, layoutFields b ((b.length - 1) / 3) with
    | some l, some fields => if fieldsDisjoint fields then some (l, fields) else none
    | _, _ => none

/-- BIND: row, slot and layout (R104). -/
def readBind (b : List Byte) : Except Status (RowNo × Slot × LayoutNo) :=
  checked (b.length = 4) <|
    match idAt 256 b 0, slotAt b 1, idAt 8 b 3 with
    | some r, some i, some l => some (r, i, l)
    | _, _, _ => none

/-- A body of one row byte: UNBIND and ROW-CLEAR (R105, R106). -/
def readRow (b : List Byte) : Except Status RowNo := checked (b.length = 1) (idAt 256 b 0)

/-- ROW-SETUP: a row and a unit: 0xFF and address 0 for none, or a segment and an address 1–31 (R107). -/
def readRowSetup (b : List Byte) : Except Status (RowNo × Option RowUnit) :=
  checked (b.length = 3) <|
    match idAt 256 b 0 with
    | some r =>
      if byteAt b 1 = 255 then (if byteAt b 2 = 0 then some (r, none) else none)
      else
        match idAt 8 b 1, idAt 32 b 2 with
        | some g, some a => if a = 0 then none else some (r, some ⟨g, a⟩)
        | _, _ => none
    | none => none

/-- EXERCISE: a segment and a seed (R122). -/
def readExercise (b : List Byte) : Except Status (SegNo × Word) :=
  checked (b.length = 3) <|
    match idAt 8 b 0 with
    | some g => some (g, BitVec.ofNat 16 (wordAt b 1))
    | none => none

def rateOf (n : Nat) : Option Rate :=
  if n = 300 then some .b300
  else if n = 1200 then some .b1200
  else if n = 2400 then some .b2400
  else if n = 4800 then some .b4800
  else if n = 9600 then some .b9600
  else none

def formatOf (n : Nat) : Option Format :=
  if n = 0 then some .even7 else if n = 1 then some .odd7 else if n = 2 then some .none8 else none

structure LineFields where
  line   : LineNo
  rate   : Option Rate
  format : Option Format
  enable : Option Bool
deriving DecidableEq, Repr

/-- LINE-SETUP: presence bits 0–2 (R132). -/
def readLineSetup (b : List Byte) : Except Status LineFields :=
  checked (b.length = 6) <|
    match idAt 16 b 0, optionalItem b 1 0 (rateOf (wordAt b 2)), optionalItem b 1 1 (formatOf (byteAt b 4)),
        optionalItem b 1 2 (flagAt b 5) with
    | some t, some rate, some format, some enable =>
      if byteAt b 1 ≤ 7 then some ⟨t, rate, format, enable⟩ else none
    | _, _, _, _ => none

/-- TERMINAL-TEXT: a line and 1–60 printable characters (R140). -/
def readTerminalText (b : List Byte) : Except Status (LineNo × Text) :=
  checked (2 ≤ b.length && b.length ≤ 61) <|
    match idAt 16 b 0, textFrom b 1 with
    | some t, some text => some (t, text)
    | _, _ => none

/-- LINE-TEST: a line and 1–60 characters; their range is checked against the line's format later (R141). -/
def readLineTest (b : List Byte) : Except Status (LineNo × Text) :=
  checked (2 ≤ b.length && b.length ≤ 61) <|
    match idAt 16 b 0 with
    | some t => some (t, b.drop 1)
    | none => none

end Sys2Proof.Machine
end

