-- ==== Sys2Proof/Machine/Wire.lean ====
section
/-! DEFINITION. What goes out on the serial lines, bit by bit and byte by byte, and how what comes in is judged: the
board line frames with their sums (R113, R182), the characters of the ribbon lines (R72), and the characters of the
terminal lines with their parity (R134, R183). -/

namespace Sys2Proof.Machine

/-! ## Board line frames (section 10.6) -/

/-- The modulo-256 sum of bytes (R113). -/
def frameSum (l : List Byte) : Byte := l.foldl (· + ·) 0

/-- The lamp byte: bit 0 UP, bit 1 DOWN, bit 2 FRESH, the others 0. -/
def lampByte (l : Lamps) : Byte := byte ((if l.up then 1 else 0) + (if l.down then 2 else 0) + (if l.fresh then 4 else 0))

def frameKind : FrameBody → Byte
  | .image _ => 0x49
  | .lamps _ => 0x4C
  | .poll => 0x50
  | .echoRequest => 0x45

def frameBodyBytes : FrameBody → List Byte
  | .image i => i.cells.map byte ++ [lampByte i.lamps]
  | .lamps l => [lampByte l]
  | .poll => []
  | .echoRequest => []

/-- The bytes of a frame the 7240 sends: kind, address, body and sum (R182). -/
def frameBytes (f : Frame) : List Byte :=
  let b := frameKind f.body :: byte f.address.val :: frameBodyBytes f.body
  b ++ [frameSum b]

def ackKind : Byte := 0x06
def nakKind : Byte := 0x15
def statusKind : Byte := 0x53
def echoKind : Byte := 0x65

/-- The kind bytes of the frames a unit sends. -/
def answerKinds : List Byte := [ackKind, nakKind, statusKind, echoKind]

/-- Whether a complete frame received is right in itself: its sum is right and no byte came with a framing error (R182). -/
def frameRight (bytes : List Byte) (sum : Byte) (spoiled : Bool) : Bool := !spoiled && frameSum bytes == sum

/-! ## Characters (R72, R134, R183) -/

/-- The low n bits of a byte, least significant first. -/
def dataBits (n : Nat) (c : Byte) : List Bool := (List.range n).map c.getLsbD

/-- One start bit, 8 data bits, no parity, one stop bit: a character of a ribbon line and a byte of a board line. -/
def byteWire (c : Byte) : List Bool := false :: dataBits 8 c ++ [true]

def dataLength : Format → Nat
  | .even7 => 7
  | .odd7 => 7
  | .none8 => 8

/-- The parity bit of seven data bits (R183); none in the eight-bit format. -/
def parityBits (f : Format) (data : List Bool) : List Bool :=
  match f with
  | .even7 => [(data.count true) % 2 == 1]
  | .odd7 => [(data.count true) % 2 == 0]
  | .none8 => []

/-- A character of a terminal line: start bit, data bits least significant first, parity bit, stop bit (R183). Mark is
true and space is false. -/
def charWire (f : Format) (c : Byte) : List Bool :=
  let data := dataBits (dataLength f) c
  false :: data ++ parityBits f data ++ [true]

/-- What the receiver finds in the bits it sampled (R134). -/
inductive Finding where
  | falseStart
  | break_
  | framing
  | parity
  | good (c : Byte)
deriving DecidableEq, Repr

/-- The value of data bits, least significant first. -/
def bitsValue : List Bool → Nat
  | [] => 0
  | b :: l => (if b then 1 else 0) + 2 * bitsValue l

/-- The judgement of a character from its samples: the start bit, the data bits, the parity bits (none in the eight-bit
format) and the stop bit (R134). -/
def judge (f : Format) (start : Bool) (data par : List Bool) (stop : Bool) : Finding :=
  if start then .falseStart
  else if !stop then (if data.all (!·) && par.all (!·) then .break_ else .framing)
  else if par = parityBits f data then .good (byte (bitsValue data))
  else .parity

/-- The character as it goes on the wire: its low seven bits in a seven-bit format (R138, R183). -/
def carried (f : Format) (c : Byte) : Byte :=
  match f with
  | .none8 => c
  | _ => c &&& 0x7F

/-! ## Screen sequences (R183) -/

def dle : Byte := 0x10
def bel : Byte := 0x07
def bs : Byte := 0x08
def del : Byte := 0x7F
def cr : Byte := 0x0D

/-- Cursor positioning to line l, column c: DLE, l + 0x40, c + 0x40. -/
def position (l c : Nat) : Text := [dle, byte (l + 0x40), byte (c + 0x40)]
def eraseToEnd : Text := [dle, ch 'E']
def clearScreen : Text := [dle, ch 'C']

end Sys2Proof.Machine
end

