-- ==== Sys2Proof/Decode.lean ====
section
/-! DEFINITION. Words and frames that spell a command. No row of the table gives bits: the commands are requests, events
and timers, not words of a program. What does spell a command is a request frame of the host channel (R164, section
10.2), and `requestCommand` says which. -/

namespace Sys2Proof

/-- The command that a word spells by the table's bits. No row gives bits, so every word is refused. -/
def decodeTableWord (_nbits _w : Nat) : Option Instr := none

open Machine in
/-- The action of a SET-STATE frame is HALT; every other SET-STATE frame is counted with OPEN (R18). -/
def haltFrame (body : List Byte) : Bool :=
  match readSetState body with
  | .ok (_, .haltWord) => true
  | _ => false

open Machine in
/-- The mode of a RIBBON-STOP frame is DRAIN; every other RIBBON-STOP frame is counted with IMMEDIATE (R69). -/
def drainFrame (body : List Byte) : Bool :=
  match readRibbonStop body with
  | .ok (_, .drain) => true
  | _ => false

open Machine in
/-- The command that a complete request frame spells, by its kind byte (section 10.2). -/
def requestCommand (kind : Byte) (body : List Byte) : Instr :=
  if kind = kindList then .list body
  else if kind = kindDelist then .delist body
  else if kind = kindTrade then .trade body
  else if kind = kindTradeBlock then .tradeBlock body
  else if kind = kindQuote then .quote body
  else if kind = kindSetState then (if haltFrame body then .setStateHalt body else .setStateOpen body)
  else if kind = kindFetch then .fetch body
  else if kind = kindAmend then .amend body
  else if kind = kindDayRoll then .dayRoll body
  else if kind = kindBulletin then .bulletin body
  else if kind = kindRibbonSetup then .ribbonSetup body
  else if kind = kindRibbonStart then .ribbonStart body
  else if kind = kindRibbonStop then (if drainFrame body then .ribbonStopDrain body else .ribbonStopImmediate body)
  else if kind = kindAlign then .align body
  else if kind = kindSegmentSetup then .segmentSetup body
  else if kind = kindLayout then .layout body
  else if kind = kindBind then .bind body
  else if kind = kindUnbind then .unbind body
  else if kind = kindRowClear then .rowClear body
  else if kind = kindRowSetup then .rowSetup body
  else if kind = kindExercise then .exercise body
  else if kind = kindLineSetup then .lineSetup body
  else if kind = kindTerminalText then .terminalText body
  else if kind = kindLineTest then .lineTest body
  else if kind = kindCollect then .collect body
  else if kind = kindSettle then .settle body
  else if kind = kindRestart then .restart body
  else .unknownKind kind body

/-! Writing the bodies of section 10.2: the bytes a host writes for a request's fields. An item that is not given stands as
zero bytes with its presence bit clear (R181). -/

namespace Machine

/-- A body of one slot word: DELIST. -/
def slotBody (i : Slot) : List Byte := wordBytes i.val

def listBody (f : ListFields) : List Byte :=
  wordBytes f.slot.val ++ symbolBytes f.symbol ++ [byte f.e, byte f.group.val] ++ priceBytes (some f.close)

/-- A trade item: bit 0 of its flags byte is print-on-tape, bit 1 out-of-sequence. -/
def tradeItemBody (t : TradeItem) : List Byte :=
  wordBytes t.slot.val ++ priceBytes (some t.price) ++ tripleBytes t.shares ++
    [byte ((if t.onTape then 1 else 0) + (if t.late then 2 else 0))]

def tradeBlockBody (l : List TradeItem) : List Byte := l.flatMap tradeItemBody

def quoteBody (f : QuoteFields) : List Byte := wordBytes f.slot.val ++ priceBytes f.bid ++ priceBytes f.ask

/-- The action and the stop mode codes (section 10.3). -/
def actionCode : StateWord → Byte
  | .openWord => 1
  | .haltWord => 2

def modeCode : StopMode → Byte
  | .immediate => 1
  | .drain => 2

def setStateBody (f : Slot × StateWord) : List Byte :=
  wordBytes f.1.val ++ [actionCode f.2]

def fetchBody (f : FetchTarget × Bool) : List Byte :=
  (match f.1 with
   | .slot i => wordBytes i.val
   | .symbol s => symbolBytes s) ++ [flagByte f.2]

/-- An optional price as it stands in a body. -/
def optionalPrice (p : Option Price) : List Byte :=
  match p with
  | some q => priceBytes q
  | none => [0, 0, 0, 0]

/-- The presence byte of optional items, bit 0 first, with a flag at bit 7. -/
def presence (items : List Bool) (top : Bool) : Byte :=
  byte (bitsValue items + if top then 128 else 0)

def amendBody (f : AmendFields) : List Byte :=
  wordBytes f.slot.val ++
    [presence [f.last.isSome, f.high.isSome, f.low.isSome, f.volume.isSome, f.close.isSome] f.print] ++
    optionalPrice f.last ++ optionalPrice f.high ++ optionalPrice f.low ++ longBytes (f.volume.getD 0) ++
    optionalPrice (f.close.map some)

def bulletinBody (f : Byte × Text) : List Byte := f.1 :: f.2

def ribbonSetupBody (f : RibbonFields) : List Byte :=
  [byte f.ribbon.val,
   presence [f.groupMask.isSome, f.lockGroup.isSome, f.normalRate.isSome, f.fastRate.isSome] false] ++
    wordBytes (f.groupMask.getD 0).toNat ++ [byte (f.lockGroup.getD 0).val] ++ wordBytes (f.normalRate.getD 0) ++
    wordBytes (f.fastRate.getD 0)

def ribbonStopBody (f : RibbonNo × StopMode) : List Byte :=
  [byte f.1.val, modeCode f.2]

def segmentSetupBody (f : SegmentFields) : List Byte :=
  [byte f.segment.val,
   presence [f.stepPeriod.isSome, f.settleTime.isSome, f.motionLimit.isSome, f.hold.isSome, f.enable.isSome] false,
   byte (f.stepPeriod.getD 0), byte (f.settleTime.getD 0), byte (f.motionLimit.getD 0), byte (f.hold.getD 0),
   flagByte (f.enable.getD false)]

/-- The field-kind code (section 10.3). -/
def fieldKindCode : FieldKind → Byte
  | .symbol => 0
  | .last => 1
  | .change => 2
  | .volume => 3
  | .bid => 4
  | .ask => 5
  | .high => 6
  | .low => 7

def layoutBody (f : LayoutNo × List Field) : List Byte :=
  byte f.1.val :: f.2.flatMap (fun x => [fieldKindCode x.kind, byte x.start, byte x.width])

def bindBody (f : RowNo × Slot × LayoutNo) : List Byte := byte f.1.val :: wordBytes f.2.1.val ++ [byte f.2.2.val]

def rowSetupBody (f : RowNo × Option RowUnit) : List Byte :=
  byte f.1.val :: (match f.2 with
    | some u => [byte u.segment.val, byte u.address.val]
    | none => [0xFF, 0])

def exerciseBody (f : SegNo × Word) : List Byte := byte f.1.val :: wordBytes f.2.toNat

def lineSetupBody (f : LineFields) : List Byte :=
  [byte f.line.val, presence [f.rate.isSome, f.format.isSome, f.enable.isSome] false] ++
    wordBytes ((f.rate.map baud).getD 0) ++ [(f.format.map formatCode).getD 0, flagByte (f.enable.getD false)]

def textBody (f : LineNo × Text) : List Byte := byte f.1.val :: f.2

end Machine

end Sys2Proof
end

