-- ==== Sys2Proof/Machine/Flags.lean ====
section
/-! DEFINITION. The flags of the part: the notice set with ATTENTION (R170, R171), the outputs of the host channel (R162,
R180), the outputs of a terminal line (R131, R141), the tick (R13) and the lamps a tick lights (R98). -/

namespace Sys2Proof.Machine

/-- The place of a notice in the order of R171: by kind, then by object. -/
def noticeRank : Notice → Nat
  | .row r => r.val
  | .segment g => 256 + g.val
  | .ribbon r => 264 + r.val
  | .tape => 268
  | .terminal t => 269 + t.val
  | .settled => 285
  | .channel => 286

/-- A flag put in its place in the order. -/
def insertNotice (n : Notice) : List Notice → List Notice
  | [] => [n]
  | m :: l => if noticeRank n < noticeRank m then n :: m :: l else m :: insertNotice n l

/-- Make a notice pending; a flag already set stays set (R170). -/
def Device.raise (d : Device) (n : Notice) : Device :=
  if n ∈ d.notices then d else d.setNotices (insertNotice n d.notices)

/-- Clear one flag (R171). -/
def Device.clearNotice (d : Device) (n : Notice) : Device :=
  d.setNotices (d.notices.filter (· ≠ n))

/-- The notice a COLLECT takes: the kind first in the order, then the lowest object (R171). -/
def firstNotice : List Notice → Option Notice
  | [] => none
  | n :: l =>
    match firstNotice l with
    | none => some n
    | some m => if noticeRank n ≤ noticeRank m then some n else some m

/-- ATTENTION: asserted exactly when a flag is set (R170), and low while the reset input is held (R180). -/
def Device.attention (d : Device) : Bool := !d.resetHeld && !d.notices.isEmpty

/-- BUSY: high in WORKING (R162) and while the reset input is held (R180). -/
def Device.busy (d : Device) : Bool := d.resetHeld || d.channel.state == .working

/-- The service output of a terminal line: on in ABSENT, ACTIVE and LOOPBACK, off in DISABLED (R131). -/
def Terminal.serviceOutput (x : Terminal) : Bool := x.state != .disabled

/-- The character on a terminal line's wire; with none the wire is at mark, as it is held while a test's characters go
round the loop (R138, R141). -/
def Terminal.onWire (x : Terminal) : Option Sending := x.transmitter.filter (fun y => !y.loop)

/-- The tick of a new price, from the last and the tick before it (R13). -/
def newTick (before : Price) (tick : Tick) (price : Nat) : Tick :=
  match before with
  | none => .none
  | some last =>
    if last < price then .up
    else if price < last then .down
    else
      match tick with
      | .up | .zeroUp => .zeroUp
      | .down | .zeroDown => .zeroDown
      | .none => .none

/-- The UP and DOWN lamps of a bound row (R98). -/
def tickUp (t : Tick) : Bool := t == .up || t == .zeroUp
def tickDown (t : Tick) : Bool := t == .down || t == .zeroDown

/-- No lamp lit. -/
def lampsOff : Lamps := ⟨false, false, false⟩

end Sys2Proof.Machine
end

