-- ==== Sys2Proof/Machine/SettleOps.lean ====
section
/-! DEFINITION. The settle record's reports and its completion (R176, R177). -/

namespace Sys2Proof.Machine

/-- The counts the result takes at completion (R177). -/
def settleResult (x : Settle) : SettleResult :=
  ⟨x.rowsOwing, x.rowsShown, x.rowsNotShown, x.ribbonsWithTargets, x.ribbonsReached, x.ribbonsStopped⟩

/-- Complete the settle when nothing is owed any more: outstanding becomes no, the result takes the counts, and the
SETTLED notice becomes pending (R177). -/
def Device.settleCheck (d : Device) : Device :=
  let x := d.channel.settle
  if x.rowsStillOwing = 0 ∧ x.unsettled = [] then
    (d.modSettle (fun x => { x with outstanding := false, result := settleResult x })).raise .settled
  else d

/-- Take one report while a settle is outstanding (R176). -/
def Device.settleReport (d : Device) (f : Settle → Settle) : Device :=
  if d.channel.settle.outstanding then (d.modSettle f).settleCheck else d

/-- A row reports itself shown, or not shown (R108, R176). -/
def Device.reportShown (d : Device) : Device :=
  d.settleReport (fun x => { x with rowsStillOwing := x.rowsStillOwing - 1, rowsShown := x.rowsShown + 1 })
def Device.reportNotShown (d : Device) : Device :=
  d.settleReport (fun x => { x with rowsStillOwing := x.rowsStillOwing - 1, rowsNotShown := x.rowsNotShown + 1 })

/-- A ribbon that is unsettled reports that it has finished its target (R82, R176). -/
def Device.reportReached (d : Device) (r : RibbonNo) (id : Nat) : Device :=
  if (r, id) ∈ d.channel.settle.unsettled then
    d.settleReport (fun x =>
      { x with unsettled := x.unsettled.filter (fun p => p.1 ≠ r), ribbonsReached := x.ribbonsReached + 1 })
  else d

/-- A ribbon that is unsettled reports that it has become STOPPED (R82, R176). -/
def Device.reportStopped (d : Device) (r : RibbonNo) : Device :=
  if d.channel.settle.unsettled.any (fun p => p.1 = r) then
    d.settleReport (fun x =>
      { x with unsettled := x.unsettled.filter (fun p => p.1 ≠ r), ribbonsStopped := x.ribbonsStopped + 1 })
  else d

end Sys2Proof.Machine
end

