-- ==== Sys2Proof/Machine/RowOps.lean ====
section
/-! DEFINITION. The shared operations of the board controller: marks (R94), the repaint queue (R95), entry into DOWN and
FAULTED (R93), composition of images (R97, R98), flap arithmetic (R99), completion (R101), and the exercise (R123, R125,
R126). -/

namespace Sys2Proof.Machine

/-! ## The rows of a segment -/

/-- Whether a row's unit sits on a segment (R86). -/
def Row.onSegment (x : Row) (g : SegNo) : Bool :=
  match x.rowUnit with
  | some u => u.segment == g
  | none => false

/-- The rows of a segment, in ascending row number (R86). -/
def rowsOf (d : Device) (g : SegNo) : List RowNo := everyRow.filter (fun r => (d.row r).onSegment g)

/-- The number of a segment's rows in a display state. -/
def countDisplay (d : Device) (g : SegNo) (s : Display) : Nat :=
  ((rowsOf d g).filter (fun r => (d.row r).display == s)).length

/-- The exercise step of a row while its segment is in EXERCISE and lists it (R127). -/
def exerciseStep (d : Device) (r : RowNo) : Option ExerciseStep :=
  match (d.row r).rowUnit with
  | none => none
  | some u =>
    if (d.segment u.segment).state = .exercise then
      ((d.segment u.segment).exerciseList.find? (fun x => x.row == r)).map (·.step)
    else none

/-- The rows of the exercise that are at PATTERN-SENT or TURNING (R124). -/
def turningCount (d : Device) (g : SegNo) : Nat :=
  ((d.segment g).exerciseList.filter (fun x => x.step == .patternSent || x.step == .turning)).length

/-- The rows that the test of R87 and R109 counts against a motion limit: MOVING, SENDING, PATTERN-SENT and TURNING. -/
def motionLoad (d : Device) (g : SegNo) : Nat :=
  countDisplay d g .moving + countDisplay d g .sending + turningCount d g

/-! ## The repaint queue and marks (R94, R95) -/

/-- A row becomes QUEUED at the tail of the repaint queue of its segment (R95). -/
def enqueueRow (r : RowNo) (d : Device) : Device :=
  match (d.row r).rowUnit with
  | none => d
  | some u =>
    (d.modRow r (fun x => { x with display := .queued })).modSegment u.segment
      (fun s => { s with queue := s.queue ++ [r] })

/-- A mark, by the row's display state (the table of R94). -/
def markRow (r : RowNo) (d : Device) : Device :=
  match (d.row r).display with
  | .clean => enqueueRow r (d.modRow r (fun x => { x with lampOffOwed := false }))
  | .queued => d
  | .sending => d.modRow r (fun x => { x with again := true })
  | .moving => d.modRow r (fun x => { x with again := true })
  | .down => d
  | .faulted => d

/-! ## Flap arithmetic (R99) -/

/-- The steps of one drum, forward only. -/
def drumSteps (shown target : Nat) : Nat :=
  (target + Config.drumPositions - shown) % Config.drumPositions

/-- The step count of each cell, from the shown image, or 39 for every cell of an unknown one. -/
def cellSteps (shown : Option Image) (target : Image) : List Nat :=
  match shown with
  | some i => List.zipWith drumSteps i.cells target.cells
  | none => target.cells.map (fun _ => Config.unknownSteps)

def greatest (l : List Nat) : Nat := l.foldl max 0

/-- The estimate of a repaint, in ms. -/
def estimate (s : Segment) (shown : Option Image) (target : Image) : Nat :=
  greatest (cellSteps shown target) * s.stepPeriod + s.settleTime

/-- The stall timer of a motion (R100). -/
def stallTime (est : Nat) : Nat := est + est / 2 + Config.stallMargin

/-- The lowest-numbered cell with the greatest step count (R102). -/
def slowestCell (shown : Option Image) (target : Image) : Nat :=
  (cellSteps shown target).idxOf (greatest (cellSteps shown target))

/-! ## Composition (R97, R98) -/

/-- Put a text's drum positions into the cells from a start cell (R45, R97). -/
def placeText (cells : List Nat) (start : Nat) (t : Text) : List Nat :=
  cells.take start ++ t.map drumPosition ++ cells.drop (start + t.length)

/-- All cells blank. -/
def blankCells : List Nat := List.replicate Config.rowCells 0

/-- The cells of a row's image: each field of its layout written from its slot's record (R97). -/
def composeCells (d : Device) (x : Row) : List Nat :=
  match x.binding with
  | none => blankCells
  | some i =>
    (d.layout x.layout).foldl (fun c f => placeText c f.start (fieldText (d.slot i) true f.kind f.width)) blankCells

/-- Whether the LAST text has changed from the shown image (R98). -/
def lastTextChanged (d : Device) (x : Row) (cells : List Nat) : Bool :=
  match x.binding, (d.layout x.layout).find? (fun f => f.kind == .last), x.shown with
  | some i, some f, some shown =>
    x.shownSlot == some i && (cells.drop f.start).take f.width != (shown.cells.drop f.start).take f.width
  | _, _, _ => false

def Timer.isRunning : Timer → Bool
  | .stopped => false
  | .running _ => true

/-- The image of a repaint with its lamps; an unbound row's lamps are all off (R97, R98). -/
def composeImage (d : Device) (s : Segment) (x : Row) : Image :=
  let cells := composeCells d x
  match x.binding with
  | none => ⟨cells, lampsOff⟩
  | some i =>
    ⟨cells,
      ⟨tickUp (d.slot i).tick, tickDown (d.slot i).tick,
       s.hold != 0 && (lastTextChanged d x cells || x.holdTimer.isRunning)⟩⟩

/-! ## The exercise (R123, R126) -/

/-- One step of the pattern register: the new bit is bit 14 xor bit 13 and enters at bit 0 (R123). -/
def registerStep (v : BitVec 15) : BitVec 15 :=
  (v <<< 1) ||| (if v.getLsbD 14 ^^ v.getLsbD 13 then 1 else 0)

/-- Six steps of the register: one cell's worth (R123). -/
def registerSix (v : BitVec 15) : BitVec 15 :=
  registerStep (registerStep (registerStep (registerStep (registerStep (registerStep v)))))

/-- The starting value for a row: the seed xor the row number times 257, its low 15 bits, 0 replaced by 1 (R123). -/
def registerStart (seed : Word) (r : RowNo) : BitVec 15 :=
  let v := (seed ^^^ BitVec.ofNat 16 (r.val * 257)).setWidth 15
  if v = 0 then 1 else v

/-- The positions of n cells drawn from a register value (R123). -/
def drawCells : Nat → BitVec 15 → List Nat
  | 0, _ => []
  | n + 1, v => ((registerSix v).toNat % 64) % Config.drumPositions :: drawCells n (registerSix v)

/-- The exercise pattern of a row; its lamps are all off (R123). -/
def exercisePattern (seed : Word) (r : RowNo) : Image := ⟨drawCells Config.rowCells (registerStart seed r), lampsOff⟩

/-- Set the step of one listed row. -/
def setStep (r : RowNo) (f : ExerciseRow → ExerciseRow) (g : SegNo) (d : Device) : Device :=
  d.modSegment g (fun s =>
    { s with exerciseList := s.exerciseList.map (fun x => if x.row = r then f x else x) })

def stepDone (s : ExerciseStep) : Bool := s == .passed || s == .failed

/-- A PASSED row joins the repaint queue when it is CLEAN, and its lamp-off owed is cleared (R126). -/
def releasePassed (r : RowNo) (d : Device) : Device :=
  let d1 := d.modRow r (fun x => { x with lampOffOwed := false })
  if (d1.row r).display = .clean then enqueueRow r d1 else d1

/-- The exercise ends when every listed row is PASSED or FAILED: the result is held, the passed rows are queued in
ascending row number, the segment becomes ACTIVE, and the SEGMENT notice becomes pending (R126). As whenever a segment
becomes ACTIVE, the poll cursor of its line is none (R118); the line keeps its completion cursor (DEDUCED, log 31). -/
def exerciseCheck (g : SegNo) (d : Device) : Device :=
  let s := d.segment g
  if s.state = .exercise ∧ s.exerciseList.all (fun x => stepDone x.step) then
    let passed := s.exerciseList.filter (fun x => x.step == .passed)
    let failed := s.exerciseList.filter (fun x => x.step == .failed)
    let d1 := forEach (passed.map (·.row)) releasePassed d
    let d2 := d1.modSegment g (fun s =>
      { s with
        state := .active, exerciseList := [],
        result := ⟨s.exerciseList.length, passed.length, failed.length⟩ })
    (d2.modLine g (fun l => { l with pollCursor := none })).raise (.segment g)
  else d

/-- A listed row that enters DOWN or FAULTED before PASSED is FAILED (R125). -/
def exerciseFail (r : RowNo) (d : Device) : Device :=
  match (d.row r).rowUnit with
  | none => d
  | some u =>
    if (d.segment u.segment).state = .exercise then
      exerciseCheck u.segment
        (setStep r (fun x => if stepDone x.step then x else { x with step := .failed }) u.segment d)
    else d

/-! ## Entry into DOWN and FAULTED (R93) -/

/-- The row's own parts at an entry into DOWN or FAULTED (R93): the repaint ends, the timers stop, the marks are cleared
and the image is unknown. -/
def darkRow (x : Row) (s : Display) (c : Cause) : Row :=
  { x with
    display := s, cause := c, holdTimer := .stopped, stallTimer := .stopped, again := false, newFresh := false,
    lampOffOwed := false, sent := none, shown := none, shownSlot := none, owed := 0, motionOrder := none,
    pollWait := .stopped }

/-- A row leaves the repaint queue of its segment (R93, R95). -/
def dequeueRow (r : RowNo) (d : Device) : Device :=
  match (d.row r).rowUnit with
  | none => d
  | some u => d.modSegment u.segment (fun s => { s with queue := s.queue.filter (· ≠ r) })

/-- The effects of R93: out of the queue, the row's parts, a not-shown report when it owed, the ROW notice when asked,
and FAILED when an exercise lists it (R125). -/
def darken (r : RowNo) (s : Display) (c : Cause) (notice : Bool) (d : Device) : Device :=
  let owed := (d.row r).owed
  let d1 := (dequeueRow r d).modRow r (fun x => darkRow x s c)
  let d2 := if 0 < owed then d1.reportNotShown else d1
  exerciseFail r (if notice then d2.raise (.row r) else d2)

/-- Entry into DOWN; every cause but SEGMENT-OFF raises the ROW notice (R93). -/
def enterDown (r : RowNo) (c : Cause) (d : Device) : Device := darken r .down c (c != .segmentOff) d

/-- Entry into FAULTED with its fault cell (R93, R102, R125). -/
def enterFaulted (r : RowNo) (c : Cause) (cell : Nat) (d : Device) : Device :=
  darken r .faulted c true (d.modRow r (fun x => { x with faultCell := cell }))

/-! ## Motion and completion (R86, R100, R101) -/

/-- A row takes the next motion order of its segment, its stall timer and its poll wait start (R86, R100, R117). -/
def startMotion (r : RowNo) (g : SegNo) (est : Nat) (d : Device) : Device :=
  let order := (d.segment g).motionCounter
  (d.modSegment g (fun s => { s with motionCounter := s.motionCounter + 1 })).modRow r (fun x =>
    { x with
      motionOrder := some order, stallTimer := .running (stallTime est),
      pollWait := .running Config.pollWaitTime })

/-- A row that owes pays one DONE; the last one reports it shown (R101, R108). -/
def payDone (r : RowNo) (d : Device) : Device :=
  let owed := (d.row r).owed
  if owed = 0 then d
  else
    let d1 := d.modRow r (fun x => { x with owed := owed - 1 })
    if owed = 1 then d1.reportShown else d1

/-- The row's own parts when its repaint completes (steps 1 to 4 of R101). The shown slot takes the binding the row has
then, by step 2 of R101; after a BIND or an UNBIND during the motion R91's words would have it keep the slot the image was
composed from (DEDUCED, log 30). -/
def completedRow (hold : Nat) (x : Row) : Row :=
  let lit := match x.sent with
    | some s => s.image.lamps.fresh
    | none => false
  { x with
    display := .clean, stallTimer := .stopped, pollWait := .stopped, motionOrder := none,
    shown := x.sent.map (·.image), shownSlot := x.binding, sent := none, newFresh := false,
    holdTimer := if x.newFresh then .running hold else x.holdTimer,
    lampOffOwed := x.lampOffOwed || (!x.newFresh && lit && !x.holdTimer.isRunning) }

/-- The repaint of a MOVING row completes (R101). -/
def completeRepaint (r : RowNo) (g : SegNo) (d : Device) : Device :=
  let again := (d.row r).again
  let d1 := payDone r (d.modRow r (completedRow (d.segment g).hold))
  if again then enqueueRow r (d1.modRow r (fun x => { x with again := false, lampOffOwed := false })) else d1

end Sys2Proof.Machine
end

