-- ==== Sys2Proof/Machine/LineOps.lean ====
section
/-! DEFINITION. The shared operations of the board lines: which use a free line takes (R116, R118, R124), sending and
resending a frame (R114, R115), judging an answer (R113), and what each answer does (R100, R103, R117, R119, R120, R125). -/

namespace Sys2Proof.Machine

/-! ## The line (R112) -/

inductive LineState where
  | off | free | inHand
deriving DecidableEq, Repr

/-- The line state, from the segment's state and the frame in hand (R112). -/
def Device.lineState (d : Device) (g : SegNo) : LineState :=
  if (d.segment g).state = .disabled then .off
  else if (d.line g).frame.isSome then .inHand
  else .free

/-- The retry count of a row's record: the line's count for the row whose frame is in hand, and 0 for every other row
(R91, R112). -/
def retryCount (d : Device) (r : RowNo) : Nat :=
  match (d.row r).rowUnit with
  | none => 0
  | some u =>
    match (d.line u.segment).frame with
    | some f => if f.row = r then (d.line u.segment).retry else 0
    | none => 0

/-- The row of a list with the least key, the first of those with the same key. -/
def leastBy (key : RowNo → Nat) : List RowNo → Option RowNo
  | [] => none
  | r :: l =>
    match leastBy key l with
    | none => some r
    | some q => if key r ≤ key q then some r else some q

/-! ## The uses of a free line (R116, R124) -/

/-- The start condition of R96, but for the line's being free. -/
def startReady (d : Device) (g : SegNo) : Option RowNo :=
  if (d.segment g).state = .active ∧ countDisplay d g .moving < (d.segment g).motionLimit then
    (d.segment g).queue.head?
  else none

/-- The lowest-numbered CLEAN row with lamp-off owed (R103, R116). -/
def lampRow (d : Device) (g : SegNo) : Option RowNo :=
  (rowsOf d g).find? (fun r => (d.row r).display == .clean && (d.row r).lampOffOwed)

/-- Whether a row's drums turn: MOVING under a repaint, or TURNING in an exercise (R117, R124). -/
def turns (d : Device) (r : RowNo) : Bool :=
  (d.row r).display == .moving || exerciseStep d r == some .turning

/-- How far a motion order lies behind the segment's counter, modulo 65,536 (R86). -/
def motionAge (d : Device) (g : SegNo) (order : Word) : Nat := ((d.segment g).motionCounter - order).toNat

/-- The age of a row's motion order. -/
def rowAge (d : Device) (g : SegNo) (r : RowNo) : Nat :=
  match (d.row r).motionOrder with
  | some o => motionAge d g o
  | none => 0

/-- The due row next in motion order after the completion cursor, wrapping round to the oldest (R116). -/
def dueRow (d : Device) (g : SegNo) : Option RowNo :=
  let due := (rowsOf d g).filter (fun r => (d.row r).pollWait == .due && turns d r)
  let oldest := leastBy (fun r => 65536 - rowAge d g r)
  match (d.line g).completionCursor with
  | none => oldest due
  | some c =>
    match oldest (due.filter (fun r => rowAge d g r < motionAge d g c)) with
    | some r => some r
    | none => oldest due

/-- Whether a row may be given a readiness poll (R118). -/
def pollable (d : Device) (r : RowNo) : Bool :=
  ((d.row r).display == .clean || (d.row r).display == .queued || (d.row r).display == .down) &&
    (match exerciseStep d r with
     | none => true
     | some .waiting => true
     | some .passed => true
     | some _ => false)

/-- A row's address, 0 for a row without a unit. -/
def rowAddress (d : Device) (r : RowNo) : UnitAddr :=
  match (d.row r).rowUnit with
  | some u => u.address
  | none => 0

/-- The pollable row with the lowest address above the poll cursor, or the lowest address of all (R118). -/
def readinessRow (d : Device) (g : SegNo) : Option RowNo :=
  let rows := (rowsOf d g).filter (pollable d)
  let least := leastBy (fun r => (rowAddress d r).val)
  match (d.line g).pollCursor with
  | none => least rows
  | some c =>
    match least (rows.filter (fun r => c < rowAddress d r)) with
    | some r => some r
    | none => least rows

/-- The lowest-numbered row at ECHOING (R124). -/
def echoRow (d : Device) (g : SegNo) : Option RowNo :=
  everyRow.find? (fun r => (d.segment g).exerciseList.any (fun x => x.row == r && x.step == .echoing))

/-- The first WAITING row, when it is CLEAN or QUEUED and there is room under the motion limit (R124). -/
def patternRow (d : Device) (g : SegNo) : Option RowNo :=
  match (d.segment g).exerciseList.find? (fun x => x.step == .waiting) with
  | none => none
  | some x =>
    if ((d.row x.row).display = .clean ∨ (d.row x.row).display = .queued) ∧
        countDisplay d g .moving + turningCount d g < (d.segment g).motionLimit then
      some x.row
    else none

/-- The first of several offers. -/
def firstOf : List (LineUse × Option RowNo) → Option (LineUse × RowNo)
  | [] => none
  | (u, some r) :: _ => some (u, r)
  | (_, none) :: l => firstOf l

/-- The use the line takes when it is FREE, with the row it is for: the order of R116 in ACTIVE and of R124 in EXERCISE. -/
def lineChoice (d : Device) (g : SegNo) : Option (LineUse × RowNo) :=
  if d.lineState g = .free then
    match (d.segment g).state with
    | .disabled => none
    | .active =>
      firstOf [(.repaint, startReady d g), (.lampChange, lampRow d g), (.completionPoll, dueRow d g),
        (.readinessPoll, readinessRow d g)]
    | .exercise =>
      firstOf [(.echoRequest, echoRow d g), (.pattern, patternRow d g), (.completionPoll, dueRow d g),
        (.readinessPoll, readinessRow d g)]
  else none

/-- Take a use: when the line's choice is this one, do its work for the row chosen; else nothing happens. -/
def takeUse (use : LineUse) (g : SegNo) (work : RowNo → Device → Device) (d : Device) : Device :=
  match lineChoice d g with
  | some (u, r) => if u = use then work r d else d
  | none => d

/-- Put a frame in hand; its first byte goes out (R112, R114). -/
def sendFrame (g : SegNo) (use : LineUse) (r : RowNo) (body : FrameBody) (d : Device) : Device :=
  d.modLine g (fun l =>
    { l with frame := some ⟨use, r, rowAddress d r, body⟩, retry := 0, answerTimer := .stopped })

/-! ## Answers (R113 to R115) -/

/-- The exchange ends: no frame in hand, the answer timer stopped, the retry count 0 (R112, R115). -/
def endExchange (g : SegNo) (d : Device) : Device :=
  d.modLine g (fun l => { l with frame := none, retry := 0, answerTimer := .stopped })

/-- The kind of the good answer to a frame (R113). -/
def goodKind : FrameBody → Byte
  | .image _ => ackKind
  | .lamps _ => ackKind
  | .poll => statusKind
  | .echoRequest => echoKind

/-- Whether a row's unit is the one a frame was addressed to. -/
def stillAt (d : Device) (g : SegNo) (f : Frame) : Bool := (d.row f.row).rowUnit == some ⟨g, f.address⟩

/-- Whether a good answer is of use: its row still has the unit it came from, and for a poll the row is still in a state
that the poll's table reads. A row that stalled while its completion poll was on the line is the rule's own case (R121,
R128). -/
def ofUse (d : Device) (g : SegNo) (f : Frame) : Bool :=
  stillAt d g f &&
    match f.use with
    | .completionPoll => turns d f.row
    | .readinessPoll =>
      (d.row f.row).display == .clean || (d.row f.row).display == .queued || (d.row f.row).display == .down
    | _ => true

/-- A good answer from a row's unit sets its missed-poll count to 0 (R114), unless the answer is of no use (R121, R128;
log 23). -/
def heard (g : SegNo) (f : Frame) (d : Device) : Device :=
  if ofUse d g f then d.modRow f.row (fun x => { x with missed := 0 }) else d

/-- The third unanswered poll: a row that was in service goes DOWN, cause SILENT, and a DOWN row's cause becomes SILENT
(the table of R120). -/
def takenSilent (r : RowNo) (d : Device) : Device :=
  match (d.row r).display with
  | .clean => enterDown r .silent d
  | .queued => enterDown r .silent d
  | .moving => enterDown r .silent d
  | .down => if (d.row r).cause = .segmentOff then d else d.modRow r (fun x => { x with cause := .silent })
  | .sending => d
  | .faulted => d

/-- A poll that ends unanswered: the row's missed-poll count advances, to 3 at the most, and a completion poll's wait
starts again (R117, R120). -/
def unansweredPoll (g : SegNo) (f : Frame) (d : Device) : Device :=
  if (d.row f.row).display = .faulted ∨ stillAt d g f = false then d
  else
    let again := f.use == .completionPoll && turns d f.row
    let d1 := d.modRow f.row (fun x =>
      { x with
        missed := min (x.missed + 1) Config.silentPolls,
        pollWait := if again then .running Config.pollWaitTime else x.pollWait })
    if (d1.row f.row).missed = Config.silentPolls then takenSilent f.row d1 else d1

/-- A bad answer: a poll is counted and not resent; another frame is sent again while its retry count is below 2, and
its final failure makes the row DOWN, cause SILENT (R114, R115, R120). -/
def badAnswerTo (g : SegNo) (f : Frame) (d : Device) : Device :=
  match f.body with
  | .poll => unansweredPoll g f (endExchange g d)
  | _ =>
    if (d.line g).retry < Config.maxResends then
      d.modLine g (fun l => { l with retry := l.retry + 1, answerTimer := .stopped })
    else enterDown f.row .silent (endExchange g d)

/-- The frame whose answer the line waits for: the answer timer runs (R114). -/
def awaited (d : Device) (g : SegNo) : Option Frame :=
  if (d.line g).answerTimer.isRunning then (d.line g).frame else none

/-- Whether a complete frame received is the good answer to the frame in hand (R113). -/
def isGood (f : Frame) (kind addr : Byte) (body : List Byte) (sum : Byte) (spoiled : Bool) : Bool :=
  frameRight (kind :: addr :: body) sum spoiled && addr == byte f.address.val && kind == goodKind f.body

/-- Take a complete frame: while no answer is awaited it is discarded; a good answer ends the exchange and acts, and
any other is a bad answer (R114). -/
def takeAnswer (g : SegNo) (kind addr : Byte) (body : List Byte) (sum : Byte) (spoiled : Bool)
    (act : Frame → Device → Device) (d : Device) : Device :=
  match awaited d g with
  | none => d
  | some f =>
    if isGood f kind addr body sum spoiled then act f (heard g f (endExchange g d)) else badAnswerTo g f d

/-! ## What a good answer does -/

/-- ACK: a SENDING row becomes MOVING (R100), a row at PATTERN-SENT becomes TURNING (R124), and a LAMPS frame's row has
its fresh lamp off (R103). -/
def accepted (g : SegNo) (f : Frame) (d : Device) : Device :=
  match f.use with
  | .repaint =>
    match (d.row f.row).display, (d.row f.row).sent with
    | .sending, some s => startMotion f.row g s.estimate (d.modRow f.row (fun x => { x with display := .moving }))
    | _, _ => d
  | .pattern =>
    match (d.segment g).exerciseList.find? (fun x => x.row == f.row && x.step == .patternSent) with
    | some x => startMotion f.row g x.estimate (setStep f.row (fun y => { y with step := .turning }) g d)
    | none => d
  | .lampChange =>
    d.modRow f.row (fun x =>
      { x with
        shown := x.shown.map (fun i => { i with lamps := { i.lamps with fresh := false } }),
        lampOffOwed := false })
  | _ => d

/-- The answer to a completion poll of a row that still turns (the table of R117; R124 for TURNING). -/
def completionAnswer (g : SegNo) (r : RowNo) (ready moving : Bool) (d : Device) : Device :=
  if turns d r = false then d
  else if ready = false then enterDown r .notReady d
  else if moving then d.modRow r (fun x => { x with pollWait := .running Config.pollWaitTime })
  else if (d.row r).display = .moving then completeRepaint r g d
  else
    setStep r (fun y => { y with step := .echoing }) g
      (d.modRow r (fun x => { x with stallTimer := .stopped, pollWait := .stopped, motionOrder := none }))

/-- The answer to a readiness poll, by the row's display state when it is taken (the table of R119). -/
def readinessAnswer (r : RowNo) (ready : Bool) (d : Device) : Device :=
  match (d.row r).display with
  | .clean => if ready then d else enterDown r .notReady d
  | .queued => if ready then d else enterDown r .notReady d
  | .down =>
    if (d.row r).cause = .segmentOff then d
    else if ready then (enqueueRow r (d.modRow r (fun x => { x with shown := none, shownSlot := none }))).raise (.row r)
    else d.modRow r (fun x => { x with cause := .notReady })
  | .sending => d
  | .moving => d
  | .faulted => d

/-- STATUS: bit 0 of the status byte is ready and bit 1 moving (section 10.6). An answer whose row has another unit by
then is not acted on (R121). -/
def polled (g : SegNo) (state : Byte) (f : Frame) (d : Device) : Device :=
  if stillAt d g f = false then d
  else
    match f.use with
    | .completionPoll => completionAnswer g f.row (state.getLsbD 0) (state.getLsbD 1) d
    | .readinessPoll => readinessAnswer f.row (state.getLsbD 0) d
    | _ => d

/-- The lowest-numbered cell at which a sensed position differs from the pattern (R125). -/
def mismatchCell (pattern : List Nat) (sensed : List Byte) : Nat :=
  (List.zipWith (fun p (s : Byte) => p == s.toNat) pattern sensed).idxOf false

/-- ECHO of an ECHOING row: PASSED when every cell agrees, and else FAULTED, cause MISMATCH (R125). -/
def echoed (g : SegNo) (sensed : List Byte) (f : Frame) (d : Device) : Device :=
  if exerciseStep d f.row = some .echoing then
    let pattern := exercisePattern (d.segment g).seed f.row
    if pattern.cells = sensed.map (·.toNat) then
      exerciseCheck g
        (setStep f.row (fun y => { y with step := .passed }) g
          (d.modRow f.row (fun x => { x with shown := some pattern, shownSlot := none })))
    else enterFaulted f.row .mismatch (mismatchCell pattern.cells sensed) d
  else d

end Sys2Proof.Machine
end

