-- ==== Sys2Proof/Machine/ChannelOps.lean ====
section
/-! DEFINITION. The shared operations of the host channel: when a complete request is taken (R162 to R164), the reply frame
(R166, R167), and the end of the reservation (R9). -/

namespace Sys2Proof.Machine

/-- A request frame: the count byte, the kind and the body (section 9.2). -/
def frameOf (kind : Byte) (body : List Byte) : List Byte := byte (body.length + 1) :: kind :: body

/-- Whether the channel takes this request: the reset input is not held, the frame can be written, and the channel is
IDLE, so that the whole frame passes, or RECEIVING with all of this frame but its last byte (R162 to R164, R180). -/
def takesRequest (kind : Byte) (body : List Byte) (d : Device) : Bool :=
  !d.resetHeld && decide (body.length ≤ Config.maxBody) &&
    (match d.channel.state with
     | .idle => true
     | .receiving => d.channel.assembly == (frameOf kind body).dropLast
     | .working => false
     | .replying => false)

/-- What the block that carries a request out gives the channel: the status and the data, and, for a COLLECT, the notice
taken and whether the content carries a forwarded text (R166, R172). -/
structure Answer where
  status      : Status
  data        : List Byte
  collected   : Option Notice := none
  carriesText : Bool := false
deriving DecidableEq, Repr

/-- A refusal without data (R169). -/
def refuse (s : Status) : Answer := ⟨s, [], none, false⟩

/-- An acceptance with data. -/
def accept (data : List Byte) : Answer := ⟨.accepted, data, none, false⟩

/-- The reply kind: the kind byte with its top bit set (R167). -/
def replyKind (kind : Byte) : Byte := kind ||| 0x80

/-- The reply frame: count, reply kind, status and data (R167). -/
def replyFrame (kind : Byte) (a : Answer) : List Byte :=
  byte (a.data.length + 2) :: replyKind kind :: a.status.code :: a.data

/-- The reply is written into the reply buffer, the reply timer starts, BUSY falls and the channel is REPLYING (R166). -/
def readyReply (kind : Byte) (a : Answer) (d : Device) : Device :=
  d.setChannel
    { d.channel with
      state := .replying, assembly := [], gapTimer := .stopped,
      reply := ⟨replyFrame kind a, 0, a.collected, a.carriesText⟩, replyTimer := .running Config.replyTime }

/-- The frame is complete: the gap timer is stopped and the channel is WORKING (R164). -/
def beginWork (kind : Byte) (body : List Byte) (d : Device) : Device :=
  d.setChannel { d.channel with state := .working, assembly := frameOf kind body, gapTimer := .stopped }

/-- A complete request from its last byte to its ready reply; a request the channel cannot take is given no ACK and
changes nothing (R163, R166). -/
def request (kind : Byte) (body : List Byte) (work : Device → Device × Answer) (d : Device) : Device :=
  if takesRequest kind body d then
    let r := work (beginWork kind body d)
    readyReply kind r.2 r.1
  else d

/-- Make the common checks, then carry the request out (R166, R168). -/
def onFields {α : Type} (fields : Except Status α) (work : α → Device → Device × Answer) (d : Device) : Device × Answer :=
  match fields with
  | .ok f => work f d
  | .error s => (d, refuse s)

/-- The reservation ends (R9). -/
def endReservation (d : Device) : Device := d.setChannel { d.channel with reservation := none }

/-- The reservation ends when it names the slot (R7, R9). -/
def endReservationOn (i : Slot) (d : Device) : Device :=
  if d.channel.reservation = some i then endReservation d else d

end Sys2Proof.Machine
end

