-- ==== Sys2Proof/Machine/TapeOps.lean ====
section
/-! DEFINITION. The shared operations of the tape queue and the ribbon channels: composing an entry's text (R51, R78,
R79), the late levels (R76), offering an entry (R52 to R55, R59), an entry's departure with the release of its slot (R20,
R57, R80), and a ribbon's stop (R65). -/

namespace Sys2Proof.Machine

/-! ## Entries -/

/-- The slot an entry names (R50). -/
def EntryBody.slot? : EntryBody → Option Slot
  | .print i _ _ => some i
  | .corr i _ => some i
  | .state i _ => some i
  | .bulletin _ _ => none
  | .gap _ => none

def EntryBody.isGap : EntryBody → Bool
  | .gap _ => true
  | _ => false

/-- The lot count of a PRINT: the shares over 100, taken as 1 when that gives 0 (R51, R78). -/
def lots (shares : Nat) : Nat := if shares / 100 = 0 then 1 else shares / 100

/-- The cut of DIGITS: of a run of digits that a blank follows or that ends the text, only the last is kept (R78). -/
def cutWhole (t : Text) : Text :=
  let run := t.takeWhile isDigit
  let rest := t.dropWhile isDigit
  if run ≠ [] ∧ (rest = [] ∨ rest.head? = some blank) then run.drop (run.length - 1) ++ rest else t

/-- The text of an entry at a level, with the last-shown slot as it stands (R78, R79). -/
def composeEntry (d : Device) (level : Level) (lastShown : Option Slot) : EntryBody → Text
  | .print i p shares =>
    let x := d.slot i
    let price := ribbonPrice p x.e
    match level with
    | .normal =>
      x.symbol ++ blank :: ((if 2 ≤ lots shares then digits (lots shares) ++ [ch '@'] else []) ++ price)
    | .abbreviated => (if lastShown = some i then [] else x.symbol ++ [blank]) ++ price
    | .digits => (if lastShown = some i then [] else x.symbol ++ [blank]) ++ cutWhole price
  | .corr i p => (d.slot i).symbol ++ blank :: (txt ['C', 'O', 'R', 'R'] ++ blank :: ribbonPrice p (d.slot i).e)
  | .state i .openWord => (d.slot i).symbol ++ blank :: txt ['O', 'P', 'E', 'N']
  | .state i .haltWord => (d.slot i).symbol ++ blank :: txt ['H', 'A', 'L', 'T']
  | .bulletin _ t => t
  | .gap _ => txt ['T', 'A', 'P', 'E', ' ', 'G', 'A', 'P']

/-- The normal length: the NORMAL text and the separator (R51). -/
def normalLength (d : Device) (b : EntryBody) : Nat :=
  (composeEntry d .normal none b).length + Config.separatorLength

/-- Whether a ribbon's settings select an entry: the group mask, a BULLETIN's ribbon mask, or a GAP (R50, R52). -/
def selects (d : Device) (r : RibbonNo) (b : EntryBody) : Bool :=
  match b with
  | .bulletin mask _ => mask.getLsbD r.val
  | .gap _ => true
  | _ =>
    match b.slot? with
    | some i => (d.ribbon r).groupMask.getLsbD (d.slot i).group.val
    | none => false

/-- The pending set an offered entry takes: the RUNNING ribbons that select it (R52). -/
def pendingSet (d : Device) (b : EntryBody) : List RibbonNo :=
  everyRibbon.filter (fun r => (d.ribbon r).state == .running && selects d r b)

/-! ## Late levels (R76) -/

/-- The delay in seconds (R76). -/
def delay (x : Ribbon) : Nat := x.backlog * 100 / x.normalRate

/-- The level an evaluation gives, from the level held and the delay (the table of R76). -/
def levelFor (held : Level) (delay : Nat) : Level :=
  if 90 ≤ delay then .digits
  else if 46 ≤ delay then (if held = .digits then .digits else .abbreviated)
  else if 30 ≤ delay then .abbreviated
  else if 16 ≤ delay then (if held = .normal then .normal else .abbreviated)
  else .normal

/-- The level an evaluation of this ribbon gives: NORMAL at a backlog of 0, and else the table's (R76). -/
def evaluatedLevel (x : Ribbon) : Level := if x.backlog = 0 then .normal else levelFor x.level (delay x)

/-- Evaluate a ribbon's delay: a level change raises its RIBBON notice, and a rise from NORMAL owes the marker
(R76, R77, R81). -/
def evaluateDelay (r : RibbonNo) (d : Device) : Device :=
  let x := d.ribbon r
  if evaluatedLevel x = x.level then d
  else
    (d.setRibbon r
      { x with level := evaluatedLevel x, markerOwed := x.markerOwed || x.level == .normal }).raise (.ribbon r)

/-! ## Joining (R53, R59) -/

/-- A ribbon of a new entry's set adds its normal length to the backlog and evaluates its delay (R59, R75). -/
def joinRibbon (len : Nat) (r : RibbonNo) (d : Device) : Device :=
  evaluateDelay r (d.modRibbon r (fun x => { x with backlog := x.backlog + len }))

/-- Append an entry at the tail and tell each ribbon in its set (R52, R59). -/
def appendEntry (b : EntryBody) (d : Device) : Device :=
  let len := normalLength d b
  let set := pendingSet d b
  let d1 := d.setTape ⟨d.tape.entries ++ [⟨d.tape.nextId, b, len, set⟩], d.tape.nextId + 1⟩
  forEach set (joinRibbon len) d1

/-- What became of an offer (R53, R60). -/
inductive Outcome where
  | appended | gapped | notWanted
deriving DecidableEq, Repr

def outcomeCode : Outcome → Byte
  | .appended => 0
  | .gapped => 1
  | .notWanted => 2

/-- One more offer counted into the GAP at the tail (R54). -/
def countGap (l : List Entry) : List Entry :=
  match l.getLast? with
  | some x =>
    match x.body with
    | .gap n => l.dropLast ++ [{ x with body := .gap (min (n + 1) Config.maxOmitted) }]
    | _ => l
  | none => l

/-- Whether the tail entry is a GAP (R53, R55). -/
def tailIsGap (l : List Entry) : Bool :=
  match l.getLast? with
  | some x => x.body.isGap
  | none => false

/-- Offer an entry: discard it when no ribbon wants it, append it below 511 entries, and else append a GAP for it or
count it into the tail GAP (R52 to R55). -/
def offer (b : EntryBody) (d : Device) : Device × Outcome :=
  if pendingSet d b = [] then (d, .notWanted)
  else if d.tape.entries.length ≤ Config.tapeCapacity - 2 then (appendEntry b d, .appended)
  else if tailIsGap d.tape.entries then
    ((d.setTape { d.tape with entries := countGap d.tape.entries }).raise .tape, .gapped)
  else if d.tape.entries.length < Config.tapeCapacity then ((appendEntry (.gap 1) d).raise .tape, .gapped)
  else (d, .gapped)

/-! ## Leaving (R20, R57, R80) -/

/-- Whether an entry standing in the queue names a slot (R50). -/
def tapeNames (d : Device) (i : Slot) : Bool := d.tape.entries.any (fun x => x.body.slot? == some i)

/-- A ribbon whose last-shown slot is the released one forgets it (R80). -/
def forgetSlot (i : Slot) (r : RibbonNo) (d : Device) : Device :=
  if (d.ribbon r).lastShown = some i then d.modRibbon r (fun x => { x with lastShown := none }) else d

/-- A slot becomes FREE: its record takes the FREE values, and no ribbon's last-shown slot names it (R20, R80). -/
def freeSlot (i : Slot) (d : Device) : Device := forEach everyRibbon (forgetSlot i) (d.setSlot i Record.free)

/-- The release check: a DELISTING slot that no entry names becomes FREE (R20, R57). -/
def releaseCheck (i : Slot) (d : Device) : Device :=
  if (d.slot i).state = .delisting ∧ tapeNames d i = false then freeSlot i d else d

/-- The release check of the slot that a departed entry named, if it named one. -/
def releaseEntry (x : Entry) (d : Device) : Device :=
  match x.body.slot? with
  | some i => releaseCheck i d
  | none => d

/-- Entries whose pending set has become empty leave the queue wherever they stand; their slots are checked for release,
and the TAPE notice becomes pending when the last GAP leaves (R55, R57). -/
def sweepTape (d : Device) : Device :=
  let gone := d.tape.entries.filter (fun x => x.pending.isEmpty)
  let kept := d.tape.entries.filter (fun x => !x.pending.isEmpty)
  let d1 := forEach gone releaseEntry (d.setTape { d.tape with entries := kept })
  if gone.any (fun x => x.body.isGap) && !kept.any (fun x => x.body.isGap) then d1.raise .tape else d1

/-- The number of entries that a sweep takes from the queue. -/
def departures (d : Device) : Nat := (d.tape.entries.filter (fun x => x.pending.isEmpty)).length

/-- A ribbon leaves the pending set of one entry (R56); the entry stays until the sweep. -/
def leavePending (r : RibbonNo) (id : Nat) (d : Device) : Device :=
  d.setTape { d.tape with entries := d.tape.entries.map (fun x =>
    if x.id = id then { x with pending := x.pending.filter (· ≠ r) } else x) }

/-- A ribbon leaves every pending set (R56); the entries stay until the sweep. -/
def leaveEvery (r : RibbonNo) (d : Device) : Device :=
  d.setTape { d.tape with entries := d.tape.entries.map (fun x => { x with pending := x.pending.filter (· ≠ r) }) }

/-! ## Stopping (R65) -/

/-- What every transition into STOPPED leaves in the channel (R65); the settings are kept. -/
def stoppedRibbon (x : Ribbon) : Ribbon :=
  { x with
    state := .stopped, acc := 0, level := .normal, backlog := 0, current := none, phase := .idle, text := [], pos := 0,
    markerOwed := false, lastShown := none }

/-- A ribbon becomes STOPPED other than by a RESTART: a level that was not NORMAL raises its notice, an unsettled ribbon
reports itself stopped, and it leaves every pending set (R56, R65, R81, R82). -/
def stopRibbon (r : RibbonNo) (d : Device) : Device :=
  let late := (d.ribbon r).level ≠ .normal
  let d1 := d.modRibbon r stoppedRibbon
  let d2 := if late then d1.raise (.ribbon r) else d1
  sweepTape (leaveEvery r (d2.reportStopped r))

/-- A ribbon is drained when its backlog is 0 and it has no current entry (R65). -/
def drained (x : Ribbon) : Bool := x.backlog == 0 && x.current.isNone

/-- The oldest entry that names a ribbon and that it has not begun (R58). -/
def nextEntry (d : Device) (r : RibbonNo) : Option Entry :=
  d.tape.entries.find? (fun x => r ∈ x.pending ∧ (d.ribbon r).current ≠ some x.id)

/-- The number of entries that name a ribbon and that it has not begun (R81). -/
def waitingEntries (d : Device) (r : RibbonNo) : Nat :=
  (d.tape.entries.filter (fun x => r ∈ x.pending ∧ (d.ribbon r).current ≠ some x.id)).length

/-- The target a ribbon gives a SETTLE: the newest entry naming it that it has not begun (R82). -/
def settleTarget (d : Device) (r : RibbonNo) : Option Nat :=
  let x := d.ribbon r
  if (x.state = .running ∨ x.state = .draining) ∧ x.backlog ≠ 0 then
    (d.tape.entries.reverse.find? (fun y => r ∈ y.pending ∧ x.current ≠ some y.id)).map (·.id)
  else none

end Sys2Proof.Machine
end

