-- ==== Sys2Proof/Machine/TermOps.lean ====
section
/-! DEFINITION. The shared operations of the terminal lines and the dealer service: the items of the output queue and
their order (R138, R139), the screen's texts (R148, R153, R158), marks and alerts (R153, R155, R157, R159), and the line
test (R141). -/

namespace Sys2Proof.Machine

/-! ## Items (R138, R140, R146, R147, R153, R158) -/

/-- The return positioning: line 24, one column past the input line (R138). -/
def returnPosition (x : Terminal) : Text := position 24 (x.input.length + 1)

/-- A command reply or a host text (R140, R147). -/
def replyItem (x : Terminal) (t : Text) : Text := position 22 1 ++ t ++ eraseToEnd ++ returnPosition x

/-- The clear-screen item of a redraw (R146). -/
def clearItem (x : Terminal) : Text := clearScreen ++ returnPosition x

/-- The line text of a page line: the quote's columns up to the volume, 55 characters (R153). -/
def pageText (r : Record) : Text :=
  fieldText r false .symbol 7 ++ fieldText r false .last 10 ++ fieldText r false .change 10 ++ fieldText r false .bid 9 ++
    ch '/' :: (fieldText r false .ask 9 ++ fieldText r false .volume 9)

/-- The state word of a quote (R148). -/
def stateWord : SlotState → Text
  | .listed => txt ['P', 'R', 'E']
  | .trading => txt ['T', 'R', 'D']
  | .halted => txt ['H', 'L', 'T']
  | .free => blanks 3
  | .delisting => blanks 3

/-- The quote text, 79 characters (R148). -/
def quoteText (r : Record) : Text :=
  pageText r ++ fieldText r false .high 10 ++ fieldText r false .low 10 ++ blank :: stateWord r.state

/-- A page line item (the table of R153). -/
def pageItem (d : Device) (t : LineNo) (p : PageNo) : Text :=
  match (d.dealer t).entry p with
  | some i => position (2 + p.val) 1 ++ pageText (d.slot i) ++ eraseToEnd ++ returnPosition (d.terminal t)
  | none => position (2 + p.val) 1 ++ eraseToEnd ++ returnPosition (d.terminal t)

/-- A terminal's watch on a slot with a condition (R154). -/
def findWatch (d : Device) (t : LineNo) (i : Slot) (c : Condition) : Option Watch :=
  d.watches.find? (fun w => w.terminal == t && w.slot == i && w.cond == c)

/-- How a condition is written (R149, R158). -/
def conditionText : Condition → Text
  | .above => txt ['>', '=']
  | .below => txt ['<', '=']
  | .equal => txt ['=']
  | .any => txt ['*']

/-- The text of an alert, composed from the watch and the record as they stand (the table of R158). -/
def alertText (d : Device) (t : LineNo) : Alert → Text
  | .ended s => txt ['W', 'A', 'T', 'C', 'H', ' ', 'E', 'N', 'D', 'E', 'D', ' '] ++ s
  | .watch i .any =>
    fieldText (d.slot i) false .symbol 7 ++ blank :: (priceField (d.slot i).last (d.slot i).e 13 ++
      txt [' ', 'T', 'R', 'A', 'D', 'E'])
  | .watch i c =>
    fieldText (d.slot i) false .symbol 7 ++ blank :: (priceField (d.slot i).last (d.slot i).e 13 ++
      blank :: (conditionText c ++ blank :: priceField ((findWatch d t i c).bind (·.threshold)) (d.slot i).e 13))

/-- An alert item: the old mark removed, the new line with its mark and text, the return positioning (R158). -/
def alertItem (d : Device) (t : LineNo) (a : Alert) : Text :=
  (match (d.dealer t).ringNewest with
   | some l => position l 1 ++ [blank]
   | none => []) ++
    position (d.dealer t).ringNext 1 ++ ch '>' :: (alertText d t a ++ eraseToEnd ++ returnPosition (d.terminal t))

/-! ## Room events (R139) -/

/-- The free characters of an output queue. -/
def freeRoom (x : Terminal) : Nat := Config.outputCapacity - x.queue.length

/-- An item enters the queue whole. -/
def enterItem (t : LineNo) (item : Text) (d : Device) : Device :=
  d.modTerminal t (fun x => { x with queue := x.queue ++ item })

/-- The marked page entry with the lowest number (R153). -/
def markedEntry (y : Dealer) : Option PageNo := everyPage.find? (fun p => y.marked p)

/-- Set all eight page marks (R146, R151). -/
def markAll (y : Dealer) : Dealer := everyPage.foldl (fun y p => y.setMark p true) y

/-- The ring line after a line, 19 wrapping to 12 (R158). -/
def ringAfter (l : Nat) : Nat := if l = Config.ringLast then Config.ringFirst else l + 1

/-- The first waiting item from priority 2 down, when it fits; none when no item waits or the first does not fit (R139).
A waiting clear-screen item stands before a waiting reply (R146). -/
def roomStep (t : LineNo) (d : Device) : Option Device :=
  let x := d.terminal t
  let y := d.dealer t
  if y.redrawOwed then
    if (clearItem x).length ≤ freeRoom x then
      some ((enterItem t (clearItem x) d).modDealer t (fun y =>
        markAll { y with redrawOwed := false, ringNext := Config.ringFirst, ringNewest := none }))
    else none
  else
    match x.reply with
    | some r =>
      if (replyItem x r).length ≤ freeRoom x then
        some ((enterItem t (replyItem x r) d).modTerminal t (fun x => { x with reply := none }))
      else none
    | none =>
      match x.hostText with
      | some r =>
        if (replyItem x r).length ≤ freeRoom x then
          some ((enterItem t (replyItem x r) d).modTerminal t (fun x => { x with hostText := none }))
        else none
      | none =>
        match y.alerts with
        | a :: rest =>
          if (alertItem d t a).length ≤ freeRoom x then
            some ((enterItem t (alertItem d t a) d).modDealer t (fun y =>
              { y with alerts := rest, ringNewest := some y.ringNext, ringNext := ringAfter y.ringNext }))
          else none
        | [] =>
          match markedEntry y with
          | some p =>
            if Config.pageLineRoom ≤ freeRoom x then
              some ((enterItem t (pageItem d t p) d).modDealer t (fun y => y.setMark p false))
            else none
          | none => none

/-- Take waiting items while they fit; `fuel` bounds their number. -/
def roomLoop : Nat → LineNo → Device → Device
  | 0, _, d => d
  | fuel + 1, t, d =>
    match roomStep t d with
    | some d1 => roomLoop fuel t d1
    | none => d

/-- The most items that can wait: a clear-screen, a reply, a host text, the alerts and eight page lines. -/
def waitingBound (d : Device) (t : LineNo) : Nat := (d.dealer t).alerts.length + 11

/-- An idle transmitter takes the oldest character of the queue (R138). -/
def startCharacter (t : LineNo) (d : Device) : Device :=
  let x := d.terminal t
  match x.transmitter, x.queue with
  | none, c :: rest =>
    d.setTerminal t { x with queue := rest, transmitter := some ⟨carried x.format c, x.format, x.rate, false⟩ }
  | _, _ => d

/-- A room event on an ACTIVE line: waiting items enter while they fit, an idle transmitter takes a character, and the
place it leaves is offered again (R138, R139). -/
def roomEvent (t : LineNo) (d : Device) : Device :=
  if (d.terminal t).state = .active then
    let d1 := startCharacter t (roomLoop (waitingBound d t) t d)
    roomLoop (waitingBound d1 t) t d1
  else d

/-- An echo enters at once when it fits and is dropped otherwise (R136, R139). -/
def offerEcho (t : LineNo) (e : Text) (d : Device) : Device :=
  if e.length ≤ freeRoom (d.terminal t) then enterItem t e d else d

/-- Hand a full screen redraw to the dealer service (R146); the room event follows. -/
def oweRedraw (t : LineNo) (d : Device) : Device := roomEvent t (d.modDealer t (fun y => { y with redrawOwed := true }))

/-! ## Hand-offs to the dealer service -/

/-- Mark the page lines of one terminal that show a slot (R10, R153). -/
def markPage (i : Slot) (t : LineNo) (d : Device) : Device :=
  let shows := everyPage.filter (fun p => (d.dealer t).entry p == some i)
  if shows = [] then d
  else roomEvent t (d.modDealer t (fun y => shows.foldl (fun y p => y.setMark p true) y))

/-- Mark every page line of every terminal that shows a slot (R10). -/
def markPages (i : Slot) (d : Device) : Device := forEach everyLine (markPage i) d

/-- Whether alerts are listed for a terminal: its line is ACTIVE or in LOOPBACK (R157). -/
def takesAlerts (x : Terminal) : Bool := x.state == .active || x.state == .loopback

/-- A watch's alert is appended, unless it waits already (R157). -/
def listAlert (t : LineNo) (a : Alert) (d : Device) : Device :=
  if takesAlerts (d.terminal t) ∧ a ∉ (d.dealer t).alerts then
    d.modDealer t (fun y => { y with alerts := y.alerts ++ [a] })
  else d

/-- Whether a watch's alert stands in its terminal's alert list (R154). -/
def alertWaiting (d : Device) (w : Watch) : Bool := .watch w.slot w.cond ∈ (d.dealer w.terminal).alerts

/-- Whether a condition holds of a present last (the table of R155). -/
def holds (c : Condition) (threshold : Price) (last : Nat) : Bool :=
  match c, threshold with
  | .any, _ => true
  | .above, some p => p ≤ last
  | .below, some p => last ≤ p
  | .equal, some p => last == p
  | _, none => false

/-- The state of a watch after an evaluation with a present last (R155): a firing watch of ABOVE, BELOW or EQUAL becomes
FIRED, a FIRED one whose condition no longer holds is re-armed. -/
def evaluatedState (w : Watch) (last : Nat) : WatchState :=
  match w.state with
  | .armed => if holds w.cond w.threshold last ∧ w.cond ≠ .any then .fired else .armed
  | .fired => if holds w.cond w.threshold last then .fired else .armed

/-- Whether an evaluation fires a watch (R155). -/
def fires (w : Watch) (last : Nat) : Bool := w.state == .armed && holds w.cond w.threshold last

/-- Evaluate the watch of one terminal on a slot with one condition, if it holds one (R155). -/
def evaluateWatch (i : Slot) (last : Nat) (t : LineNo) (c : Condition) (d : Device) : Device :=
  match findWatch d t i c with
  | none => d
  | some w =>
    let d1 := d.setWatches (d.watches.map (fun v => if v = w then { v with state := evaluatedState w last } else v))
    if fires w last then listAlert t (.watch i c) d1 else d1

/-- The conditions in the order in which alerts of one evaluation are offered (R155). -/
def conditionOrder : List Condition := [.above, .below, .equal, .any]

/-- Evaluate one terminal's watches on a slot (R155). -/
def evaluateTerminal (i : Slot) (last : Nat) (t : LineNo) (d : Device) : Device :=
  if d.watches.any (fun w => w.terminal == t && w.slot == i) then
    roomEvent t (forEach conditionOrder (evaluateWatch i last t) d)
  else d

/-- Evaluate every watch on a slot against the new last; an absent last leaves each as it is (R155). -/
def evaluateWatches (i : Slot) (last : Price) (d : Device) : Device :=
  match last with
  | none => d
  | some p => forEach everyLine (evaluateTerminal i p) d

/-- Append an ended alert; the ninth pushes the oldest ended alert out (R157). -/
def appendEnded (s : Text) (l : List Alert) : List Alert :=
  let isEnded : Alert → Bool := fun a => match a with
    | .ended _ => true
    | .watch _ _ => false
  (if Config.maxEndedAlerts ≤ (l.filter isEnded).length then l.eraseP isEnded else l) ++ [.ended s]

/-- Take a watch alert out of an alert list (R150, R159). -/
def dropAlert (i : Slot) (c : Condition) (l : List Alert) : List Alert := l.filter (· ≠ .watch i c)

/-- What a DELIST does at one terminal (R159): its watches on the slot and their alerts go, a terminal that held one and
takes alerts is given an ended alert, and the page lines that showed the slot are emptied and marked; one room event follows
them all (DESIGN CHOICE, log 33). -/
def delistTerminal (i : Slot) (symbol : Text) (t : LineNo) (d : Device) : Device :=
  let held := d.watches.any (fun w => w.terminal == t && w.slot == i)
  let shows := everyPage.filter (fun p => (d.dealer t).entry p == some i)
  if held = false ∧ shows = [] then d
  else
    let d1 := d.setWatches (d.watches.filter (fun w => !(w.terminal == t && w.slot == i)))
    let d2 := d1.modDealer t (fun y =>
      let y1 := { y with alerts := conditionOrder.foldl (fun l c => dropAlert i c l) y.alerts }
      let y2 := if held && takesAlerts (d.terminal t) then { y1 with alerts := appendEnded symbol y1.alerts } else y1
      shows.foldl (fun y p => (y.setEntry p none).setMark p true) y2)
    roomEvent t d2

/-- Hand a delisted slot to the dealer service (R159). -/
def delistWatches (i : Slot) (symbol : Text) (d : Device) : Device := forEach everyLine (delistTerminal i symbol) d

/-- The alert list of a terminal is emptied (R157). -/
def emptyAlerts (t : LineNo) (d : Device) : Device := d.modDealer t (fun y => { y with alerts := [] })

/-! ## Leaving service and the line test (R132, R133, R141) -/

/-- What the line loses at a fall of line-present and at a disable: the output queue behind the character on the wire,
the character in assembly, the input line with its mark, and both slots. -/
def clearedTerminal (x : Terminal) : Terminal :=
  { x with
    queue := [], receiver := .idle, input := [], errored := false, reply := none, hostText := none, test := none }

/-- Whether position k of a test received the character sent (R141). -/
def testAgrees (text : Text) (received : List Received) (k : Nat) : Bool :=
  match text[k]?, received[k]? with
  | some c, some (.good a) => a == c
  | _, _ => false

/-- The error kinds seen anywhere in a test (R141). -/
def testKinds (text : Text) (received : List Received) : ErrorKinds where
  value := (List.zipWith (fun c x => match x with
    | .good a => a != c
    | _ => false) text received).any id
  parity := received.any (· == .parity)
  framing := received.any (· == .framing)
  missing := received.length < text.length

/-- The result of a completed test: MATCH, or MISMATCH with the lowest position that differs (R141). -/
def testOutcome (text : Text) (received : List Received) : TestResult :=
  match (List.range text.length).find? (fun k => !testAgrees text received k) with
  | none => .matched
  | some k => .mismatch k (testKinds text received)

/-- The test completes: the result is held, the line returns to the state it recorded, the TERMINAL notice becomes
pending, and a line that is ACTIVE again makes a room event (R141). The receiver is idle, even after a break on the loop
(DEDUCED, log 21). -/
def completeTest (t : LineNo) (d : Device) : Device :=
  match (d.terminal t).test with
  | none => d
  | some x =>
    roomEvent t
      ((d.modTerminal t (fun y =>
        { y with
          state := x.prior, receiver := .idle, test := none, testResult := testOutcome x.text x.received })).raise
        (.terminal t))

/-- In LOOPBACK an idle transmitter starts the next character of the test text, round the loop (R141). -/
def startTestCharacter (t : LineNo) (d : Device) : Device :=
  let y := d.terminal t
  match y.test, y.transmitter with
  | some x, none =>
    match x.text[x.started]? with
    | some c =>
      d.setTerminal t
        { y with
          test := some { x with started := x.started + 1 },
          transmitter := some ⟨carried y.format c, y.format, y.rate, true⟩ }
    | none => d
  | _, _ => d

/-- A character received in LOOPBACK is kept in the test record; the test completes on the full count (R141). -/
def receiveTest (t : LineNo) (c : Received) (d : Device) : Device :=
  match (d.terminal t).test with
  | none => d
  | some x =>
    let x1 := { x with received := x.received ++ [c] }
    let d1 := d.modTerminal t (fun y => { y with test := some x1 })
    if x1.text.length ≤ x1.received.length then completeTest t d1 else d1

end Sys2Proof.Machine
end

