-- ==== Sys2Proof/Machine/Market.lean ====
section
/-! DEFINITION. The market requests, which the quotation store carries out: LIST, DELIST, TRADE, TRADE-BLOCK, QUOTE,
SET-STATE, FETCH, AMEND and DAY-ROLL (chapter 1). -/

namespace Sys2Proof.Machine

/-- Whether a state is one of the three listed states (R5, R8). -/
def isListed (s : SlotState) : Bool := s == .listed || s == .trading || s == .halted

/-! ## The directory (R5, R6) -/

/-- The order of symbols, letter by letter from the left (Conventions); the full stop's code is below every letter's. -/
def symbolLt : Text → Text → Bool
  | [], [] => false
  | [], _ :: _ => true
  | _ :: _, [] => false
  | a :: s, b :: t => if a = b then symbolLt s t else a.toNat < b.toNat

/-- A pair put at its place in the order (R5). -/
def insertSymbol (s : Text) (i : Slot) : List (Text × Slot) → List (Text × Slot)
  | [] => [(s, i)]
  | p :: l => if symbolLt s p.1 then (s, i) :: p :: l else p :: insertSymbol s i l

/-- The slot of the pair whose symbol is exactly equal (R6). -/
def lookup (d : Device) (s : Text) : Option Slot := (d.directory.find? (fun p => p.1 == s)).map (·.2)

/-! ## Changing a record and passing the change on (R7, R10) -/

/-- Write a changed record: its revision advances by one, which ends a reservation on the slot (R7, R9). -/
def writeRecord (i : Slot) (x : Record) (d : Device) : Device :=
  endReservationOn i (d.setSlot i { x with revision := x.revision + 1 })

/-- Mark each row of a list, in its order (R10, R26). -/
def markRows (l : List RowNo) (d : Device) : Device := forEach l markRow d

/-- Offer an entry, whatever comes of it (R10). -/
def offerEntry (b : EntryBody) (d : Device) : Device := (offer b d).1

/-- The revision word of a reply (R7). -/
def revisionData (d : Device) (i : Slot) : List Byte := wordBytes (d.slot i).revision.toNat

/-! ## LIST (R11) -/

/-- The record an accepted LIST writes. -/
def listedRecord (f : ListFields) : Record :=
  { Record.free with state := .listed, symbol := f.symbol, e := f.e, group := f.group, close := f.close }

def listInstrument (f : ListFields) (d : Device) : Device × Answer :=
  if (d.slot f.slot).state ≠ .free then (d, refuse .notFree)
  else if (lookup d f.symbol).isSome then (d, refuse .duplicate)
  else
    ((d.setSlot f.slot (listedRecord f)).setDirectory (insertSymbol f.symbol f.slot d.directory), accept [])

/-- LIST, kind 0x01 (R11). -/
def workList (body : List Byte) (d : Device) : Device × Answer := onFields (readList body) listInstrument d

/-! ## Trades (R12 to R16) -/

/-- The record after a trade: a regular one moves tick, last, high and low; either kind counts in volume and trade count
(R12, R14). -/
def tradedRecord (t : TradeItem) (x : Record) : Record :=
  let y :=
    if t.late then x
    else
      { x with
        tick := newTick x.last x.tick t.price, last := some t.price,
        high := some (match x.high with
          | some h => max h t.price
          | none => t.price),
        low := some (match x.low with
          | some l => min l t.price
          | none => t.price) }
  { y with
    volume := min (x.volume + t.shares) Config.maxVolume, tradeCount := min (x.tradeCount + 1) Config.maxTradeCount }

/-- The hand-offs of a trade (R15): the print, the rows, the page lines, and for a regular trade the watches. No rule lays
down an order among them; this one is the model's choice (log 12). -/
def tradeHandOffs (t : TradeItem) (d : Device) : Device :=
  let d1 := if t.onTape then offerEntry (.print t.slot t.price t.shares) d else d
  let d2 := markPages t.slot (markRows (d1.slot t.slot).boundRows d1)
  if t.late then d2 else evaluateWatches t.slot (some t.price) d2

/-- A trade on a TRADING slot (R12, R14, R15). -/
def applyTrade (t : TradeItem) (d : Device) : Device :=
  tradeHandOffs t (writeRecord t.slot (tradedRecord t (d.slot t.slot)) d)

def tradeOne (t : TradeItem) (d : Device) : Device × Answer :=
  if (d.slot t.slot).state ≠ .trading then (d, refuse .wrongState)
  else
    let d1 := applyTrade t d
    (d1, accept (revisionData d1 t.slot))

/-- TRADE, kind 0x03 (R12). -/
def workTrade (body : List Byte) (d : Device) : Device × Answer := onFields (readTrade body) tradeOne d

/-- Apply the items in frame order up to the first that its state check refuses; the count applied goes with the device,
and whether every item was applied (R16). -/
def applyItems : List TradeItem → Nat → Device → Device × Nat × Bool
  | [], n, d => (d, n, true)
  | t :: l, n, d =>
    if (d.slot t.slot).state ≠ .trading then (d, n, false) else applyItems l (n + 1) (applyTrade t d)

def tradeItemsInOrder (l : List TradeItem) (d : Device) : Device × Answer :=
  let r := applyItems l 0 d
  (r.1, ⟨if r.2.2 then .accepted else .wrongState, [byte r.2.1], none, false⟩)

/-- TRADE-BLOCK, kind 0x04 (R16); a refusal by a common check gives count 0 (R169). -/
def workTradeBlock (body : List Byte) (d : Device) : Device × Answer :=
  match readTradeBlock body with
  | .ok l => tradeItemsInOrder l d
  | .error s => (d, ⟨s, [0], none, false⟩)

/-! ## Quotes and trading state (R17, R18) -/

/-- The bound rows whose layout has a BID or an ASK field (R17). -/
def quotedRows (d : Device) (l : List RowNo) : List RowNo :=
  l.filter (fun r => (d.layout (d.row r).layout).any (fun f => f.kind == .bid || f.kind == .ask))

def quoteSlot (f : QuoteFields) (d : Device) : Device × Answer :=
  let x := d.slot f.slot
  if isListed x.state = false then (d, refuse .wrongState)
  else
    let d1 := writeRecord f.slot { x with bid := f.bid, ask := f.ask } d
    let d2 := markPages f.slot (markRows (quotedRows d1 x.boundRows) d1)
    (d2, accept (revisionData d2 f.slot))

/-- QUOTE, kind 0x05 (R17). -/
def workQuote (body : List Byte) (d : Device) : Device × Answer := onFields (readQuote body) quoteSlot d

/-- The state a SET-STATE gives, where R18 accepts it from the state held. -/
def stateAfter (w : StateWord) (s : SlotState) : Option SlotState :=
  match w, s with
  | .openWord, .listed => some .trading
  | .openWord, .halted => some .trading
  | .haltWord, .trading => some .halted
  | _, _ => none

def setState (f : Slot × StateWord) (d : Device) : Device × Answer :=
  let x := d.slot f.1
  match stateAfter f.2 x.state with
  | none => (d, refuse .wrongState)
  | some s =>
    let d1 := offerEntry (.state f.1 f.2) (writeRecord f.1 { x with state := s } d)
    let d2 := markPages f.1 (markRows x.boundRows d1)
    (d2, accept (revisionData d2 f.1))

/-- SET-STATE, kind 0x06, either action (R18). -/
def workSetState (body : List Byte) (d : Device) : Device × Answer := onFields (readSetState body) setState d

/-! ## DELIST (R19, R20) -/

/-- A row becomes unbound and is marked (R19, R105). -/
def unbindAndMark (r : RowNo) (d : Device) : Device := markRow r (d.modRow r (fun x => { x with binding := none }))

def delistSlot (i : Slot) (d : Device) : Device × Answer :=
  let x := d.slot i
  if isListed x.state = false then (d, refuse .wrongState)
  else
    let named := tapeNames d i
    let d1 := d.setDirectory (d.directory.filter (fun p => p.2 ≠ i))
    let d2 := writeRecord i { x with state := .delisting, boundRows := [] } d1
    let d3 := delistWatches i x.symbol (forEach x.boundRows unbindAndMark d2)
    if named then (d3, accept [slotStateCode .delisting]) else (freeSlot i d3, accept [slotStateCode .free])

/-- DELIST, kind 0x02 (R19). -/
def workDelist (body : List Byte) (d : Device) : Device × Answer := onFields (readSlot body) delistSlot d

/-! ## FETCH (R22) -/

/-- The FETCH record (section 10.4). -/
def fetchRecord (i : Slot) (x : Record) : List Byte :=
  wordBytes i.val ++ slotStateCode x.state :: symbolBytes x.symbol ++ byte x.e :: byte x.group.val ::
    (priceBytes (some x.close) ++ priceBytes x.last ++ priceBytes x.high ++ priceBytes x.low ++ priceBytes x.bid ++
      priceBytes x.ask ++ longBytes x.volume ++ wordBytes x.tradeCount ++ tickCode x.tick :: wordBytes x.revision.toNat ++
      byte x.boundRows.length :: x.boundRows.map (fun r => byte r.val))

/-- Reply with the record of a slot, and reserve it when asked (R8, R22). -/
def fetchSlot (i : Slot) (reserve : Bool) (d : Device) : Device × Answer :=
  if reserve ∧ isListed (d.slot i).state = false then (d, refuse .wrongState)
  else
    (if reserve then d.setChannel { d.channel with reservation := some i } else d,
     accept (fetchRecord i (d.slot i)))

def fetchTarget (f : FetchTarget × Bool) (d : Device) : Device × Answer :=
  match f.1 with
  | .slot i => fetchSlot i f.2 d
  | .symbol s =>
    match lookup d s with
    | some i => fetchSlot i f.2 d
    | none => (d, refuse .notListed)

/-- FETCH, kind 0x07 (R22). -/
def workFetch (body : List Byte) (d : Device) : Device × Answer := onFields (readFetch body) fetchTarget d

/-! ## AMEND (R23, R24) -/

/-- The condition of R2 on one record. -/
def recordOk (x : Record) : Bool :=
  (match x.last, x.high, x.low with
   | none, none, none => true
   | some p, some h, some l => l ≤ p && p ≤ h
   | _, _, _ => false) &&
    decide (x.volume ≤ Config.maxVolume)

/-- The record with the given fields in place of the held ones; the tick is recomputed when last has changed (R24). -/
def amendedRecord (f : AmendFields) (x : Record) : Record :=
  let last := f.last.getD x.last
  { x with
    last := last, high := f.high.getD x.high, low := f.low.getD x.low, volume := f.volume.getD x.volume,
    close := f.close.getD x.close,
    tick :=
      if last = x.last then x.tick
      else
        match last with
        | some p => newTick x.last x.tick p
        | none => .none }

/-- The hand-offs of an accepted AMEND (R24), in the same order, the model's choice (log 12). -/
def amendHandOffs (f : AmendFields) (before after : Record) (d : Device) : Device :=
  let d1 :=
    match f.print, after.last with
    | true, some p => offerEntry (.corr f.slot p) d
    | _, _ => d
  let d2 := markPages f.slot (markRows after.boundRows d1)
  if after.last ≠ before.last ∧ after.state = .trading then evaluateWatches f.slot after.last d2 else d2

/-- AMEND after the common checks: the reservation, then the record after the change (R23); the reservation ends in
every case (R9). -/
def amendSlot (f : AmendFields) (d : Device) : Device × Answer :=
  let x := d.slot f.slot
  let y := amendedRecord f x
  if d.channel.reservation ≠ some f.slot then (endReservation d, refuse .reservationLost)
  else if recordOk y = false then (endReservation d, refuse .badField)
  else
    let d1 := amendHandOffs f x y (writeRecord f.slot y (endReservation d))
    (d1, accept (revisionData d1 f.slot))

/-- AMEND, kind 0x08; a refusal by a common check ends the reservation as well (R9, R23). -/
def workAmend (body : List Byte) (d : Device) : Device × Answer :=
  match readAmend body with
  | .ok f => amendSlot f d
  | .error s => (endReservation d, refuse s)

/-! ## DAY-ROLL (R25) -/

/-- The record after the roll. -/
def rolledRecord (x : Record) : Record :=
  { x with
    state := .listed, close := x.last.getD x.close, last := none, high := none, low := none, bid := none, ask := none,
    volume := 0, tradeCount := 0, tick := .none }

/-- The slots in one of the three listed states, rising. -/
def listedSlots (d : Device) : List Slot := everySlot.filter (fun i => isListed (d.slot i).state)

/-- Roll one slot: its record, then its rows and page lines (R10, R25). -/
def rollSlot (i : Slot) (d : Device) : Device :=
  markPages i (markRows (d.slot i).boundRows (writeRecord i (rolledRecord (d.slot i)) d))

/-- Every watch of every terminal becomes ARMED (R156). -/
def rearmWatches (d : Device) : Device := d.setWatches (d.watches.map (fun w => { w with state := .armed }))

/-- Every listed slot is rolled, and the reply counts them (R25). -/
def dayRollStore (_ : Unit) (d : Device) : Device × Answer :=
  (rearmWatches (forEach (listedSlots d) rollSlot (endReservation d)), accept (wordBytes (listedSlots d).length))

/-- DAY-ROLL, kind 0x09 (R25). -/
def workDayRoll (body : List Byte) (d : Device) : Device × Answer := onFields (readNothing body) dayRollStore d

/-! ## The commands -/

/-- A command's effect on the device; the queue of waiting commands is not touched. -/
def onDevice (f : Device → Device) (s : State) : Host.Outcome State Fault Refusal :=
  .next { s with device := f s.device }

def execList (body : List Byte) (s : State) := onDevice (request kindList body (workList body)) s
def execDelist (body : List Byte) (s : State) := onDevice (request kindDelist body (workDelist body)) s
def execTrade (body : List Byte) (s : State) := onDevice (request kindTrade body (workTrade body)) s
def execTradeBlock (body : List Byte) (s : State) := onDevice (request kindTradeBlock body (workTradeBlock body)) s
def execQuote (body : List Byte) (s : State) := onDevice (request kindQuote body (workQuote body)) s

/-- Whether a SET-STATE frame carries the action of the other command: such a frame is not this command's. -/
def carriesAction (w : StateWord) (body : List Byte) : Bool :=
  match readSetState body with
  | .ok f => f.2 == w
  | .error _ => false

/-- SET-STATE OPEN; a frame that carries HALT is a SET_STATE_HALT and no event of this row (R18). -/
def execSetStateOpen (body : List Byte) (s : State) :=
  onDevice (fun d => if carriesAction .haltWord body then d else request kindSetState body (workSetState body) d) s

/-- SET-STATE HALT; a frame that carries OPEN is a SET_STATE_OPEN and no event of this row (R18). -/
def execSetStateHalt (body : List Byte) (s : State) :=
  onDevice (fun d => if carriesAction .openWord body then d else request kindSetState body (workSetState body) d) s

def execFetch (body : List Byte) (s : State) := onDevice (request kindFetch body (workFetch body)) s
def execAmend (body : List Byte) (s : State) := onDevice (request kindAmend body (workAmend body)) s
def execDayRoll (body : List Byte) (s : State) := onDevice (request kindDayRoll body (workDayRoll body)) s

end Sys2Proof.Machine
end

