-- ==== Sys2Proof/Machine/Board.lean ====
section
/-! DEFINITION. The requests of the board controller: SEGMENT-SETUP, LAYOUT, BIND, UNBIND, ROW-CLEAR and ROW-SETUP
(chapter 5), and EXERCISE (R122). -/

namespace Sys2Proof.Machine

/-! ## SEGMENT-SETUP (R87 to R89) -/

/-- A value clamped to a range (R87). -/
def clamp (low high n : Nat) : Nat := max low (min n high)

/-- The settings of an accepted request, clamped, in place of those held (R87). -/
def setSettings (f : SegmentFields) (s : Segment) : Segment :=
  { s with
    stepPeriod := (f.stepPeriod.map (clamp 15 60)).getD s.stepPeriod,
    settleTime := (f.settleTime.map (clamp 50 250)).getD s.settleTime,
    motionLimit := (f.motionLimit.map (clamp 1 8)).getD s.motionLimit,
    hold := (f.hold.map (clamp 0 60)).getD s.hold }

/-- A row of a segment made ACTIVE (R88): cause UNKNOWN, its image unknown, its missed-poll count 0 (R121). -/
def activateRow (r : RowNo) (d : Device) : Device :=
  d.modRow r (fun x => { x with display := .down, cause := .unknown, shown := none, shownSlot := none, missed := 0 })

/-- A DISABLED segment becomes ACTIVE (R88, R121). -/
def activateSegment (g : SegNo) (d : Device) : Device :=
  let d1 := (d.modSegment g (fun s => { s with state := .active, queue := [] })).setLine g BoardLine.powerOn
  forEach (rowsOf d1 g) activateRow d1

/-- A row of a segment made DISABLED enters DOWN, cause SEGMENT-OFF, unless it is so already (R89). -/
def switchOffRow (r : RowNo) (d : Device) : Device :=
  if (d.row r).display = .down ∧ (d.row r).cause = .segmentOff then d else enterDown r .segmentOff d

/-- A segment becomes DISABLED: its exercise is abandoned, the frame in hand too, its rows go DOWN, cause SEGMENT-OFF,
its repaint queue is empty and its motion counter 0 (R86, R89, R121). -/
def disableSegment (g : SegNo) (d : Device) : Device :=
  let d1 := (d.modSegment g (fun s =>
    { s with state := .disabled, exerciseList := [], motionCounter := 0 })).setLine g BoardLine.powerOn
  (forEach (rowsOf d1 g) switchOffRow d1).modSegment g (fun s => { s with queue := [] })

/-- The state change a SEGMENT-SETUP asks for (R88, R89). -/
def changeSegment (g : SegNo) (enable : Option Bool) (d : Device) : Device :=
  match enable, (d.segment g).state with
  | some true, .disabled => activateSegment g d
  | some false, .active => disableSegment g d
  | some false, .exercise => disableSegment g d
  | _, _ => d

/-- The five items of a reply. -/
def segmentSettings (s : Segment) : List Byte :=
  [byte s.stepPeriod, byte s.settleTime, byte s.motionLimit, byte s.hold]

/-- Whether the motion limit asked for, after clamping, is below the rows in motion (R87, R109, R124). -/
def limitTooLow (f : SegmentFields) (d : Device) : Bool :=
  match f.motionLimit with
  | some n => clamp 1 8 n < motionLoad d f.segment
  | none => false

def setupSegment (f : SegmentFields) (d : Device) : Device × Answer :=
  if limitTooLow f d ∨ (f.enable = some true ∧ (d.segment f.segment).state = .exercise) then (d, refuse .busy)
  else
    let d1 := changeSegment f.segment f.enable (d.modSegment f.segment (setSettings f))
    (d1, accept (segmentSettings (d1.segment f.segment) ++ [segmentStateCode (d1.segment f.segment).state]))

/-- SEGMENT-SETUP, kind 0x20. -/
def workSegmentSetup (body : List Byte) (d : Device) : Device × Answer := onFields (readSegmentSetup body) setupSegment d

/-! ## LAYOUT (R90) -/

/-- The rows whose layout setting names a layout. -/
def rowsWithLayout (d : Device) (l : LayoutNo) : List RowNo := everyRow.filter (fun r => (d.row r).layout == l)

def replaceLayout (f : LayoutNo × List Field) (d : Device) : Device × Answer :=
  let rows := rowsWithLayout d f.1
  (markRows rows (d.setLayout f.1 f.2), accept (wordBytes rows.length))

/-- LAYOUT, kind 0x21. -/
def workLayout (body : List Byte) (d : Device) : Device × Answer := onFields (readLayout body) replaceLayout d

/-! ## BIND and UNBIND (R26, R104, R105) -/

/-- A row is taken from the bound-rows list it stands in (R26). -/
def removeBinding (r : RowNo) (d : Device) : Device :=
  match (d.row r).binding with
  | some i => d.modSlot i (fun x => { x with boundRows := x.boundRows.filter (· ≠ r) })
  | none => d

def bindRow (f : RowNo × Slot × LayoutNo) (d : Device) : Device × Answer :=
  let r := f.1
  let i := f.2.1
  let x := d.slot i
  if isListed x.state = false then (d, refuse .notListed)
  else if Config.maxBoundRows ≤ x.boundRows.length ∧ r ∉ x.boundRows then (d, refuse .noSpace)
  else
    let d1 :=
      if (d.row r).binding = some i then d
      else (removeBinding r d).modSlot i (fun x => { x with boundRows := x.boundRows ++ [r] })
    (markRow r (d1.modRow r (fun y => { y with binding := some i, layout := f.2.2 })), accept [])

/-- BIND, kind 0x22. -/
def workBind (body : List Byte) (d : Device) : Device × Answer := onFields (readBind body) bindRow d

def unbindRow (r : RowNo) (d : Device) : Device × Answer := (unbindAndMark r (removeBinding r d), accept [])

/-- UNBIND, kind 0x23. -/
def workUnbind (body : List Byte) (d : Device) : Device × Answer := onFields (readRow body) unbindRow d

/-! ## ROW-CLEAR and ROW-SETUP (R106, R107) -/

def clearRow (r : RowNo) (d : Device) : Device × Answer :=
  if (d.row r).display ≠ .faulted then (d, refuse .wrongState)
  else (enqueueRow r (d.modRow r (fun x => { x with shown := none })), accept [])

/-- ROW-CLEAR, kind 0x24. -/
def workRowClear (body : List Byte) (d : Device) : Device × Answer := onFields (readRow body) clearRow d

/-- Whether a unit's segment is in a state; a row without a unit has none. -/
def unitSegmentIs (d : Device) (u : Option RowUnit) (s : SegmentState) : Bool :=
  match u with
  | some v => (d.segment v.segment).state == s
  | none => false

/-- Whether another row holds a unit (R107). -/
def unitTaken (d : Device) (r : RowNo) (u : Option RowUnit) : Bool :=
  u.isSome && everyRow.any (fun q => q != r && (d.row q).rowUnit == u)

/-- The cause of a DOWN row with a unit: SEGMENT-OFF for none or a DISABLED segment, and else UNKNOWN (R107). -/
def setupCause (d : Device) (u : Option RowUnit) : Cause :=
  match u with
  | none => .segmentOff
  | some v => if (d.segment v.segment).state = .disabled then .segmentOff else .unknown

/-- ROW-SETUP after the common checks (R107). The missed-poll count becomes 0 in every accepted request: R121 says so of a
row that is given a unit, and for unit none, of which no rule speaks, it is the model's choice (DESIGN CHOICE, log 32). -/
def setupRow (f : RowNo × Option RowUnit) (d : Device) : Device × Answer :=
  let x := d.row f.1
  if x.display ≠ .down ∧ x.display ≠ .faulted ∧ unitSegmentIs d x.rowUnit .disabled = false then
    (d, refuse .wrongState)
  else if unitSegmentIs d x.rowUnit .exercise ∨ unitSegmentIs d f.2 .exercise then (d, refuse .busy)
  else if unitTaken d f.1 f.2 then (d, refuse .duplicate)
  else
    let c := setupCause d f.2
    let d1 := if x.display = .down then d else enterDown f.1 c d
    (d1.modRow f.1 (fun y =>
      { y with rowUnit := f.2, cause := c, shown := none, shownSlot := none, missed := 0 }), accept [])

/-- ROW-SETUP, kind 0x25. -/
def workRowSetup (body : List Byte) (d : Device) : Device × Answer := onFields (readRowSetup body) setupRow d

/-! ## EXERCISE (R122) -/

/-- The exercise list: the rows not DOWN or FAULTED, in ascending row number, each at WAITING. -/
def exerciseRows (d : Device) (g : SegNo) : List ExerciseRow :=
  ((rowsOf d g).filter (fun r => (d.row r).display != .down && (d.row r).display != .faulted)).map
    (fun r => ⟨r, .waiting, 0⟩)

def startExercise (f : SegNo × Word) (d : Device) : Device × Answer :=
  match (d.segment f.1).state with
  | .exercise => (d, refuse .busy)
  | .disabled => (d, refuse .wrongState)
  | .active =>
    let l := exerciseRows d f.1
    (exerciseCheck f.1 (d.modSegment f.1 (fun s => { s with state := .exercise, seed := f.2, exerciseList := l })),
     accept [byte l.length])

/-- EXERCISE, kind 0x26. -/
def workExercise (body : List Byte) (d : Device) : Device × Answer := onFields (readExercise body) startExercise d

/-! ## The commands -/

def execSegmentSetup (body : List Byte) (s : State) := onDevice (request kindSegmentSetup body (workSegmentSetup body)) s
def execLayout (body : List Byte) (s : State) := onDevice (request kindLayout body (workLayout body)) s
def execBind (body : List Byte) (s : State) := onDevice (request kindBind body (workBind body)) s
def execUnbind (body : List Byte) (s : State) := onDevice (request kindUnbind body (workUnbind body)) s
def execRowClear (body : List Byte) (s : State) := onDevice (request kindRowClear body (workRowClear body)) s
def execRowSetup (body : List Byte) (s : State) := onDevice (request kindRowSetup body (workRowSetup body)) s
def execExercise (body : List Byte) (s : State) := onDevice (request kindExercise body (workExercise body)) s

end Sys2Proof.Machine
end

