-- ==== Sys2Proof/Machine/BoardLines.lean ====
section
/-! DEFINITION. The events of the board lines: the uses of a free line (R96, R103, R116 to R118, R124), the end of a frame
(R114), the answers of the row units (R113, R182) and the timers of rows and lines (R102, R103, R114, R117). -/

namespace Sys2Proof.Machine

/-! ## The uses of a free line -/

/-- Start the repaint of the row at the front of the queue (R96 to R99): image and estimate composed, the hold timer
stopped and new fresh set when the LAST text has changed, be the hold 0 or not (R98; log 14), the row SENDING, the IMAGE
frame in hand. -/
def startRepaint (g : SegNo) (r : RowNo) (d : Device) : Device :=
  let s := d.segment g
  let x := d.row r
  let image := composeImage d s x
  let changed := lastTextChanged d x image.cells
  let d1 := (d.modSegment g (fun s => { s with queue := s.queue.tail })).setRow r
    { x with
      display := .sending, sent := some ⟨image, estimate s x.shown image⟩, newFresh := changed,
      holdTimer := if changed then .stopped else x.holdTimer }
  sendFrame g .repaint r (.image image) d1

/-- The lamps of a LAMPS frame: UP and DOWN as shown, FRESH off (R103). -/
def lampsWithoutFresh (x : Row) : Lamps :=
  match x.shown with
  | some i => { i.lamps with fresh := false }
  | none => lampsOff

/-- Send the LAMPS frame of a row with lamp-off owed (R103). -/
def startLampChange (g : SegNo) (r : RowNo) (d : Device) : Device :=
  sendFrame g .lampChange r (.lamps (lampsWithoutFresh (d.row r))) d

/-- Send a completion poll; the completion cursor takes the row's motion order, and the row is no longer due (R116, R117). -/
def startCompletionPoll (g : SegNo) (r : RowNo) (d : Device) : Device :=
  let d1 := d.modLine g (fun l => { l with completionCursor := (d.row r).motionOrder })
  sendFrame g .completionPoll r .poll (d1.modRow r (fun x => { x with pollWait := .stopped }))

/-- Send a readiness poll; the poll cursor takes the row's address (R118). -/
def startReadinessPoll (g : SegNo) (r : RowNo) (d : Device) : Device :=
  sendFrame g .readinessPoll r .poll (d.modLine g (fun l => { l with pollCursor := some (rowAddress d r) }))

/-- Send the ECHO-REQUEST of a row at ECHOING (R124). -/
def startEchoRequest (g : SegNo) (r : RowNo) (d : Device) : Device := sendFrame g .echoRequest r .echoRequest d

/-- Send a row its exercise pattern (R124): its hold timer stopped, its lamp-off owed cleared, its estimate worked out. -/
def startPattern (g : SegNo) (r : RowNo) (d : Device) : Device :=
  let pattern := exercisePattern (d.segment g).seed r
  let est := estimate (d.segment g) (d.row r).shown pattern
  let d1 := d.modRow r (fun x => { x with holdTimer := .stopped, lampOffOwed := false })
  sendFrame g .pattern r (.image pattern)
    (setStep r (fun y => { y with step := .patternSent, estimate := est }) g d1)

/-! ## Frames and answers -/

/-- The answer timer after a frame's last byte: 120 ms after an ECHO-REQUEST, 40 ms after every other (R114). -/
def answerTimeOf : FrameBody → Nat
  | .echoRequest => Config.echoAnswerTime
  | _ => Config.answerTime

/-- The last byte of the frame in hand has gone out: the wires are released and the answer timer starts (R114). -/
def frameSent (g : SegNo) (d : Device) : Device :=
  let l := d.line g
  match l.frame with
  | some f => if l.answerTimer.isRunning then d else d.setLine g { l with answerTimer := .running (answerTimeOf f.body) }
  | none => d

/-- A bad answer, or none, while an answer is awaited (R114). -/
def badAnswerNow (g : SegNo) (d : Device) : Device :=
  match awaited d g with
  | some f => badAnswerTo g f d
  | none => d

/-! ## Timers -/

/-- The stall timer of a MOVING or TURNING row expires (R102, R125); the fault cell is the lowest cell with the greatest
step count. -/
def stallExpired (r : RowNo) (d : Device) : Device :=
  let x := d.row r
  if x.stallTimer.isRunning then
    match x.rowUnit with
    | none => d
    | some u =>
      if x.display = .moving then
        enterFaulted r .stalled (match x.sent with
          | some s => slowestCell x.shown s.image
          | none => 0) d
      else if exerciseStep d r = some .turning then
        enterFaulted r .stalled (slowestCell x.shown (exercisePattern (d.segment u.segment).seed r)) d
      else d
  else d

/-- The hold timer of a row expires (the table of R103). -/
def holdExpired (r : RowNo) (d : Device) : Device :=
  let x := d.row r
  if x.holdTimer.isRunning then
    d.setRow r { x with holdTimer := .stopped, lampOffOwed := x.lampOffOwed || x.display == .clean }
  else d

/-- A poll wait expires, and the row becomes due for a poll (R117). -/
def pollWaitExpired (r : RowNo) (d : Device) : Device :=
  match (d.row r).pollWait with
  | .running _ => d.modRow r (fun x => { x with pollWait := .due })
  | _ => d

/-! ## The commands -/

/-- REPAINT_START on a segment: taken when the line's choice is a repaint start (R96, R116). -/
def execRepaintStart (g : SegNo) (s : State) := onDevice (takeUse .repaint g (startRepaint g)) s
/-- LAMP_CHANGE (R103, R116). -/
def execLampChange (g : SegNo) (s : State) := onDevice (takeUse .lampChange g (startLampChange g)) s
/-- COMPLETION_POLL (R116, R124). -/
def execCompletionPoll (g : SegNo) (s : State) := onDevice (takeUse .completionPoll g (startCompletionPoll g)) s
/-- READINESS_POLL (R116, R118, R124). -/
def execReadinessPoll (g : SegNo) (s : State) := onDevice (takeUse .readinessPoll g (startReadinessPoll g)) s
/-- ECHO_REQUEST (R124). -/
def execEchoRequest (g : SegNo) (s : State) := onDevice (takeUse .echoRequest g (startEchoRequest g)) s
/-- PATTERN_FRAME_SEND (R124). -/
def execPatternFrameSend (g : SegNo) (s : State) := onDevice (takeUse .pattern g (startPattern g)) s
/-- BOARD_FRAME_SENT (R114). -/
def execBoardFrameSent (g : SegNo) (s : State) := onDevice (frameSent g) s

/-- ACK (R100, R103, R113). -/
def execAck (g : SegNo) (addr sum : Byte) (spoiled : Bool) (s : State) :=
  onDevice (takeAnswer g ackKind addr [] sum spoiled (accepted g)) s

/-- NAK: the good answer to no frame (R113, R115). -/
def execNak (g : SegNo) (addr sum : Byte) (spoiled : Bool) (s : State) :=
  onDevice (takeAnswer g nakKind addr [] sum spoiled (fun _ d => d)) s

/-- STATUS (R117, R119). -/
def execStatus (g : SegNo) (addr state sum : Byte) (spoiled : Bool) (s : State) :=
  onDevice (takeAnswer g statusKind addr [state] sum spoiled (polled g state)) s

/-- ECHO (R125); an ECHO frame is complete at 32 positions, and fewer or more are no such frame (R182). -/
def execEcho (g : SegNo) (addr : Byte) (sensed : List Byte) (sum : Byte) (spoiled : Bool) (s : State) :=
  onDevice (fun d =>
    if sensed.length = Config.rowCells then takeAnswer g echoKind addr sensed sum spoiled (echoed g sensed) d else d) s

/-- BAD_ANSWER: a first byte that is no answer kind is a complete bad frame (R182). -/
def execBadAnswer (g : SegNo) (first : Byte) (s : State) :=
  onDevice (fun d => if first ∈ answerKinds then d else badAnswerNow g d) s

/-- ANSWER_TIMER_EXPIRY (R114). -/
def execAnswerTimerExpiry (g : SegNo) (s : State) := onDevice (badAnswerNow g) s
/-- STALL_TIMER_EXPIRY (R102, R125). -/
def execStallTimerExpiry (r : RowNo) (s : State) := onDevice (stallExpired r) s
/-- HOLD_TIMER_EXPIRY (R103). -/
def execHoldTimerExpiry (r : RowNo) (s : State) := onDevice (holdExpired r) s
/-- POLL_WAIT_EXPIRY (R117). -/
def execPollWaitExpiry (r : RowNo) (s : State) := onDevice (pollWaitExpired r) s

end Sys2Proof.Machine
end

