-- ==== Sys2Proof/Machine/Ribbons.lean ====
section
/-! DEFINITION. The BULLETIN request (R60), the requests for the ribbons (R66 to R70), and the pacing and character events
(R71 to R76). -/

namespace Sys2Proof.Machine

/-! ## BULLETIN (R60) -/

def offerBulletin (f : Byte × Text) (d : Device) : Device × Answer :=
  let r := offer (.bulletin f.1 f.2) d
  (r.1, accept (outcomeCode r.2 :: wordBytes r.1.tape.entries.length))

/-- BULLETIN, kind 0x10. -/
def workBulletin (body : List Byte) (d : Device) : Device × Answer := onFields (readBulletin body) offerBulletin d

/-! ## RIBBON-SETUP (R66) -/

/-- A rate clamped to 500–4,000; the clamp is not a refusal. -/
def clampRate (n : Nat) : Nat := max Config.minRate (min n Config.maxRate)

/-- The settings of a reply: all four as they stand. -/
def ribbonSettings (x : Ribbon) : List Byte :=
  wordBytes x.groupMask.toNat ++ byte x.lockGroup.val :: (wordBytes x.normalRate ++ wordBytes x.fastRate)

def setupRibbon (f : RibbonFields) (d : Device) : Device × Answer :=
  let x := d.ribbon f.ribbon
  if (f.groupMask.isSome ∨ f.lockGroup.isSome) ∧ x.state ≠ .stopped then (d, refuse .wrongState)
  else
    let y : Ribbon :=
      { x with
        groupMask := f.groupMask.getD x.groupMask, lockGroup := f.lockGroup.getD x.lockGroup,
        normalRate := (f.normalRate.map clampRate).getD x.normalRate,
        fastRate := (f.fastRate.map clampRate).getD x.fastRate }
    (d.setRibbon f.ribbon y, accept (ribbonSettings y))

/-- RIBBON-SETUP, kind 0x11. -/
def workRibbonSetup (body : List Byte) (d : Device) : Device × Answer := onFields (readRibbonSetup body) setupRibbon d

/-! ## RIBBON-START, ALIGN and RIBBON-STOP (R67 to R70) -/

/-- The state an accepted start gives, by the lock group (R65, R67). -/
def startState (x : Ribbon) : RibbonState := if x.lockGroup = 0 then .running else .primed

def startRibbon (r : RibbonNo) (d : Device) : Device × Answer :=
  let x := d.ribbon r
  if x.state ≠ .stopped then (d, refuse .wrongState)
  else
    (d.setRibbon r { x with state := startState x, acc := 0, level := .normal, phase := .idle },
     accept [ribbonStateCode (startState x)])

/-- RIBBON-START, kind 0x12. -/
def workRibbonStart (body : List Byte) (d : Device) : Device × Answer := onFields (readRibbon body) startRibbon d

/-- The PRIMED ribbons of a lock group (R68). -/
def primedOf (d : Device) (g : Fin 4) : List RibbonNo :=
  everyRibbon.filter (fun r => (d.ribbon r).state == .primed && (d.ribbon r).lockGroup == g)

def alignGroup (g : Fin 4) (d : Device) : Device × Answer :=
  (forEach (primedOf d g) (fun r d => d.modRibbon r (fun x => { x with state := .running, acc := 0 })) d,
   accept [byte (primedOf d g).length])

/-- ALIGN, kind 0x14. -/
def workAlign (body : List Byte) (d : Device) : Device × Answer := onFields (readAlign body) alignGroup d

/-- RIBBON-STOP IMMEDIATE (R69): the reply gives STOPPED and the number of entries that left because of the stop. -/
def stopImmediate (r : RibbonNo) (d : Device) : Device × Answer :=
  if (d.ribbon r).state = .stopped then (d, refuse .wrongState)
  else (stopRibbon r d, accept (ribbonStateCode .stopped :: wordBytes (departures (leaveEvery r d))))

/-- A drain that ends in STOPPED raises the RIBBON notice (R70). -/
def endDrain (r : RibbonNo) (d : Device) : Device := (stopRibbon r d).raise (.ribbon r)

/-- RIBBON-STOP DRAIN (R70); the reply's entries-left word is 0 (section 10.2). -/
def stopDrain (r : RibbonNo) (d : Device) : Device × Answer :=
  let x := d.ribbon r
  match x.state with
  | .stopped => (d, refuse .wrongState)
  | .draining => (d, refuse .wrongState)
  | .primed => (endDrain r d, accept (ribbonStateCode .stopped :: wordBytes 0))
  | .running =>
    if drained x then (endDrain r d, accept (ribbonStateCode .stopped :: wordBytes 0))
    else (d.setRibbon r { x with state := .draining }, accept (ribbonStateCode .draining :: wordBytes 0))

def stopByMode (f : RibbonNo × StopMode) (d : Device) : Device × Answer :=
  match f.2 with
  | .immediate => stopImmediate f.1 d
  | .drain => stopDrain f.1 d

/-- RIBBON-STOP, kind 0x13, either mode. -/
def workRibbonStop (body : List Byte) (d : Device) : Device × Answer := onFields (readRibbonStop body) stopByMode d

/-! ## Pacing and characters (R71 to R76) -/

/-- The marker: "LATE" and three blanks (R73, R77). -/
def markerText : Text := txt ['L', 'A', 'T', 'E', ' ', ' ', ' ']

/-- A character starts on the ribbon line (R72). -/
def shift (r : RibbonNo) (c : Byte) (d : Device) : Device := d.modRibbon r (fun x => { x with onLine := some c })

/-- Whether a ribbon has pacing events (R71). -/
def paces (x : Ribbon) : Bool := x.state == .primed || x.state == .running || x.state == .draining

/-- The current rate: the fast rate at DIGITS, and else the normal rate (R71). -/
def currentRate (x : Ribbon) : Nat := if x.level = .digits then x.fastRate else x.normalRate

/-- Whether the next pacing event of a ribbon is a character event (R71). -/
def characterDue (x : Ribbon) : Bool := paces x && decide (Config.pacingModulus ≤ x.acc + currentRate x)

/-- Begin an entry (R74): current, backlog and level, the owed marker, the text and the last-shown slot, the phase. -/
def beginEntry (r : RibbonNo) (y : Entry) (d : Device) : Device :=
  let d1 := d.modRibbon r (fun x => { x with current := some y.id, backlog := x.backlog - y.normalLength })
  let d2 := evaluateDelay r d1
  let x := d2.ribbon r
  let marker := x.markerOwed && x.level != .normal
  let shown := if marker then none else x.lastShown
  d2.setRibbon r
    { x with
      markerOwed := false, text := composeEntry d2 x.level shown y.body, pos := 0,
      lastShown := match y.body with
        | .print i _ _ => some i
        | .corr i _ => some i
        | _ => none,
      phase := if marker then .marker else .text }

/-- A ribbon finishes its current entry (R76): it leaves the entry's pending set, reports a target reached, and a
DRAINING ribbon that is now drained stops with its notice (R70, R82). -/
def finishEntry (r : RibbonNo) (id : Nat) (d : Device) : Device :=
  let d1 := d.modRibbon r (fun x => { x with current := none, phase := .separator, pos := 0, text := [] })
  let d2 := sweepTape (leavePending r id (d1.reportReached r id))
  if (d2.ribbon r).state = .draining ∧ drained (d2.ribbon r) then endDrain r d2 else d2

/-- Shift the next character of phase TEXT; the last one finishes the entry (R73). -/
def textCharacter (r : RibbonNo) (d : Device) : Device :=
  let x := d.ribbon r
  let d1 := shift r (x.text.getD x.pos blank) d
  if x.pos + 1 < x.text.length then d1.modRibbon r (fun x => { x with pos := x.pos + 1 })
  else
    match x.current with
    | some id => finishEntry r id d1
    | none => d1.modRibbon r (fun x => { x with phase := .separator, pos := 0, text := [] })

/-- Shift the next character of phase MARKER; after the seventh the phase becomes TEXT (R73). -/
def markerCharacter (r : RibbonNo) (d : Device) : Device :=
  let x := d.ribbon r
  let d1 := shift r (markerText.getD x.pos blank) d
  if x.pos + 1 < markerText.length then d1.modRibbon r (fun x => { x with pos := x.pos + 1 })
  else d1.modRibbon r (fun x => { x with phase := .text, pos := 0 })

/-- Phase SEPARATOR: a blank; after the third the phase becomes IDLE (R73). -/
def separatorCharacter (r : RibbonNo) (d : Device) : Device :=
  let x := d.ribbon r
  let d1 := shift r blank d
  if x.pos + 1 < Config.separatorLength then d1.modRibbon r (fun x => { x with pos := x.pos + 1 })
  else d1.modRibbon r (fun x => { x with phase := .idle, pos := 0 })

/-- Phase IDLE: begin the next entry and shift its first character, or shift a blank (R73). -/
def idleCharacter (r : RibbonNo) (d : Device) : Device :=
  match nextEntry d r with
  | none => shift r blank d
  | some y =>
    let d1 := beginEntry r y d
    if (d1.ribbon r).phase = .marker then markerCharacter r d1 else textCharacter r d1

/-- The work of a character event, by the phase; a PRIMED ribbon shifts a blank and has no phase work (R73). -/
def characterWork (r : RibbonNo) (d : Device) : Device :=
  let x := d.ribbon r
  if x.state = .primed then shift r blank d
  else
    match x.phase with
    | .idle => idleCharacter r d
    | .marker => markerCharacter r d
    | .text => textCharacter r d
    | .separator => separatorCharacter r d

/-- One pacing event of a ribbon (R71): the current rate is added to A, and at 960,000 or more that event is a character
event. -/
def pacing (r : RibbonNo) (d : Device) : Device :=
  let x := d.ribbon r
  if paces x then
    if characterDue x then
      characterWork r (d.setRibbon r { x with acc := x.acc + currentRate x - Config.pacingModulus })
    else d.setRibbon r { x with acc := x.acc + currentRate x }
  else d

/-! ## The commands -/

def execBulletin (body : List Byte) (s : State) := onDevice (request kindBulletin body (workBulletin body)) s
def execRibbonSetup (body : List Byte) (s : State) := onDevice (request kindRibbonSetup body (workRibbonSetup body)) s
def execRibbonStart (body : List Byte) (s : State) := onDevice (request kindRibbonStart body (workRibbonStart body)) s

/-- Whether a RIBBON-STOP frame carries the mode of the other command: such a frame is not this command's. -/
def carriesMode (m : StopMode) (body : List Byte) : Bool :=
  match readRibbonStop body with
  | .ok f => f.2 == m
  | .error _ => false

/-- RIBBON-STOP IMMEDIATE; a frame that carries DRAIN is a RIBBON_STOP_DRAIN and no event of this row (R69). -/
def execRibbonStopImmediate (body : List Byte) (s : State) :=
  onDevice (fun d => if carriesMode .drain body then d else request kindRibbonStop body (workRibbonStop body) d) s

/-- RIBBON-STOP DRAIN; a frame that carries IMMEDIATE is a RIBBON_STOP_IMMEDIATE and no event of this row (R70). -/
def execRibbonStopDrain (body : List Byte) (s : State) :=
  onDevice (fun d => if carriesMode .immediate body then d else request kindRibbonStop body (workRibbonStop body) d) s

def execAlign (body : List Byte) (s : State) := onDevice (request kindAlign body (workAlign body)) s

/-- PACING_EVENT of one ribbon (R71). -/
def execPacingEvent (r : RibbonNo) (s : State) := onDevice (pacing r) s

/-- CHARACTER_EVENT of one ribbon (R71, R73): the pacing event that brings A to 960,000; at any other moment it is not
due and nothing happens. -/
def execCharacterEvent (r : RibbonNo) (s : State) :=
  onDevice (fun d => if characterDue (d.ribbon r) then pacing r d else d) s

end Sys2Proof.Machine
end

