-- ==== Sys2Proof/Machine/DealerCommands.lean ====
section
/-! DEFINITION. The dealer commands (R147 to R152): each is a function from the characters after its command word to the
changed device and the reply text. A submitted line is handed over when the reply slot is empty (R137). -/

namespace Sys2Proof.Machine

/-! ## Replies and parts (R147) -/

def replyWatchSet : Text := txt ['W', 'A', 'T', 'C', 'H', ' ', 'S', 'E', 'T']
def replyWatchOff : Text := txt ['W', 'A', 'T', 'C', 'H', ' ', 'O', 'F', 'F']
def replyPageSet : Text := txt ['P', 'A', 'G', 'E', ' ', 'S', 'E', 'T']
def replySent : Text := txt ['S', 'E', 'N', 'T']
def replyCmd : Text := txt ['?', 'C', 'M', 'D']
def replySym : Text := txt ['?', 'S', 'Y', 'M']
def replyPrice : Text := txt ['?', 'P', 'R', 'I', 'C', 'E']
def replyDup : Text := txt ['?', 'D', 'U', 'P']
def replyFull : Text := txt ['?', 'F', 'U', 'L', 'L']
def replyNone : Text := txt ['?', 'N', 'O', 'N', 'E']
def replyWait : Text := txt ['?', 'W', 'A', 'I', 'T']
def replyLine : Text := txt ['?', 'L', 'I', 'N', 'E']

/-- The parts of a text, cut at every blank. -/
def parts : Text → List Text
  | [] => [[]]
  | c :: t =>
    if c = blank then [] :: parts t
    else
      match parts t with
      | p :: l => (c :: p) :: l
      | [] => [[c]]

/-- Whether a text ends with a blank. -/
def endsBlank (t : Text) : Bool := t.getLast? == some blank

/-- Whether a text has two blanks together. -/
def doubleBlank : Text → Bool
  | a :: b :: t => (a == blank && b == blank) || doubleBlank (b :: t)
  | _ => false

/-- A condition as it is typed (R149). -/
def readCondition (t : Text) : Option Condition :=
  if t = conditionText .above then some .above
  else if t = conditionText .below then some .below
  else if t = conditionText .equal then some .equal
  else if t = conditionText .any then some .any
  else none

/-- A symbol part: its form, then the lookup (R147). -/
def readSymbol (d : Device) (t : Text) : Except Text Slot :=
  if symbolOk t then
    match lookup d t with
    | some i => .ok i
    | none => .error replySym
  else .error replyCmd

/-! ## Quote (R148) -/

/-- "Q sym". -/
def quoteCommand (rest : Text) (d : Device) : Device × Text :=
  match readSymbol d rest with
  | .ok i => (d, quoteText (d.slot i))
  | .error e => (d, e)

/-! ## Set a watch (R149) -/

/-- The parts of a W line: symbol, condition and the price text, which is none for "*"; a known condition and a price
part after ">=", "<=" and "=" are its form. -/
def readWatchLine (rest : Text) : Option (Text × Condition × Option Text) :=
  if endsBlank rest then none
  else
    match cutAt blank rest with
    | none => none
    | some (sym, r) =>
      match cutAt blank r with
      | none => if readCondition r = some .any then some (sym, .any, none) else none
      | some (c, p) =>
        match readCondition c with
        | some .any => none
        | some k => some (sym, k, some p)
        | none => none

/-- The watches a terminal holds. -/
def watchesOf (d : Device) (t : LineNo) : List Watch := d.watches.filter (fun w => w.terminal == t)

/-- The threshold a W line gives: absent for ANY, and else the typed price (R149). -/
def readThreshold (p : Option Text) : Option Price :=
  match p with
  | none => some none
  | some t => (readPrice t).map some

/-- "W sym cond p" and "W sym *": form, symbol, price, duplicate, room; then the watch is ARMED (R149). -/
def watchCommand (t : LineNo) (rest : Text) (d : Device) : Device × Text :=
  match readWatchLine rest with
  | none => (d, replyCmd)
  | some (sym, c, p) =>
    match readSymbol d sym with
    | .error e => (d, e)
    | .ok i =>
      match readThreshold p with
      | none => (d, replyPrice)
      | some threshold =>
        if (findWatch d t i c).isSome then (d, replyDup)
        else if Config.watchesPerTerminal ≤ (watchesOf d t).length ∨ Config.watchPool ≤ d.watches.length then
          (d, replyFull)
        else (d.setWatches (d.watches ++ [⟨t, i, c, threshold, .armed⟩]), replyWatchSet)

/-! ## Remove watches (R150) -/

/-- The parts of an X line: the symbol and the condition, if one is given. -/
def readRemoveLine (rest : Text) : Option (Text × Option Condition) :=
  match parts rest with
  | [sym] => some (sym, none)
  | [sym, c] => (readCondition c).map (fun k => (sym, some k))
  | _ => none

/-- Whether a removal names a watch. -/
def removes (t : LineNo) (i : Slot) (c : Option Condition) (w : Watch) : Bool :=
  w.terminal == t && w.slot == i && (match c with
    | some k => w.cond == k
    | none => true)

/-- "X sym" and "X sym cond": the watches named go, with their waiting alerts (R150). -/
def removeCommand (t : LineNo) (rest : Text) (d : Device) : Device × Text :=
  match readRemoveLine rest with
  | none => (d, replyCmd)
  | some (sym, c) =>
    match readSymbol d sym with
    | .error e => (d, e)
    | .ok i =>
      let gone := d.watches.filter (removes t i c)
      if gone = [] then (d, replyNone)
      else
        ((d.setWatches (d.watches.filter (fun w => !removes t i c w))).modDealer t (fun y =>
          { y with alerts := gone.foldl (fun l w => dropAlert w.slot w.cond l) y.alerts }), replyWatchOff)

/-! ## Set the page (R151) -/

/-- The slots of a list of symbols; the first that the directory does not hold fails. -/
def lookupAll (d : Device) : List Text → Option (List Slot)
  | [] => some []
  | s :: l =>
    match lookup d s, lookupAll d l with
    | some i, some r => some (i :: r)
    | _, _ => none

/-- The page takes the slots in order; the entries after the last are empty, and every mark is set (R151). -/
def setPage (l : List Slot) (y : Dealer) : Dealer :=
  markAll (everyPage.foldl (fun y p => y.setEntry p l[p.val]?) y)

/-- "P" alone, or "P" and 1 to 8 symbols (R151). -/
def pageCommand (t : LineNo) (rest : Option Text) (d : Device) : Device × Text :=
  match rest with
  | none => (d.modDealer t (setPage []), replyPageSet)
  | some r =>
    if 8 < (parts r).length ∨ (parts r).all symbolOk = false then (d, replyCmd)
    else
      match lookupAll d (parts r) with
      | none => (d, replySym)
      | some l => (d.modDealer t (setPage l), replyPageSet)

/-! ## Forward a text (R152) -/

/-- ">" and a text: copied to an empty forward buffer, with the TERMINAL notice (R147, R152). -/
def forwardCommand (t : LineNo) (text : Text) (d : Device) : Device × Text :=
  if text = [] ∨ endsBlank text ∨ doubleBlank text then (d, replyCmd)
  else if (d.dealer t).forward ≠ [] then (d, replyWait)
  else ((d.modDealer t (fun y => { y with forward := text })).raise (.terminal t), replySent)

/-! ## Reading a line (R147) -/

/-- A submitted line, taken by its first characters (the table of R147). -/
def interpretLine (t : LineNo) (line : Text) (d : Device) : Device × Text :=
  match line with
  | [] => (d, replyCmd)
  | [a] => if a = ch 'P' then pageCommand t none d else (d, replyCmd)
  | a :: b :: rest =>
    if a = ch '>' then forwardCommand t (b :: rest) d
    else if b ≠ blank then (d, replyCmd)
    else if a = ch 'Q' then quoteCommand rest d
    else if a = ch 'W' then watchCommand t rest d
    else if a = ch 'X' then removeCommand t rest d
    else if a = ch 'P' then pageCommand t (some rest) d
    else (d, replyCmd)

/-- Place a reply in the reply slot; the item that waits makes a room event (R139, R147). -/
def placeReply (t : LineNo) (reply : Text) (d : Device) : Device :=
  roomEvent t (d.modTerminal t (fun x => { x with reply := some reply }))

/-- A command and its reply. The page lines that a page command marks become waiting with its reply, and one room event
follows both, so that the reply enters first (DESIGN CHOICE, log 33). -/
def answerDealer (t : LineNo) (work : Device → Device × Text) (d : Device) : Device :=
  placeReply t (work d).2 (work d).1

/-- Whether a line can be handed to the dealer service as this line's submission: the terminal line is ACTIVE, the reply
slot empty, and the line 1 to 40 printable characters (R136, R137). -/
def submittable (d : Device) (t : LineNo) (line : Text) : Bool :=
  (d.terminal t).state == .active && (d.terminal t).reply.isNone && !line.isEmpty &&
    decide (line.length ≤ Config.inputCapacity) && line.all printable

/-- A submitted line is interpreted and answered; a line that cannot be submitted is no event. -/
def dealerLine (t : LineNo) (line : Text) (work : Device → Device × Text) (d : Device) : Device :=
  if submittable d t line then answerDealer t work d else d

/-- Whether a submitted line matches no command: its answer is "?CMD" (R147). -/
def matchesNothing (t : LineNo) (line : Text) (d : Device) : Bool := (interpretLine t line d).2 == replyCmd

/-! ## The commands -/

/-- DEALER_QUOTE (R148). -/
def execDealerQuote (t : LineNo) (rest : List Byte) (s : State) :=
  onDevice (dealerLine t (ch 'Q' :: blank :: rest) (quoteCommand rest)) s

/-- SET_A_WATCH (R149). -/
def execSetAWatch (t : LineNo) (rest : List Byte) (s : State) :=
  onDevice (dealerLine t (ch 'W' :: blank :: rest) (watchCommand t rest)) s

/-- REMOVE_WATCHES (R150). -/
def execRemoveWatches (t : LineNo) (rest : List Byte) (s : State) :=
  onDevice (dealerLine t (ch 'X' :: blank :: rest) (removeCommand t rest)) s

/-- The line a page command is typed as. -/
def pageLine : Option Text → Text
  | none => [ch 'P']
  | some r => ch 'P' :: blank :: r

/-- SET_THE_PAGE (R151). -/
def execSetThePage (t : LineNo) (rest : Option (List Byte)) (s : State) :=
  onDevice (dealerLine t (pageLine rest) (pageCommand t rest)) s

/-- FORWARD_A_TEXT (R152). -/
def execForwardAText (t : LineNo) (text : List Byte) (s : State) :=
  onDevice (dealerLine t (ch '>' :: text) (forwardCommand t text)) s

/-- UNKNOWN_COMMAND: a line that matches a command is no event of this row (R147). -/
def execUnknownCommand (t : LineNo) (line : List Byte) (s : State) :=
  onDevice (fun d => if matchesNothing t line d then dealerLine t line (fun d => (d, replyCmd)) d else d) s

end Sys2Proof.Machine
end

