-- ==== Sys2Proof/Machine/Terminals.lean ====
section
/-! DEFINITION. The requests for the terminal lines, LINE-SETUP, TERMINAL-TEXT and LINE-TEST (R132, R140, R141), and the
events of a line: characters, errors and breaks received (R134 to R137), line-present changes (R133), the transmitter
(R138) and the wait timer of a test (R141). -/

namespace Sys2Proof.Machine

/-! ## LINE-SETUP (R132) -/

/-- The line falls out of service: what R132 and R133 empty, the alert list too; a character on the wire goes out. -/
def clearLine (t : LineNo) (s : TermState) (d : Device) : Device :=
  emptyAlerts t (d.modTerminal t (fun x => { clearedTerminal x with state := s }))

/-- The enable or disable of a LINE-SETUP (R131, R132). -/
def switchLine (t : LineNo) (enable : Option Bool) (d : Device) : Device :=
  match enable, (d.terminal t).state with
  | some true, .disabled =>
    if (d.terminal t).present then oweRedraw t (d.modTerminal t (fun x => { x with state := .active }))
    else d.modTerminal t (fun x => { x with state := .absent })
  | some false, .absent => clearLine t .disabled d
  | some false, .active => clearLine t .disabled d
  | _, _ => d

/-- The rate and format given, in place of those held; a character in assembly is discarded (R132). -/
def setLineFormat (f : LineFields) (x : Terminal) : Terminal :=
  { x with
    rate := f.rate.getD x.rate, format := f.format.getD x.format,
    receiver := if x.receiver = .assembling then .idle else x.receiver }

/-- The data of a LINE-SETUP reply. -/
def lineSettings (x : Terminal) : List Byte :=
  wordBytes (baud x.rate) ++ [formatCode x.format, termStateCode x.state, flagByte x.present]

def setupLine (f : LineFields) (d : Device) : Device × Answer :=
  if (d.terminal f.line).state = .loopback then (d, refuse .busy)
  else
    let d1 := switchLine f.line f.enable (d.modTerminal f.line (setLineFormat f))
    (d1, accept (lineSettings (d1.terminal f.line)))

/-- LINE-SETUP, kind 0x30. -/
def workLineSetup (body : List Byte) (d : Device) : Device × Answer := onFields (readLineSetup body) setupLine d

/-! ## TERMINAL-TEXT (R140) -/

def hostTextFor (f : LineNo × Text) (d : Device) : Device × Answer :=
  let x := d.terminal f.1
  if x.state = .disabled ∨ x.state = .absent then (d, refuse .wrongState)
  else if x.hostText.isSome then (d, refuse .busy)
  else
    let d1 := roomEvent f.1 (d.modTerminal f.1 (fun y => { y with hostText := some f.2 }))
    (d1, accept (wordBytes (freeRoom (d1.terminal f.1))))

/-- TERMINAL-TEXT, kind 0x31. -/
def workTerminalText (body : List Byte) (d : Device) : Device × Answer := onFields (readTerminalText body) hostTextFor d

/-! ## LINE-TEST (R141) -/

/-- Whether a format can carry a character: 0–127 in a seven-bit format. -/
def carries (f : Format) (c : Byte) : Bool :=
  match f with
  | .none8 => true
  | _ => c.toNat ≤ 127

def startTest (f : LineNo × Text) (d : Device) : Device × Answer :=
  let x := d.terminal f.1
  if x.state = .loopback then (d, refuse .busy)
  else if x.state = .disabled then (d, refuse .wrongState)
  else if f.2.all (carries x.format) = false then (d, refuse .badField)
  else
    (startTestCharacter f.1 (d.setTerminal f.1
      { x with
        state := .loopback, receiver := .idle, testResult := .none, test := some ⟨x.state, f.2, [], 0, .stopped⟩ }),
     accept [])

/-- LINE-TEST, kind 0x32. -/
def workLineTest (body : List Byte) (d : Device) : Device × Answer := onFields (readLineTest body) startTest d

/-! ## Line-present (R133) -/

/-- The TERMINAL notice of a line (R142). -/
def raiseTerminal (t : LineNo) (d : Device) : Device := d.raise (.terminal t)

/-- A test abandoned by a change of line-present (R133, R141). The receiver is idle, even after a break on the loop
(DEDUCED, log 21). -/
def abandonTest (x : Terminal) : Terminal := { x with test := none, testResult := .abandoned, receiver := .idle }

/-- The line-present input rises (R133). -/
def presentRises (t : LineNo) (d : Device) : Device :=
  let x := d.terminal t
  if x.present then d
  else
    match x.state with
    | .disabled => d.setTerminal t { x with present := true }
    | .absent => raiseTerminal t (oweRedraw t (d.setTerminal t { x with present := true, state := .active }))
    | .loopback => raiseTerminal t (oweRedraw t (d.setTerminal t { abandonTest x with present := true, state := .active }))
    | .active => d.setTerminal t { x with present := true }

/-- The line-present input falls (R133). -/
def presentFalls (t : LineNo) (d : Device) : Device :=
  let x := d.terminal t
  if x.present = false then d
  else
    match x.state with
    | .disabled => d.setTerminal t { x with present := false }
    | .absent => d.setTerminal t { x with present := false }
    | .active => raiseTerminal t (clearLine t .absent (d.setTerminal t { x with present := false }))
    | .loopback => raiseTerminal t (clearLine t .absent (d.setTerminal t { abandonTest x with present := false }))

/-! ## Receiving (R134 to R137) -/

/-- The echo of a CR: line 24, column 1, and erase-to-end-of-line (R137). -/
def crEcho : Text := position 24 1 ++ eraseToEnd

/-- The echo of a deletion (R136). -/
def deleteEcho : Text := [bs, blank, bs]

/-- A CR: an errored line is answered "?LINE", an empty one submits nothing, any other is handed to the dealer service;
with the reply slot in use nothing is submitted and the echo is BEL (R137). -/
def submit (t : LineNo) (d : Device) : Device :=
  let x := d.terminal t
  if x.reply.isSome then roomEvent t (offerEcho t [bel] d)
  else
    let d1 := offerEcho t crEcho (d.setTerminal t { x with input := [], errored := false })
    if x.errored then placeReply t replyLine d1
    else if x.input = [] then roomEvent t d1
    else answerDealer t (interpretLine t x.input) d1

/-- A good character by its value (the table of R136). -/
def takeCharacter (t : LineNo) (c : Byte) (d : Device) : Device :=
  let x := d.terminal t
  if c = cr then submit t d
  else if c = bs ∨ c = del then
    if x.input = [] then roomEvent t (offerEcho t [bel] d)
    else roomEvent t (offerEcho t deleteEcho (d.setTerminal t { x with input := x.input.dropLast }))
  else if printable c then
    if x.input.length < Config.inputCapacity then
      roomEvent t (offerEcho t [c] (d.setTerminal t { x with input := x.input ++ [c] }))
    else roomEvent t (offerEcho t [bel] d)
  else d

/-- Whether the receiver takes a character from this source: from the wire in ACTIVE, from the line's own transmitter in
LOOPBACK, but not while it waits for the wire to return to mark after a break (R131, R134). A test character that arrives
after its test has ended is thus discarded (R143). -/
def receives (x : Terminal) (src : RxSource) : Bool :=
  (match x.state, src with
   | .active, .wire => true
   | .loopback, .loop => true
   | _, _ => false) && x.receiver != .afterBreak

/-- A good character: taken by its value in ACTIVE, kept in the test record in LOOPBACK (R136, R141). -/
def goodCharacter (t : LineNo) (src : RxSource) (c : Byte) (d : Device) : Device :=
  let x := d.terminal t
  if receives x src = false ∨ carries x.format c = false then d
  else if x.state = .loopback then receiveTest t (.good c) d
  else takeCharacter t c d

/-- A break: the input line goes and a full redraw is handed over in ACTIVE, a framing error is kept in LOOPBACK; the
receiver waits for mark (R134, R135, R141). -/
def breakTaken (t : LineNo) (src : RxSource) (d : Device) : Device :=
  let x := d.terminal t
  if receives x src = false then d
  else if x.state = .loopback then receiveTest t .framing (d.setTerminal t { x with receiver := .afterBreak })
  else oweRedraw t (d.setTerminal t { x with receiver := .afterBreak, input := [], errored := false })

/-- Whether a format can show a line error: an eight-bit format has no parity (R134). -/
def errorPossible (f : Format) (k : RxError) : Bool :=
  match f, k with
  | .none8, .parity => false
  | _, _ => true

/-- A line error: the character is discarded, the input line takes the errored mark and '?' is the echo (R134); in
LOOPBACK it is kept in the test record (R141). -/
def lineErrorTaken (t : LineNo) (src : RxSource) (k : RxError) (d : Device) : Device :=
  let x := d.terminal t
  if receives x src = false ∨ errorPossible x.format k = false then d
  else if x.state = .loopback then
    receiveTest t (match k with
      | .parity => .parity
      | .framing => .framing) d
  else roomEvent t (offerEcho t [ch '?'] (d.setTerminal t { x with errored := true }))

/-- The wire returns to mark after a break (R134). The event carries no source, so that in LOOPBACK it ends the wait after a
break on the loop too (DESIGN CHOICE, log 34). -/
def wireMark (t : LineNo) (d : Device) : Device :=
  let x := d.terminal t
  if x.receiver = .afterBreak then d.setTerminal t { x with receiver := .idle } else d

/-! ## The transmitter and the wait timer (R138, R141) -/

/-- In LOOPBACK, after the last character of the text has been sent, the wait timer starts (R141). -/
def testCharacterSent (t : LineNo) (d : Device) : Device :=
  match (d.terminal t).test with
  | none => d
  | some x =>
    if x.started < x.text.length then startTestCharacter t d
    else if x.wait.isRunning then d
    else d.modTerminal t (fun y => { y with test := some { x with wait := .running Config.testWaitTime } })

/-- What the transmitter does after a character, by the line's state (R131, R138). -/
def afterCharacter (t : LineNo) (d : Device) : Device :=
  match (d.terminal t).state with
  | .active => roomEvent t d
  | .loopback => testCharacterSent t d
  | .absent => d
  | .disabled => d

/-- The transmitter finishes a character (R138, R141). -/
def characterSent (t : LineNo) (d : Device) : Device :=
  let x := d.terminal t
  if x.transmitter.isNone then d else afterCharacter t (d.setTerminal t { x with transmitter := none })

/-- The wait timer of a test expires, and the test completes (R141). -/
def waitExpired (t : LineNo) (d : Device) : Device :=
  match (d.terminal t).test with
  | some x => if x.wait.isRunning then completeTest t d else d
  | none => d

/-! ## The commands -/

def execLineSetup (body : List Byte) (s : State) := onDevice (request kindLineSetup body (workLineSetup body)) s
def execTerminalText (body : List Byte) (s : State) := onDevice (request kindTerminalText body (workTerminalText body)) s
def execLineTest (body : List Byte) (s : State) := onDevice (request kindLineTest body (workLineTest body)) s
/-- GOOD_CHARACTER (R136). -/
def execGoodCharacter (t : RxPoint) (c : Byte) (s : State) := onDevice (goodCharacter t.line t.source c) s
/-- BREAK (R135). -/
def execBreak (t : RxPoint) (s : State) := onDevice (breakTaken t.line t.source) s
/-- LINE_ERROR (R134). -/
def execLineError (t : RxPoint) (k : RxError) (s : State) := onDevice (lineErrorTaken t.line t.source k) s
/-- LINE_PRESENT_RISE (R133). -/
def execLinePresentRise (t : LineNo) (s : State) := onDevice (presentRises t) s
/-- LINE_PRESENT_FALL (R133). -/
def execLinePresentFall (t : LineNo) (s : State) := onDevice (presentFalls t) s
/-- TERMINAL_CHARACTER_SENT (R138). -/
def execTerminalCharacterSent (t : LineNo) (s : State) := onDevice (characterSent t) s
/-- WAIT_TIMER_EXPIRY (R141). -/
def execWaitTimerExpiry (t : LineNo) (s : State) := onDevice (waitExpired t) s
/-- WIRE_RETURNS_TO_MARK (R134). -/
def execWireReturnsToMark (t : LineNo) (s : State) := onDevice (wireMark t) s

end Sys2Proof.Machine
end

