-- ==== Sys2Proof/Machine/HostChannel.lean ====
section
/-! DEFINITION. The host channel's own requests, COLLECT, SETTLE and RESTART (R171, R175, R179), and its events: bytes
written and taken (R163, R164, R167), its timers (R165, R167), frames that name no request (R164, R168), and the reset
input (R180). -/

namespace Sys2Proof.Machine

/-! ## COLLECT (R171, section 10.5) -/

/-- The notice kind code of section 10.3; NONE is 0. -/
def noticeKindCode : Notice → Byte
  | .row _ => 1
  | .segment _ => 2
  | .ribbon _ => 3
  | .tape => 4
  | .terminal _ => 5
  | .settled => 6
  | .channel => 7

/-- The object byte of section 10.5. -/
def noticeObject : Notice → Byte
  | .row r => byte r.val
  | .segment g => byte g.val
  | .ribbon r => byte r.val
  | .tape => 0
  | .terminal t => byte t.val
  | .settled => 0
  | .channel => 0

/-- The cause of a ROW notice: as held for DOWN and FAULTED, and else none (R127). -/
def reportedCause (x : Row) : Byte :=
  if x.display = .down ∨ x.display = .faulted then causeCode x.cause else 0

/-- The content of a ROW notice (R127). -/
def rowContent (d : Device) (r : RowNo) : List Byte :=
  let x := d.row r
  [displayCode x.display, reportedCause x, byte x.faultCell] ++
    (match x.rowUnit with
     | some u => [byte u.segment.val, byte u.address.val]
     | none => [0xFF, 0]) ++
    (match x.binding with
     | some i => wordBytes i.val
     | none => [0xFF, 0xFF]) ++
    [byte x.missed, match exerciseStep d r with
      | some s => exerciseStepCode s
      | none => 0]

/-- The content of a SEGMENT notice (R126). -/
def segmentContent (s : Segment) : List Byte :=
  segmentStateCode s.state :: segmentSettings s ++ [byte s.result.listed, byte s.result.passed, byte s.result.failed]

/-- The content of a RIBBON notice (R81). -/
def ribbonContent (d : Device) (r : RibbonNo) : List Byte :=
  let x := d.ribbon r
  [ribbonStateCode x.state, levelCode x.level] ++ wordBytes x.backlog ++ wordBytes (delay x) ++
    wordBytes (waitingEntries d r) ++ byte x.lockGroup.val :: (wordBytes x.normalRate ++ wordBytes x.fastRate)

/-- The omitted count of an entry; 0 for any but a GAP. -/
def omittedOf (x : Entry) : Nat :=
  match x.body with
  | .gap n => n
  | _ => 0

/-- The content of a TAPE notice (R55). -/
def tapeContent (l : List Entry) : List Byte :=
  wordBytes l.length ++ wordBytes (l.filter (fun x => x.body.isGap)).length ++
    wordBytes (min (l.map omittedOf).sum Config.maxOmitted) ++ [flagByte (tailIsGap l)]

/-- The error-kinds byte (section 10.3). -/
def kindsByte (k : ErrorKinds) : Byte :=
  byte ((if k.value then 1 else 0) + (if k.parity then 2 else 0) + (if k.framing then 4 else 0) +
    (if k.missing then 8 else 0))

/-- The test position and the error kinds: both 0 unless the result is MISMATCH. -/
def testDetail : TestResult → List Byte
  | .mismatch k kinds => [byte k, kindsByte kinds]
  | .none => [0, 0]
  | .matched => [0, 0]
  | .abandoned => [0, 0]

/-- The content of a TERMINAL notice (R142, R152). -/
def terminalContent (x : Terminal) (y : Dealer) : List Byte :=
  [termStateCode x.state, flagByte x.present] ++ wordBytes (baud x.rate) ++
    [formatCode x.format, testResultCode x.testResult] ++ testDetail x.testResult ++ wordBytes x.queue.length ++
    byte y.forward.length :: y.forward

/-- The content of a SETTLED notice (R177). -/
def settledContent (x : SettleResult) : List Byte :=
  wordBytes x.rowsOwing ++ wordBytes x.rowsShown ++ wordBytes x.rowsNotShown ++
    [byte x.ribbonsWithTargets, byte x.ribbonsReached, byte x.ribbonsStopped]

/-- The content of a CHANNEL notice (R173). -/
def channelContent (x : Channel) : List Byte :=
  [byte x.framesAbandoned, byte x.repliesAbandoned, abandonCode x.cause, x.abandonedKind.getD 0]

/-- The content of a notice, read from its object as it stands (the table of R171). -/
def noticeContent (d : Device) : Notice → List Byte
  | .row r => rowContent d r
  | .segment g => segmentContent (d.segment g)
  | .ribbon r => ribbonContent d r
  | .tape => tapeContent d.tape.entries
  | .terminal t => terminalContent (d.terminal t) (d.dealer t)
  | .settled => settledContent d.channel.settle.result
  | .channel => channelContent d.channel

/-- Whether the content of a notice carries a forwarded text (R172). -/
def forwardsText (d : Device) : Notice → Bool
  | .terminal t => !(d.dealer t).forward.isEmpty
  | _ => false

/-- Take the first notice in the order, clear its flag and read its content (R171). -/
def collectNotice (_ : Unit) (d : Device) : Device × Answer :=
  match firstNotice d.notices with
  | none => (d, accept [0])
  | some n =>
    (d.clearNotice n,
     ⟨.accepted, noticeKindCode n :: noticeObject n :: noticeContent d n, some n, forwardsText d n⟩)

/-- COLLECT, kind 0x40. -/
def workCollect (body : List Byte) (d : Device) : Device × Answer := onFields (readNothing body) collectNotice d

/-! ## SETTLE (R175) -/

/-- The owed count a SETTLE gives a row (the table of R108). -/
def owedBy (x : Row) : Nat :=
  match x.display with
  | .queued => 1
  | .sending => if x.again then 2 else 1
  | .moving => if x.again then 2 else 1
  | .clean => 0
  | .down => 0
  | .faulted => 0

/-- Each row sets its owed count (R108). -/
def setOwed (d : Device) : Device := forEach everyRow (fun r d => d.modRow r (fun x => { x with owed := owedBy x })) d

/-- The number of rows that owe. -/
def owingRows (d : Device) : Nat := (everyRow.filter (fun r => 0 < owedBy (d.row r))).length

/-- The ribbons that give a target, each with it (R82). -/
def settleTargets (d : Device) : List (RibbonNo × Nat) :=
  everyRibbon.filterMap (fun r => (settleTarget d r).map (fun id => (r, id)))

/-- The record at an accepted SETTLE: the counts but the result cleared, then the debts (R175). -/
def startedSettle (rows : Nat) (targets : List (RibbonNo × Nat)) (x : Settle) : Settle :=
  { Settle.powerOn with
    rowsOwing := rows, rowsStillOwing := rows, ribbonsWithTargets := targets.length, unsettled := targets,
    result := x.result }

/-- Outstanding becomes yes when something is owed, and else the settle completes at once (R175, R177). -/
def openSettle (d : Device) : Device :=
  if d.channel.settle.rowsStillOwing = 0 ∧ d.channel.settle.unsettled = [] then d.settleCheck
  else d.modSettle (fun x => { x with outstanding := true })

def settleNow (_ : Unit) (d : Device) : Device × Answer :=
  if d.channel.settle.outstanding then (d, refuse .busy)
  else
    let rows := owingRows d
    let targets := settleTargets d
    (openSettle ((setOwed d).modSettle (startedSettle rows targets)),
     accept (wordBytes rows ++ [byte targets.length, flagByte (rows == 0 && targets.isEmpty)]))

/-- SETTLE, kind 0x41. -/
def workSettle (body : List Byte) (d : Device) : Device × Answer := onFields (readNothing body) settleNow d

/-! ## RESTART (R179) -/

/-- The quotation store: every DELISTING slot becomes FREE (R28). -/
def restartStore (d : Device) : Device :=
  forEach (everySlot.filter (fun i => (d.slot i).state = .delisting)) (fun i d => d.setSlot i Record.free) d

/-- The tape queue empties and every ribbon stops with its settings kept (R63, R84). -/
def restartTape (d : Device) : Device :=
  forEach everyRibbon (fun r d => d.modRibbon r stoppedRibbon) (d.setTape { d.tape with entries := [] })

/-- A segment: its queue and exercise list emptied, its motion counter 0, an exercise abandoned (R86, R111). -/
def restartedSegment (s : Segment) : Segment :=
  { s with
    state := if s.state = .exercise then .active else s.state, motionCounter := 0, queue := [], exerciseList := [] }

/-- A segment and its board line (R111, R129). -/
def restartSegment (g : SegNo) (d : Device) : Device :=
  (d.modSegment g restartedSegment).setLine g BoardLine.powerOn

/-- A row: DOWN, cause UNKNOWN, when its segment is ACTIVE; its missed-poll count and its owed count are 0 in any case
(R108, R111, R129). -/
def restartRow (r : RowNo) (d : Device) : Device :=
  if unitSegmentIs d (d.row r).rowUnit .active then
    d.modRow r (fun x => { darkRow x .down .unknown with missed := 0 })
  else d.modRow r (fun x => { x with missed := 0, owed := 0, pollWait := .stopped })

/-- The state a line takes: a test is abandoned to ACTIVE or ABSENT by the line-present level (R144). -/
def restartedState (x : Terminal) : TermState :=
  if x.state = .loopback then (if x.present then .active else .absent) else x.state

/-- A terminal line: queue, input line and slots emptied, a test abandoned with the result kept (R144). -/
def restartedTerminal (x : Terminal) : Terminal :=
  { clearedTerminal x with
    state := restartedState x, receiver := if x.state = .loopback then .idle else x.receiver }

/-- A terminal line and its dealer: the alert list and the forward buffer emptied, and a full redraw handed over when
the line is ACTIVE (R144, R161). -/
def restartTerminal (t : LineNo) (d : Device) : Device :=
  let d1 := (d.modTerminal t restartedTerminal).modDealer t (fun y => { y with alerts := [], forward := [] })
  if (d1.terminal t).state = .active then oweRedraw t d1 else d1

/-- The settle record is abandoned with no report (R179). -/
def abandonedSettle (x : Settle) : Settle :=
  { x with outstanding := false, rowsStillOwing := 0, unsettled := [] }

/-- The channel counts cleared (R173, R179). -/
def clearedCounts (x : Channel) : Channel :=
  { x with framesAbandoned := 0, repliesAbandoned := 0, cause := .none, abandonedKind := none }

/-- The host channel: the reservation ends, the settle record is abandoned, the counts are cleared (R9, R179). -/
def restartChannel (d : Device) : Device :=
  d.setChannel { clearedCounts d.channel with reservation := none, settle := abandonedSettle d.channel.settle }

/-- Every block takes its RESTART values, and every notice flag is cleared. -/
def restartAll (d : Device) : Device :=
  let d1 := restartTape (restartStore d)
  let d2 := forEach everyRow restartRow (forEach everySegment restartSegment d1)
  let d3 := forEach everyLine restartTerminal d2
  (restartChannel d3).setNotices []

def restartNow (_ : Unit) (d : Device) : Device × Answer := (restartAll d, accept [])

/-- RESTART, kind 0x42. -/
def workRestart (body : List Byte) (d : Device) : Device × Answer := onFields (readNothing body) restartNow d

/-! ## Every request by its kind (R166, R168) -/

/-- The work of each kind. -/
def requestWork : List (Byte × (List Byte → Device → Device × Answer)) :=
  [(kindList, workList), (kindDelist, workDelist), (kindTrade, workTrade), (kindTradeBlock, workTradeBlock),
   (kindQuote, workQuote), (kindSetState, workSetState), (kindFetch, workFetch), (kindAmend, workAmend),
   (kindDayRoll, workDayRoll), (kindBulletin, workBulletin), (kindRibbonSetup, workRibbonSetup),
   (kindRibbonStart, workRibbonStart), (kindRibbonStop, workRibbonStop), (kindAlign, workAlign),
   (kindSegmentSetup, workSegmentSetup), (kindLayout, workLayout), (kindBind, workBind), (kindUnbind, workUnbind),
   (kindRowClear, workRowClear), (kindRowSetup, workRowSetup), (kindExercise, workExercise),
   (kindLineSetup, workLineSetup), (kindTerminalText, workTerminalText), (kindLineTest, workLineTest),
   (kindCollect, workCollect), (kindSettle, workSettle), (kindRestart, workRestart)]

/-- A kind that names no request is refused UNKNOWN-KIND (R168). -/
def workUnknownKind (_ : List Byte) (d : Device) : Device × Answer := (d, refuse .unknownKind)

/-- The work a complete frame is handed to, by its kind. -/
def workOf (kind : Byte) : List Byte → Device → Device × Answer :=
  match requestWork.find? (fun p => p.1 == kind) with
  | some p => p.2
  | none => workUnknownKind

/-! ## Bytes written (R163, R164) -/

/-- The reply to a count byte of 0 or 255: kind 0x80, BAD-LENGTH, no data (R164). -/
def badCountReply (d : Device) : Device := readyReply 0x80 (refuse .badLength) d

/-- Whether a count byte starts no frame. -/
def badCount (b : Byte) : Bool := b == 0 || b == 255

/-- A byte taken in RECEIVING: kept with the gap timer restarted, or, when it is the last of the count, the request runs
(R164). -/
def takeFrameByte (b : Byte) (d : Device) : Device :=
  match d.channel.assembly ++ [b] with
  | count :: kind :: body =>
    if body.length + 1 = count.toNat then request kind body (workOf kind body) d
    else d.setChannel { d.channel with assembly := count :: kind :: body, gapTimer := .running Config.gapTime }
  | l => d.setChannel { d.channel with assembly := l, gapTimer := .running Config.gapTime }

/-- A byte written by the host (R163, R164). -/
def takeByte (b : Byte) (d : Device) : Device :=
  if d.resetHeld then d
  else
    match d.channel.state with
    | .idle =>
      if badCount b then badCountReply d
      else
        d.setChannel { d.channel with state := .receiving, assembly := [b], gapTimer := .running Config.gapTime }
    | .receiving => takeFrameByte b d
    | .working => d
    | .replying => d

/-! ## Bytes taken and timers (R165, R167) -/

/-- The channel IDLE with an empty reply buffer and its timer stopped (R167). -/
def closedReply (x : Channel) : Channel := { x with state := .idle, reply := Reply.empty, replyTimer := .stopped }

/-- What the last byte of a COLLECT reply does: the forward buffer a TERMINAL reply carried is emptied, and the counts a
CHANNEL reply carried are cleared (R172, R173). -/
def collectTaken (x : Reply) (d : Device) : Device :=
  match x.collected with
  | some (.terminal t) => if x.carriesText then d.modDealer t (fun y => { y with forward := [] }) else d
  | some .channel => d.setChannel (clearedCounts d.channel)
  | _ => d

/-- The last byte of the reply has been taken (R167). -/
def finishReply (d : Device) : Device := collectTaken d.channel.reply (d.setChannel (closedReply d.channel))

/-- Whether the host can read the reply: the channel is REPLYING and the reset input is not held (R163, R180). -/
def replying (d : Device) : Bool := !d.resetHeld && d.channel.state == .replying

/-- The host takes the reply to its last byte. -/
def takeReply (d : Device) : Device := if replying d then finishReply d else d

/-- The host takes one byte: the reply timer is restarted, and the last byte ends the reply (R167). -/
def takeReplyByte (d : Device) : Device :=
  if replying d then
    let x := d.channel.reply
    if x.taken + 1 < x.bytes.length then
      d.setChannel { d.channel with reply := { x with taken := x.taken + 1 }, replyTimer := .running Config.replyTime }
    else finishReply d
  else d

/-- The reply timer expires: the reply is abandoned and counted, and the flag a COLLECT took is set again (R167, R172). -/
def abandonReply (d : Device) : Device :=
  if replying d && d.channel.replyTimer.isRunning then
    let x := d.channel
    let d1 := d.setChannel
      { closedReply x with
        repliesAbandoned := min (x.repliesAbandoned + 1) Config.maxChannelCount, cause := .replyAbandoned,
        abandonedKind := x.reply.bytes[1]? }
    let d2 := match x.reply.collected with
      | some n => d1.raise n
      | none => d1
    d2.raise .channel
  else d

/-- The gap timer expires: the frame is abandoned and counted (R165). -/
def abandonFrame (d : Device) : Device :=
  if !d.resetHeld && d.channel.state == .receiving && d.channel.gapTimer.isRunning then
    let x := d.channel
    (d.setChannel
      { x with
        state := .idle, assembly := [], gapTimer := .stopped,
        framesAbandoned := min (x.framesAbandoned + 1) Config.maxChannelCount, cause := .frameAbandoned }).raise .channel
  else d

/-! ## The reset input (R180) -/

/-- Every block at its power-on values; the line-present levels are inputs and stay as they are sampled (R130, R180). -/
def powerOnAgain (d : Device) : Device :=
  forEach everyLine (fun t e => e.modTerminal t (fun x => { x with present := (d.terminal t).present })) Device.powerOn

/-! ## The commands -/

def execCollect (body : List Byte) (s : State) := onDevice (request kindCollect body (workCollect body)) s
def execSettle (body : List Byte) (s : State) := onDevice (request kindSettle body (workSettle body)) s
def execRestart (body : List Byte) (s : State) := onDevice (request kindRestart body (workRestart body)) s

/-- RESET_ASSERTED (R180). -/
def execResetAsserted (s : State) := onDevice (fun d => d.setResetHeld true) s
/-- RESET_RELEASED (R180). -/
def execResetReleased (s : State) := onDevice powerOnAgain s

/-- BAD_COUNT_FRAME: a count byte of 0 or 255 taken in IDLE (R164). -/
def execBadCountFrame (count : Byte) (s : State) :=
  onDevice (fun d =>
    if badCount count && !d.resetHeld && d.channel.state == .idle then badCountReply d else d) s

/-- UNKNOWN_KIND: a frame whose kind names a request is no event of this row (R168). -/
def execUnknownKind (kind : Byte) (body : List Byte) (s : State) :=
  onDevice (fun d => if kind ∈ requestKinds then d else request kind body (workUnknownKind body) d) s

/-- GAP_TIMER_EXPIRY (R165). -/
def execGapTimerExpiry (s : State) := onDevice abandonFrame s
/-- REPLY_TAKEN (R167). -/
def execReplyTaken (s : State) := onDevice takeReply s
/-- REPLY_TIMER_EXPIRY (R167). -/
def execReplyTimerExpiry (s : State) := onDevice abandonReply s
/-- REQUEST_BYTE_WRITTEN (R164). -/
def execRequestByteWritten (b : Byte) (s : State) := onDevice (takeByte b) s
/-- REPLY_BYTE_TAKEN (R167). -/
def execReplyByteTaken (s : State) := onDevice takeReplyByte s

end Sys2Proof.Machine
end

