-- ==== Sys2Proof/Machine/Dispatch.lean ====
section
/-! DEFINITION. One arm for each command: one direct call of its meaning. -/

namespace Sys2Proof.Machine

def exec (i : Instr) (s : State) : Host.Outcome State Fault Refusal :=
  match i with
  | .resetAsserted => Sys2Proof.Machine.execResetAsserted s
  | .resetReleased => Sys2Proof.Machine.execResetReleased s
  | .badCountFrame count => Sys2Proof.Machine.execBadCountFrame count s
  | .unknownKind kind body => Sys2Proof.Machine.execUnknownKind kind body s
  | .gapTimerExpiry => Sys2Proof.Machine.execGapTimerExpiry s
  | .replyTaken => Sys2Proof.Machine.execReplyTaken s
  | .replyTimerExpiry => Sys2Proof.Machine.execReplyTimerExpiry s
  | .list body => Sys2Proof.Machine.execList body s
  | .delist body => Sys2Proof.Machine.execDelist body s
  | .trade body => Sys2Proof.Machine.execTrade body s
  | .tradeBlock body => Sys2Proof.Machine.execTradeBlock body s
  | .quote body => Sys2Proof.Machine.execQuote body s
  | .setStateOpen body => Sys2Proof.Machine.execSetStateOpen body s
  | .setStateHalt body => Sys2Proof.Machine.execSetStateHalt body s
  | .fetch body => Sys2Proof.Machine.execFetch body s
  | .amend body => Sys2Proof.Machine.execAmend body s
  | .dayRoll body => Sys2Proof.Machine.execDayRoll body s
  | .bulletin body => Sys2Proof.Machine.execBulletin body s
  | .ribbonSetup body => Sys2Proof.Machine.execRibbonSetup body s
  | .ribbonStart body => Sys2Proof.Machine.execRibbonStart body s
  | .ribbonStopImmediate body => Sys2Proof.Machine.execRibbonStopImmediate body s
  | .ribbonStopDrain body => Sys2Proof.Machine.execRibbonStopDrain body s
  | .align body => Sys2Proof.Machine.execAlign body s
  | .segmentSetup body => Sys2Proof.Machine.execSegmentSetup body s
  | .layout body => Sys2Proof.Machine.execLayout body s
  | .bind body => Sys2Proof.Machine.execBind body s
  | .unbind body => Sys2Proof.Machine.execUnbind body s
  | .rowClear body => Sys2Proof.Machine.execRowClear body s
  | .rowSetup body => Sys2Proof.Machine.execRowSetup body s
  | .exercise body => Sys2Proof.Machine.execExercise body s
  | .lineSetup body => Sys2Proof.Machine.execLineSetup body s
  | .terminalText body => Sys2Proof.Machine.execTerminalText body s
  | .lineTest body => Sys2Proof.Machine.execLineTest body s
  | .collect body => Sys2Proof.Machine.execCollect body s
  | .settle body => Sys2Proof.Machine.execSettle body s
  | .restart body => Sys2Proof.Machine.execRestart body s
  | .pacingEvent r => Sys2Proof.Machine.execPacingEvent r s
  | .characterEvent r => Sys2Proof.Machine.execCharacterEvent r s
  | .repaintStart g => Sys2Proof.Machine.execRepaintStart g s
  | .lampChange g => Sys2Proof.Machine.execLampChange g s
  | .completionPoll g => Sys2Proof.Machine.execCompletionPoll g s
  | .readinessPoll g => Sys2Proof.Machine.execReadinessPoll g s
  | .echoRequest g => Sys2Proof.Machine.execEchoRequest g s
  | .patternFrameSend g => Sys2Proof.Machine.execPatternFrameSend g s
  | .boardFrameSent g => Sys2Proof.Machine.execBoardFrameSent g s
  | .ack g addr sum spoiled => Sys2Proof.Machine.execAck g addr sum spoiled s
  | .nak g addr sum spoiled => Sys2Proof.Machine.execNak g addr sum spoiled s
  | .status g addr state sum spoiled => Sys2Proof.Machine.execStatus g addr state sum spoiled s
  | .echo g addr sensed sum spoiled => Sys2Proof.Machine.execEcho g addr sensed sum spoiled s
  | .badAnswer g first => Sys2Proof.Machine.execBadAnswer g first s
  | .answerTimerExpiry g => Sys2Proof.Machine.execAnswerTimerExpiry g s
  | .stallTimerExpiry r => Sys2Proof.Machine.execStallTimerExpiry r s
  | .holdTimerExpiry r => Sys2Proof.Machine.execHoldTimerExpiry r s
  | .pollWaitExpiry r => Sys2Proof.Machine.execPollWaitExpiry r s
  | .goodCharacter t c => Sys2Proof.Machine.execGoodCharacter t c s
  | .breakReceived t => Sys2Proof.Machine.execBreak t s
  | .lineError t kind => Sys2Proof.Machine.execLineError t kind s
  | .linePresentRise t => Sys2Proof.Machine.execLinePresentRise t s
  | .linePresentFall t => Sys2Proof.Machine.execLinePresentFall t s
  | .terminalCharacterSent t => Sys2Proof.Machine.execTerminalCharacterSent t s
  | .waitTimerExpiry t => Sys2Proof.Machine.execWaitTimerExpiry t s
  | .dealerQuote t rest => Sys2Proof.Machine.execDealerQuote t rest s
  | .setAWatch t rest => Sys2Proof.Machine.execSetAWatch t rest s
  | .removeWatches t rest => Sys2Proof.Machine.execRemoveWatches t rest s
  | .setThePage t rest => Sys2Proof.Machine.execSetThePage t rest s
  | .forwardAText t text => Sys2Proof.Machine.execForwardAText t text s
  | .unknownCommand t line => Sys2Proof.Machine.execUnknownCommand t line s
  | .requestByteWritten b => Sys2Proof.Machine.execRequestByteWritten b s
  | .replyByteTaken => Sys2Proof.Machine.execReplyByteTaken s
  | .wireReturnsToMark t => Sys2Proof.Machine.execWireReturnsToMark t s

end Sys2Proof.Machine
end

