-- ==== Sys2Proof/WellFormed.lean ====
section
/-! DEFINITION. When a term of `Instr` names a command that can reach the part: a request's body fits a frame (section
9.2), the frame is of the kind its row names, and what a line brings has the form its rule gives. A command that is not
well-formed changes nothing (see the log). -/

namespace Sys2Proof

open Machine

/-- A body that a request frame can carry: at most 253 bytes (section 9.2). -/
def bodyFits (body : List Byte) : Bool := decide (body.length ≤ Config.maxBody)

/-- A SET-STATE frame that does not carry the other action (R18). -/
def notAction (w : StateWord) (body : List Byte) : Bool :=
  match readSetState body with
  | .ok f => f.2 != w
  | .error _ => true

/-- A RIBBON-STOP frame that does not carry the other mode (R69). -/
def notMode (m : StopMode) (body : List Byte) : Bool :=
  match readRibbonStop body with
  | .ok f => f.2 != m
  | .error _ => true

/-- A line that can be submitted: 1 to 40 printable characters (R136, R137). -/
def lineFits (line : List Byte) : Bool :=
  !line.isEmpty && decide (line.length ≤ Config.inputCapacity) && line.all printable

def Instr.wellFormed : Instr → Bool
  | .resetAsserted => true
  | .resetReleased => true
  | .badCountFrame count => count == 0 || count == 255
  | .unknownKind kind body => !requestKinds.contains kind && bodyFits body
  | .gapTimerExpiry => true
  | .replyTaken => true
  | .replyTimerExpiry => true
  | .list body => bodyFits body
  | .delist body => bodyFits body
  | .trade body => bodyFits body
  | .tradeBlock body => bodyFits body
  | .quote body => bodyFits body
  | .setStateOpen body => bodyFits body && notAction .haltWord body
  | .setStateHalt body => bodyFits body && notAction .openWord body
  | .fetch body => bodyFits body
  | .amend body => bodyFits body
  | .dayRoll body => bodyFits body
  | .bulletin body => bodyFits body
  | .ribbonSetup body => bodyFits body
  | .ribbonStart body => bodyFits body
  | .ribbonStopImmediate body => bodyFits body && notMode .drain body
  | .ribbonStopDrain body => bodyFits body && notMode .immediate body
  | .align body => bodyFits body
  | .segmentSetup body => bodyFits body
  | .layout body => bodyFits body
  | .bind body => bodyFits body
  | .unbind body => bodyFits body
  | .rowClear body => bodyFits body
  | .rowSetup body => bodyFits body
  | .exercise body => bodyFits body
  | .lineSetup body => bodyFits body
  | .terminalText body => bodyFits body
  | .lineTest body => bodyFits body
  | .collect body => bodyFits body
  | .settle body => bodyFits body
  | .restart body => bodyFits body
  | .pacingEvent _ => true
  | .characterEvent _ => true
  | .repaintStart _ => true
  | .lampChange _ => true
  | .completionPoll _ => true
  | .readinessPoll _ => true
  | .echoRequest _ => true
  | .patternFrameSend _ => true
  | .boardFrameSent _ => true
  | .ack _ _ _ _ => true
  | .nak _ _ _ _ => true
  | .status _ _ _ _ _ => true
  | .echo _ _ sensed _ _ => sensed.length == Config.rowCells
  | .badAnswer _ first => !answerKinds.contains first
  | .answerTimerExpiry _ => true
  | .stallTimerExpiry _ => true
  | .holdTimerExpiry _ => true
  | .pollWaitExpiry _ => true
  | .goodCharacter _ _ => true
  | .breakReceived _ => true
  | .lineError _ _ => true
  | .linePresentRise _ => true
  | .linePresentFall _ => true
  | .terminalCharacterSent _ => true
  | .waitTimerExpiry _ => true
  | .dealerQuote _ rest => lineFits (ch 'Q' :: blank :: rest)
  | .setAWatch _ rest => lineFits (ch 'W' :: blank :: rest)
  | .removeWatches _ rest => lineFits (ch 'X' :: blank :: rest)
  | .setThePage _ none => true
  | .setThePage _ (some rest) => lineFits (ch 'P' :: blank :: rest)
  | .forwardAText _ text => lineFits (ch '>' :: text)
  | .unknownCommand _ line => lineFits line
  | .requestByteWritten _ => true
  | .replyByteTaken => true
  | .wireReturnsToMark _ => true

/-- The kind byte and the body of a request command; none for the other commands (section 10.2). -/
def Instr.requestFrame : Instr → Option (Byte × List Byte)
  | .unknownKind kind body => some (kind, body)
  | .list body => some (kindList, body)
  | .delist body => some (kindDelist, body)
  | .trade body => some (kindTrade, body)
  | .tradeBlock body => some (kindTradeBlock, body)
  | .quote body => some (kindQuote, body)
  | .setStateOpen body => some (kindSetState, body)
  | .setStateHalt body => some (kindSetState, body)
  | .fetch body => some (kindFetch, body)
  | .amend body => some (kindAmend, body)
  | .dayRoll body => some (kindDayRoll, body)
  | .bulletin body => some (kindBulletin, body)
  | .ribbonSetup body => some (kindRibbonSetup, body)
  | .ribbonStart body => some (kindRibbonStart, body)
  | .ribbonStopImmediate body => some (kindRibbonStop, body)
  | .ribbonStopDrain body => some (kindRibbonStop, body)
  | .align body => some (kindAlign, body)
  | .segmentSetup body => some (kindSegmentSetup, body)
  | .layout body => some (kindLayout, body)
  | .bind body => some (kindBind, body)
  | .unbind body => some (kindUnbind, body)
  | .rowClear body => some (kindRowClear, body)
  | .rowSetup body => some (kindRowSetup, body)
  | .exercise body => some (kindExercise, body)
  | .lineSetup body => some (kindLineSetup, body)
  | .terminalText body => some (kindTerminalText, body)
  | .lineTest body => some (kindLineTest, body)
  | .collect body => some (kindCollect, body)
  | .settle body => some (kindSettle, body)
  | .restart body => some (kindRestart, body)
  | _ => none

/-- A command that the channel alone takes: a request, a byte or an event of the handshake. -/
def Instr.ofChannel : Instr → Bool
  | .badCountFrame _ => true
  | .gapTimerExpiry => true
  | .replyTaken => true
  | .replyTimerExpiry => true
  | .requestByteWritten _ => true
  | .replyByteTaken => true
  | i => i.requestFrame.isSome

end Sys2Proof
end

