-- ==== Sys2Proof/Safety.lean ====
section
/-! DEFINITION. The terms in which claims about the 7240 are stated: which parts of the device a command leaves alone, what
the channel holds when a reply is ready, the power-on values, and the conditions the manual says the state always meets. -/

namespace Sys2Proof.Machine

/-- So many steps one after another. -/
def steps : Nat → State → Host.Outcome State Fault Refusal
  | 0, s => .next s
  | n + 1, s =>
    match step s with
    | .next t => steps n t
    | .fault r => .fault r
    | .refused r => .refused r

/-! ## Frames -/

/-- The parts of the device; of the host channel, the reservation and the settle record stand apart from the link. -/
inductive Part where
  | resetHeld | link | reservation | settle | notices | slots | directory | tape | ribbons | segments | lines | layouts
  | rows | terminals | dealers | watches
deriving DecidableEq, Repr

/-- The channel without its two records. -/
def Channel.link (x : Channel) : Channel := { x with reservation := none, settle := Settle.powerOn }

/-- Two devices agree in a part. -/
def Device.agree (a b : Device) : Part → Prop
  | .resetHeld => b.resetHeld = a.resetHeld
  | .link => b.channel.link = a.channel.link
  | .reservation => b.channel.reservation = a.channel.reservation
  | .settle => b.channel.settle = a.channel.settle
  | .notices => b.notices = a.notices
  | .slots => b.slots = a.slots
  | .directory => b.directory = a.directory
  | .tape => b.tape = a.tape
  | .ribbons => b.ribbons = a.ribbons
  | .segments => b.segments = a.segments
  | .lines => b.lines = a.lines
  | .layouts => b.layouts = a.layouts
  | .rows => b.rows = a.rows
  | .terminals => b.terminals = a.terminals
  | .dealers => b.dealers = a.dealers
  | .watches => b.watches = a.watches

/-- From `a` to `b` nothing has changed but, perhaps, the parts listed. -/
def ChangesOnly (l : List Part) (a b : Device) : Prop := ∀ p, p ∉ l → a.agree b p

/-- A row after a mark (the table of R94). A CLEAN row has a unit (R91), and so a queue to join. -/
def markedRow (x : Row) : Row :=
  match x.display with
  | .clean => { x with display := if x.rowUnit = none then .clean else .queued, lampOffOwed := false }
  | .sending => { x with again := true }
  | .moving => { x with again := true }
  | .queued => x
  | .down => x
  | .faulted => x

/-- Of the rows that are marked, each once, those that join the repaint queue of segment g: the CLEAN rows on it (R94, R95). -/
def joining (d : Device) (g : SegNo) (marked : List RowNo) : List RowNo :=
  marked.filter (fun r => (d.row r).display == .clean && (d.row r).rowUnit.any (fun u => u.segment == g))

/-- A terminal line that items have entered: only its queue, its transmitter and its two slots may differ (R138, R139). -/
def WrittenOnly (x y : Terminal) : Prop :=
  y = { x with queue := y.queue, transmitter := y.transmitter, reply := y.reply, hostText := y.hostText }

/-! ## Replies (R166, R167) -/

/-- The channel with a ready reply: the count, the kind with its top bit set, the status and the data. -/
def replied (kind status : Byte) (data : List Byte) (x : Channel) : Channel :=
  { x with
    state := .replying, assembly := [], gapTimer := .stopped,
    reply := ⟨byte (2 + data.length) :: (kind ||| 0x80) :: status :: data, 0, none, false⟩,
    replyTimer := .running 1000 }

/-- The same for the reply to a COLLECT, which keeps the notice it took (R172). -/
def repliedCollect (data : List Byte) (n : Notice) (text : Bool) (x : Channel) : Channel :=
  { replied 0x40 0x00 data x with
    reply := ⟨byte (2 + data.length) :: 0xC0 :: 0x00 :: data, 0, some n, text⟩ }

/-- The reservation after an advance of a slot's revision (R7, R9). -/
def reservationAfter (i : Slot) (r : Option Slot) : Option Slot := if r = some i then none else r

/-! ## The common checks (R168, section 10.2) -/

/-- The body lengths the table of section 10.2 allows. -/
def lengthAllowed (kind : Byte) (n : Nat) : Bool :=
  if kind = 0x01 then n == 15
  else if kind = 0x02 then n == 2
  else if kind = 0x03 then n == 10
  else if kind = 0x04 then n % 10 == 0 && 10 ≤ n && n ≤ 160
  else if kind = 0x05 then n == 10
  else if kind = 0x06 then n == 3
  else if kind = 0x07 then n == 3 || n == 8
  else if kind = 0x08 then n == 23
  else if kind = 0x09 then n == 0
  else if kind = 0x10 then 2 ≤ n && n ≤ 61
  else if kind = 0x11 then n == 9
  else if kind = 0x12 then n == 1
  else if kind = 0x13 then n == 2
  else if kind = 0x14 then n == 1
  else if kind = 0x20 then n == 7
  else if kind = 0x21 then n % 3 == 1 && 4 ≤ n && n ≤ 25
  else if kind = 0x22 then n == 4
  else if kind = 0x23 then n == 1
  else if kind = 0x24 then n == 1
  else if kind = 0x25 then n == 3
  else if kind = 0x26 then n == 3
  else if kind = 0x30 then n == 6
  else if kind = 0x31 then 2 ≤ n && n ≤ 61
  else if kind = 0x32 then 2 ≤ n && n ≤ 61
  else n == 0

/-- The refusal of a reader. -/
def refusalOf {α : Type} : Except Status α → Option Status
  | .ok _ => none
  | .error s => some s

/-- The common check that a frame of a known kind fails; none when it passes. -/
def commonRefusal (kind : Byte) (body : List Byte) : Option Status :=
  if kind = 0x01 then refusalOf (readList body)
  else if kind = 0x02 then refusalOf (readSlot body)
  else if kind = 0x03 then refusalOf (readTrade body)
  else if kind = 0x04 then refusalOf (readTradeBlock body)
  else if kind = 0x05 then refusalOf (readQuote body)
  else if kind = 0x06 then refusalOf (readSetState body)
  else if kind = 0x07 then refusalOf (readFetch body)
  else if kind = 0x08 then refusalOf (readAmend body)
  else if kind = 0x10 then refusalOf (readBulletin body)
  else if kind = 0x11 then refusalOf (readRibbonSetup body)
  else if kind = 0x12 then refusalOf (readRibbon body)
  else if kind = 0x13 then refusalOf (readRibbonStop body)
  else if kind = 0x14 then refusalOf (readAlign body)
  else if kind = 0x20 then refusalOf (readSegmentSetup body)
  else if kind = 0x21 then refusalOf (readLayout body)
  else if kind = 0x22 then refusalOf (readBind body)
  else if kind = 0x23 then refusalOf (readRow body)
  else if kind = 0x24 then refusalOf (readRow body)
  else if kind = 0x25 then refusalOf (readRowSetup body)
  else if kind = 0x26 then refusalOf (readExercise body)
  else if kind = 0x30 then refusalOf (readLineSetup body)
  else if kind = 0x31 then refusalOf (readTerminalText body)
  else if kind = 0x32 then refusalOf (readLineTest body)
  else refusalOf (readNothing body)

/-! ## The tape (R20, R55, R57, R80) -/

/-- Whether the departures that leave `kept` of the tape's entries release slot i: it is DELISTING, an entry named it, and
no kept entry names it (R20, R57). -/
def releasedSlot (d : Device) (kept : List Entry) (i : Slot) : Bool :=
  let names (l : List Entry) : Bool := l.any (fun y => y.body.slot? == some i)
  (d.slot i).state == .delisting && names d.tape.entries && !names kept

/-- A last-shown slot after those departures: none when it names a released slot (R80). -/
def shownAfter (d : Device) (kept : List Entry) (l : Option Slot) : Option Slot :=
  if l.any (releasedSlot d kept) then none else l

/-- From `d` to `d'` ribbon r has left pending sets and the tape has come down to `kept`: the released slots are FREE with
the FREE values, no other record changes, and of another ribbon only a last-shown slot that was released is forgotten. The
settle record stands as in `told`, which carries the ribbon's reports; the notices pending are those of `told`, those
`raised`, and TAPE when the last GAP has left. -/
def EntriesLeave (d d' told : Device) (r : RibbonNo) (kept : List Entry) (raised : List Notice) : Prop :=
  d'.tape = { d.tape with entries := kept } ∧
  (∀ i, d'.slot i =
    if releasedSlot d kept i = true then
      ⟨.free, [], 1, 0, 0, none, none, none, none, none, 0, 0, .none, 0, []⟩
    else d.slot i) ∧
  (∀ q, q ≠ r → d'.ribbon q = { d.ribbon q with lastShown := shownAfter d kept (d.ribbon q).lastShown }) ∧
  d'.channel.settle = told.channel.settle ∧
  ∀ n, n ∈ d'.notices ↔ n ∈ told.notices ∨ n ∈ raised ∨
    (n = .tape ∧ d.tape.entries.any (fun y => y.body.isGap) = true ∧ kept.any (fun y => y.body.isGap) = false)

/-! ## The board lines (R112 to R118, R124) -/

/-- The line between exchanges: no frame in hand, the answer timer stopped, the retry count 0. -/
def closedLine (l : BoardLine) : BoardLine := { l with frame := none, retry := 0, answerTimer := .stopped }

/-- The line with a new frame in hand. -/
def handed (f : Frame) (l : BoardLine) : BoardLine := { l with frame := some f, retry := 0, answerTimer := .stopped }

/-- The line on which a command answers the frame in hand, or ends the wait without an answer (R113, R114, R182). -/
def answersOn : Instr → Option SegNo
  | .ack g _ _ _ => some g
  | .nak g _ _ _ => some g
  | .status g _ _ _ _ => some g
  | .echo g _ sensed _ _ => if sensed.length = 32 then some g else none
  | .badAnswer g first => if answerKinds.contains first then none else some g
  | .answerTimerExpiry g => some g
  | _ => none

/-- Whether a command is the good answer to a frame: its sum is right, no byte is spoiled, it carries the address of the
frame, and it is of the kind the frame asks for (R113, R182). -/
def goodAnswer (c : Instr) (f : Frame) : Bool :=
  match c, f.body with
  | .ack _ addr sum spoiled, .image _ => !spoiled && 0x06 + addr == sum && addr == byte f.address.val
  | .ack _ addr sum spoiled, .lamps _ => !spoiled && 0x06 + addr == sum && addr == byte f.address.val
  | .status _ addr state sum spoiled, .poll =>
    !spoiled && 0x53 + addr + state == sum && addr == byte f.address.val
  | .echo _ addr sensed sum spoiled, .echoRequest =>
    !spoiled && frameSum (0x65 :: addr :: sensed) == sum && addr == byte f.address.val
  | _, _ => false

/-- The rows of a segment that a use of its line waits for: the start condition of R96, lamp-off owed on a CLEAN row (R103),
a due row that turns (R117), a row that may be given a readiness poll (R118), a row at ECHOING, and the first WAITING row
of an exercise with room under the motion limit (R124). -/
def UseWaits (d : Device) (g : SegNo) (u : LineUse) (r : RowNo) : Prop :=
  let s := d.segment g
  let x := d.row r
  match u with
  | .repaint => s.queue.head? = some r ∧ countDisplay d g .moving < s.motionLimit
  | .lampChange => x.onSegment g = true ∧ x.display = .clean ∧ x.lampOffOwed = true
  | .completionPoll => x.onSegment g = true ∧ x.pollWait = .due ∧
    (x.display = .moving ∨ exerciseStep d r = some .turning)
  | .readinessPoll => x.onSegment g = true ∧ (x.display = .clean ∨ x.display = .queued ∨ x.display = .down) ∧
    (exerciseStep d r = none ∨ exerciseStep d r = some .waiting ∨ exerciseStep d r = some .passed)
  | .echoRequest => ∃ y ∈ s.exerciseList, y.row = r ∧ y.step = .echoing
  | .pattern => (s.exerciseList.filter (fun y => y.step == .waiting)).head?.map (·.row) = some r ∧
    (x.display = .clean ∨ x.display = .queued) ∧ countDisplay d g .moving + turningCount d g < s.motionLimit

/-- Whether a row stands before another in the order in which a use serves them: the lower row number, the motion order
after the completion cursor, the address above the poll cursor (R116, R118, R124). -/
def Before (d : Device) (g : SegNo) (u : LineUse) (q r : RowNo) : Prop :=
  let age (x : RowNo) : Nat := match (d.row x).motionOrder with
    | some o => ((d.segment g).motionCounter - o).toNat
    | none => 0
  let past (x : RowNo) : Bool := match (d.line g).completionCursor with
    | some c => decide (age x < ((d.segment g).motionCounter - c).toNat)
    | none => true
  let address (x : RowNo) : Nat := match (d.row x).rowUnit with
    | some v => v.address.val
    | none => 0
  let above (x : RowNo) : Bool := match (d.line g).pollCursor with
    | some c => decide (c.val < address x)
    | none => true
  match u with
  | .lampChange => q < r
  | .echoRequest => q < r
  | .completionPoll => (past q = true ∧ past r = false) ∨ (past q = past r ∧ age r < age q)
  | .readinessPoll => (above q = true ∧ above r = false) ∨ (above q = above r ∧ address q < address r)
  | .repaint => False
  | .pattern => False

/-- The order of a free line's uses (R116 in ACTIVE, R124 in EXERCISE). -/
def useOrder : SegmentState → List LineUse
  | .active => [.repaint, .lampChange, .completionPoll, .readinessPoll]
  | .exercise => [.echoRequest, .pattern, .completionPoll, .readinessPoll]
  | .disabled => []

/-! ## The exercise (R125, R126) -/

/-- Every listed row is PASSED or FAILED. -/
def exerciseOver (list : List ExerciseRow) : Bool := list.all (fun z => z.step == .passed || z.step == .failed)

/-- A listed row that is not PASSED is FAILED (R125). -/
def failedIn (r : RowNo) (list : List ExerciseRow) : List ExerciseRow :=
  list.map (fun z => if z.row = r ∧ z.step ≠ .passed then { z with step := .failed } else z)

/-- The rows of a list that are PASSED. -/
def passedOf (list : List ExerciseRow) : List RowNo := (list.filter (fun z => z.step == .passed)).map (·.row)

/-- The exercise of segment g goes on or ends (R126): `list` is its list after the command, and `d` what it finds with the
segment's queue and rows as the command leaves them. While a row is neither PASSED nor FAILED the list stands; else the
result is held, the PASSED rows that are CLEAN join the queue in ascending row number, lamp-off owed of the PASSED rows is
cleared, the list is emptied, the segment is ACTIVE, its line has no poll cursor (R118), and its notice is pending. No other
segment and no other line changes. -/
def ExerciseGoesOn (d d' : Device) (g : SegNo) (list : List ExerciseRow) : Prop :=
  let passed := passedOf list
  let clean (r : RowNo) : Bool := (d.row r).display == .clean
  (∀ h, h ≠ g → d'.segment h = d.segment h ∧ d'.line h = d.line h) ∧
  (exerciseOver list = false →
    d'.segment g = { d.segment g with exerciseList := list } ∧ d'.line g = d.line g ∧ ∀ r, d'.row r = d.row r) ∧
  (exerciseOver list = true →
    d'.segment g = { d.segment g with
      state := .active, exerciseList := [], queue := (d.segment g).queue ++ passed.filter clean,
      result := ⟨list.length, passed.length, list.length - passed.length⟩ } ∧
    d'.line g = { d.line g with pollCursor := none } ∧
    (∀ r, d'.row r =
      if r ∈ passed then
        { d.row r with lampOffOwed := false, display := if clean r = true then .queued else (d.row r).display }
      else d.row r) ∧
    Notice.segment g ∈ d'.notices)

/-- A row that has entered DOWN or FAULTED (R93): its repaint has ended, its timers are stopped, its marks cleared, and its
image is unknown. -/
def darkened (x : Row) (s : Display) (c : Cause) (cell : Nat) : Row :=
  { x with
    display := s, cause := c, faultCell := cell, holdTimer := .stopped, stallTimer := .stopped, again := false,
    newFresh := false, lampOffOwed := false, sent := none, shown := none, shownSlot := none, owed := 0,
    motionOrder := none, pollWait := .stopped }

/-- From `d` to `d'` the row r of segment g, which is in EXERCISE, has become the dark row x': it has left the queue, it is
FAILED if the exercise lists it and it is not PASSED, the exercise goes on or ends, an owed count is reported not shown, and
the ROW notice is pending (R93, R125, R126). -/
def FailsInExercise (d d' : Device) (g : SegNo) (r : RowNo) (x' : Row) : Prop :=
  ExerciseGoesOn
    ((d.setRow r x').setSegment g { d.segment g with queue := (d.segment g).queue.filter (fun q => q ≠ r) }) d' g
    (failedIn r (d.segment g).exerciseList) ∧
  Notice.row r ∈ d'.notices ∧
  d'.channel.settle = (if 0 < (d.row r).owed then d.reportNotShown else d).channel.settle

/-! ## Terminal lines and dealers -/

/-- The line out of service: what R132 and R133 empty. -/
def emptied (x : Terminal) : Terminal :=
  { x with
    queue := [], receiver := .idle, input := [], errored := false, reply := none, hostText := none, test := none }

/-- A line on which no item enters now: it is not ACTIVE, or its transmitter is busy and its queue has less room than the
shortest item needs (R138, R139). -/
def Terminal.takesNoItem (x : Terminal) : Prop := x.state ≠ .active ∨ (x.transmitter ≠ none ∧ 508 ≤ x.queue.length)

/-- How a condition is written (R149, R158): ">=", "<=", "=" and "*". -/
def conditionSign : Condition → Text
  | .above => [0x3E, 0x3D]
  | .below => [0x3C, 0x3D]
  | .equal => [0x3D]
  | .any => [0x2A]

/-- An alert of the ended kind (R157). -/
def Alert.isEnded : Alert → Bool
  | .ended _ => true
  | .watch _ _ => false

/-- The alerts of a terminal after a DELIST of slot i (R159): those of its watches on the slot are gone, and the ended alert
of the symbol, where there is one, comes last; the ninth ended alert pushes the oldest out (R157). -/
def alertsAfterDelist (i : Slot) (ended : Option Text) (alerts : List Alert) : List Alert :=
  let left := alerts.filter (fun a => match a with
    | .watch j _ => decide (j ≠ i)
    | .ended _ => true)
  match ended with
  | none => left
  | some symbol =>
    (if 8 ≤ (left.filter Alert.isEnded).length then left.eraseP Alert.isEnded else left) ++ [.ended symbol]

/-- The return positioning: DLE, line 24, one column past the input line (R138, R183). -/
def returnTo (x : Terminal) : Text := [0x10, 0x58, byte (x.input.length + 1 + 0x40)]

/-! ## Power-on values (R1, R64, R86, R88, R91, R112, R130, R131, R145, R162, R175) -/

/-- Every part at its power-on value; the line-present levels are inputs and are left open. -/
def PowerOn (d : Device) : Prop :=
  d.resetHeld = false ∧ d.notices = [] ∧ d.directory = [] ∧ d.tape.entries = [] ∧ d.watches = [] ∧
  (d.channel.state = .idle ∧ d.channel.assembly = [] ∧ d.channel.gapTimer = .stopped ∧ d.channel.reply.bytes = [] ∧
    d.channel.replyTimer = .stopped ∧ d.channel.reservation = none ∧
    d.channel.settle = ⟨false, 0, 0, 0, 0, 0, [], 0, 0, ⟨0, 0, 0, 0, 0, 0⟩⟩ ∧
    d.channel.framesAbandoned = 0 ∧ d.channel.repliesAbandoned = 0 ∧ d.channel.cause = .none ∧
    d.channel.abandonedKind = none) ∧
  (∀ i, d.slot i = ⟨.free, [], 1, 0, 0, none, none, none, none, none, 0, 0, .none, 0, []⟩) ∧
  (∀ r, d.ribbon r = ⟨.stopped, 0xFFFF, 0, 1500, 2500, 0, .normal, 0, none, .idle, [], 0, false, none, none⟩) ∧
  (∀ g, (d.segment g).state = .disabled ∧ (d.segment g).stepPeriod = 30 ∧ (d.segment g).settleTime = 120 ∧
    (d.segment g).motionLimit = 4 ∧ (d.segment g).hold = 10 ∧ (d.segment g).motionCounter = 0 ∧
    (d.segment g).queue = [] ∧ (d.segment g).exerciseList = [] ∧ (d.segment g).result = ⟨0, 0, 0⟩) ∧
  (∀ g, d.line g = ⟨none, 0, .stopped, none, none⟩ ∧ d.lineState g = .off) ∧
  (∀ l, d.layout l = []) ∧
  (∀ r, (d.row r).rowUnit = none ∧ (d.row r).binding = none ∧ (d.row r).layout = 0 ∧ (d.row r).display = .down ∧
    (d.row r).cause = .segmentOff ∧ (d.row r).faultCell = 0 ∧ (d.row r).shown = none ∧ (d.row r).shownSlot = none ∧
    (d.row r).sent = none ∧ (d.row r).newFresh = false ∧ (d.row r).again = false ∧ (d.row r).lampOffOwed = false ∧
    (d.row r).owed = 0 ∧ (d.row r).holdTimer = .stopped ∧ (d.row r).stallTimer = .stopped ∧
    (d.row r).motionOrder = none ∧ (d.row r).missed = 0 ∧ (d.row r).pollWait = .stopped) ∧
  (∀ t, d.terminal t =
    ⟨.disabled, .b1200, .even7, (d.terminal t).present, .idle, [], false, none, none, [], none, none, .none⟩ ∧
    (d.terminal t).serviceOutput = false) ∧
  (∀ t, d.dealer t = ⟨[], [], [], [], false, 12, none⟩)

/-! ## Conditions the state always meets -/

/-- The condition of R2 on one record, with the ceiling of the trade count. -/
def RecordSound (x : Record) : Prop :=
  ((x.last = none ∧ x.high = none ∧ x.low = none) ∨
    ∃ p h l, x.last = some p ∧ x.high = some h ∧ x.low = some l ∧ l ≤ p ∧ p ≤ h) ∧
  x.volume ≤ 999999999 ∧ x.tradeCount ≤ 65535

def RecordsSound (d : Device) : Prop := ∀ i, RecordSound (d.slot i)

/-- R5: the directory sorted by symbol, no symbol twice, and exactly the symbols of the listed slots. -/
def DirectorySound (d : Device) : Prop :=
  d.directory.Pairwise (fun a b => symbolLt a.1 b.1 = true) ∧
  ∀ s i, (s, i) ∈ d.directory ↔ (isListed (d.slot i).state = true ∧ (d.slot i).symbol = s)

/-- R26: at most 4 bound rows, none twice, and a row stands in the list of exactly the slot it is bound to. -/
def BindingsSound (d : Device) : Prop :=
  ∀ i, (d.slot i).boundRows.length ≤ 4 ∧ (d.slot i).boundRows.Nodup ∧
    ∀ r, r ∈ (d.slot i).boundRows ↔ (d.row r).binding = some i

/-- R20, R80 and R154: no tape entry and no last-shown slot names a FREE slot, and the slot of a row binding, of a watch and
of a page line is listed. -/
def ReferencesSound (d : Device) : Prop :=
  (∀ x ∈ d.tape.entries, ∀ i, x.body.slot? = some i → (d.slot i).state ≠ .free) ∧
  (∀ r i, (d.ribbon r).lastShown = some i → (d.slot i).state ≠ .free) ∧
  (∀ r i, (d.row r).binding = some i → isListed (d.slot i).state = true) ∧
  (∀ w ∈ d.watches, isListed (d.slot w.slot).state = true) ∧
  ∀ l p i, (d.dealer l).entry p = some i → isListed (d.slot i).state = true

/-- R8: the reservation names a slot in LISTED, TRADING or HALTED. -/
def ReservationSound (d : Device) : Prop := ∀ i, d.channel.reservation = some i → isListed (d.slot i).state = true

/-- R53, R54 and R56: at most 512 entries, at most 511 of them no GAP, 512 only with a GAP at the tail, GAP counts from 1 to
65,535, and every pending set not empty and of RUNNING or DRAINING ribbons. R49 and R58: each entry is an item of its own,
so the numbers that tell entries apart rise from head to tail and the next one is above them all. -/
def TapeSound (d : Device) : Prop :=
  d.tape.entries.length ≤ 512 ∧ (d.tape.entries.filter (fun x => !x.body.isGap)).length ≤ 511 ∧
  (d.tape.entries.length = 512 → tailIsGap d.tape.entries = true) ∧
  (∀ x ∈ d.tape.entries, ∀ n, x.body = .gap n → 1 ≤ n ∧ n ≤ 65535) ∧
  (∀ x ∈ d.tape.entries, x.pending ≠ [] ∧
    ∀ r ∈ x.pending, (d.ribbon r).state = .running ∨ (d.ribbon r).state = .draining) ∧
  (d.tape.entries.map (·.id)).Pairwise (· < ·) ∧ ∀ x ∈ d.tape.entries, x.id < d.tape.nextId

/-- R154, R155 and R157: at most 128 watches, at most 8 on one terminal, no two of one terminal with the same slot and
condition, a threshold exactly where the condition takes one, and a watch of condition ANY always ARMED; every watch alert
that waits belongs to a watch its terminal holds, none waits twice, and at most 8 ended alerts wait. -/
def WatchesSound (d : Device) : Prop :=
  d.watches.length ≤ 128 ∧ (∀ t, (watchesOf d t).length ≤ 8) ∧
  (d.watches.map (fun w => (w.terminal, w.slot, w.cond))).Nodup ∧
  (∀ w ∈ d.watches, w.threshold = none ↔ w.cond = .any) ∧ (∀ w ∈ d.watches, w.cond = .any → w.state = .armed) ∧
  ∀ t, ((d.dealer t).alerts.filter (fun a => !a.isEnded)).Nodup ∧
    ((d.dealer t).alerts.filter Alert.isEnded).length ≤ 8 ∧
    ∀ i c, Alert.watch i c ∈ (d.dealer t).alerts → (findWatch d t i c).isSome = true

/-- R130: an output queue of at most 512 characters and an input line of at most 40. -/
def ScreensSound (d : Device) : Prop := ∀ t, (d.terminal t).queue.length ≤ 512 ∧ (d.terminal t).input.length ≤ 40

/-- R86, R91, R95: rows without a unit or in a DISABLED segment are DOWN, cause SEGMENT-OFF, and the repaint queue of a
segment holds each of its QUEUED rows once and no other row. -/
def QueuesSound (d : Device) : Prop :=
  (∀ r, ((d.row r).rowUnit = none ∨ unitSegmentIs d (d.row r).rowUnit .disabled = true) →
    (d.row r).display = .down ∧ (d.row r).cause = .segmentOff) ∧
  ∀ g, (d.segment g).queue.Nodup ∧
    ∀ r, r ∈ (d.segment g).queue ↔ ((d.row r).display = .queued ∧ (d.row r).onSegment g = true)

/-- What a frame in hand says of its row (R92, R103, R112, R115, R124): an IMAGE goes to a SENDING row or to a row at
PATTERN-SENT, a LAMPS frame to a row that stays in service, an ECHO-REQUEST to a row at ECHOING, and only a poll's row may
have moved to another unit since. -/
def FrameSound (d : Device) (g : SegNo) (f : Frame) : Prop :=
  let x := d.row f.row
  let here : Prop := x.rowUnit = some ⟨g, f.address⟩
  let step := exerciseStep d f.row
  match f.use, f.body with
  | .repaint, .image i => here ∧ x.display = .sending ∧ x.sent.map (·.image) = some i
  | .pattern, .image _ => here ∧ step = some .patternSent
  | .lampChange, .lamps _ => here ∧ (x.display = .clean ∨ x.display = .queued) ∧ (step = none ∨ step = some .waiting)
  | .echoRequest, .echoRequest => here ∧ step = some .echoing
  | .completionPoll, .poll => True
  | .readinessPoll, .poll => True
  | _, _ => False

/-- The exercise lists and the frames in hand (R89, R112, R122, R124): a DISABLED segment has neither, a list stands only in
EXERCISE with its rows rising and on the segment, a row between PATTERN-SENT and ECHOING is CLEAN or QUEUED, and the frame
of every SENDING row and of every row at PATTERN-SENT is in hand. -/
def LinesSound (d : Device) : Prop :=
  ∀ g,
    let l := (d.segment g).exerciseList
    ((d.segment g).state = .disabled → (d.line g).frame = none) ∧
    (l ≠ [] → (d.segment g).state = .exercise) ∧
    (l.map (·.row)).Pairwise (· < ·) ∧
    (∀ x ∈ l, (d.row x.row).onSegment g = true ∧
      (x.step = .patternSent ∨ x.step = .turning ∨ x.step = .echoing →
        (d.row x.row).display = .clean ∨ (d.row x.row).display = .queued)) ∧
    (∀ f, (d.line g).frame = some f → FrameSound d g f) ∧
    (∀ r, (d.row r).onSegment g = true → (d.row r).display = .sending →
      ∃ f, (d.line g).frame = some f ∧ f.use = .repaint ∧ f.row = r) ∧
    (∀ x ∈ l, x.step = .patternSent → ∃ f, (d.line g).frame = some f ∧ f.use = .pattern ∧ f.row = x.row)

/-- R96, R109 and R124: the rows of a segment in MOVING, SENDING, PATTERN-SENT and TURNING are together never more than its
motion limit. -/
def MotionSound (d : Device) : Prop := ∀ g, motionLoad d g ≤ (d.segment g).motionLimit

/-- R170: the flags stand in the order of R171, so that none is listed twice. -/
def NoticesSound (d : Device) : Prop := d.notices.Pairwise (fun a b => noticeRank a < noticeRank b)

/-- Every table in its canonical form, the page and the marks of every dealer's terminal among them. -/
def TablesSound (d : Device) : Prop :=
  tableWf Record.free d.slots = true ∧ tableWf Ribbon.powerOn d.ribbons = true ∧
  tableWf Segment.powerOn d.segments = true ∧ tableWf BoardLine.powerOn d.lines = true ∧
  tableWf [] d.layouts = true ∧ tableWf Row.powerOn d.rows = true ∧ tableWf Terminal.powerOn d.terminals = true ∧
  tableWf Dealer.powerOn d.dealers = true ∧
  ∀ t, tableWf none (d.dealer t).page = true ∧ tableWf false (d.dealer t).marks = true

end Sys2Proof.Machine
end

