-- ==== Sys2Proof/Certificates/Slice0/Obligations.lean ====
section
/-! DEFINITION. The statements for the provers: what the numbered rules say that a command or the part does, in terms of
`Sys2Proof.Machine.exec` and `Sys2Proof.Machine.step`. -/

open Sys2Proof Sys2Proof.Machine

/-! ## The queue of commands -/

/-- A step takes the command at the front of the queue and runs it on the state with the rest; with no command waiting the
part idles (the model's choice, log 3). -/
def Obligations.StepRunsTheFrontCommand : Prop :=
  ∀ (c : Instr) (d : Device) (rest : List Instr),
    step ⟨d, c :: rest⟩ = exec c ⟨d, rest⟩ ∧ step ⟨d, []⟩ = .next ⟨d, []⟩

/-! ## Reset and power-on -/

/-- RESET_ASSERTED (R180): BUSY high, ATTENTION low, and no command of the channel changes anything while it is held.
RESET_RELEASED (R180): every block takes its power-on values, whatever state the part was in; the line-present levels are
inputs. The state after reset is such a state, with every line-present level false (log 2). That the two timers of the
channel do nothing while reset is held is the model's choice (log 7). -/
def Obligations.ResetHoldsAndReleasesThePart : Prop :=
  (∀ s : State, exec .resetAsserted s = .next { s with device := { s.device with resetHeld := true } }) ∧
  (∀ d : Device, d.resetHeld = true → d.busy = true ∧ d.attention = false) ∧
  (∀ (c : Instr) (s : State), s.device.resetHeld = true → c.ofChannel = true → exec c s = .next s) ∧
  (∀ s : State, ∃ t, exec .resetReleased s = .next t ∧ t.pending = s.pending ∧ PowerOn t.device ∧
    ∀ l, (t.device.terminal l).present = (s.device.terminal l).present) ∧
  PowerOn State.reset.device ∧ State.reset.pending = [] ∧ ∀ l, (State.reset.device.terminal l).present = false

/-! ## The handshake of the channel -/

/-- REQUEST_BYTE_WRITTEN and BAD_COUNT_FRAME (R163, R164): a count byte begins a frame, or is answered BAD-LENGTH when it is
0 or 255; a byte inside a frame is kept; the last byte runs the request; in REPLYING no byte is taken. -/
def Obligations.WrittenBytesBuildTheRequest : Prop :=
  ∀ (s : State) (b : Byte), s.device.resetHeld = false →
    let d := s.device
    let x := d.channel
    (x.state = .idle → b ≠ 0 → b ≠ 255 →
      exec (.requestByteWritten b) s = .next { s with device := { d with
        channel := { x with state := .receiving, assembly := [b], gapTimer := .running 100 } } }) ∧
    (x.state = .idle → b = 0 ∨ b = 255 →
      exec (.requestByteWritten b) s = .next { s with device := { d with channel := replied 0x80 0x02 [] x } } ∧
      exec (.badCountFrame b) s = .next { s with device := { d with channel := replied 0x80 0x02 [] x } }) ∧
    (x.state = .receiving → ∀ count got, x.assembly = count :: got → got.length + 1 < count.toNat →
      exec (.requestByteWritten b) s = .next { s with device := { d with
        channel := { x with assembly := count :: (got ++ [b]), gapTimer := .running 100 } } }) ∧
    (x.state = .receiving → ∀ kind body, body.length ≤ 253 →
      x.assembly ++ [b] = byte (body.length + 1) :: kind :: body →
      exec (.requestByteWritten b) s = exec (requestCommand kind body) s) ∧
    (x.state = .replying → exec (.requestByteWritten b) s = .next s)

/-- Writing a whole frame byte by byte from IDLE, one step for each byte, comes to what the command for the frame does at
once (R164, R166). That one command stands for the writing of a whole frame is the model's choice (log 5). -/
def Obligations.FrameByBytesIsTheCommand : Prop :=
  ∀ (s : State) (kind : Byte) (body : List Byte) (rest : List Instr),
    s.device.resetHeld = false → s.device.channel.state = .idle → body.length ≤ 253 →
    s.pending = (byte (body.length + 1) :: kind :: body).map .requestByteWritten ++ rest →
    steps (body.length + 2) s = exec (requestCommand kind body) { s with pending := rest }

/-- GAP_TIMER_EXPIRY (R165) and REPLY_TIMER_EXPIRY (R167, R172): the frame or the reply is abandoned and counted, and the
CHANNEL notice becomes pending; the flag that the abandoned reply's COLLECT took is set again, and nothing else changes: a
forwarded text stays in its buffer, and the counts keep their values but for the one that advances. A timer that does not
run cannot expire: then nothing happens (log 4). -/
def Obligations.ChannelTimersAbandonAndCount : Prop :=
  ∀ s : State, s.device.resetHeld = false →
    let x := s.device.channel
    (x.state = .receiving → ∀ left, x.gapTimer = .running left →
      exec .gapTimerExpiry s = .next { s with device := Device.raise { s.device with
        channel := { x with
          state := .idle, assembly := [], gapTimer := .stopped,
          framesAbandoned := min (x.framesAbandoned + 1) 255, cause := .frameAbandoned } } .channel }) ∧
    (x.state ≠ .receiving ∨ x.gapTimer = .stopped → exec .gapTimerExpiry s = .next s) ∧
    (x.state = .replying → ∀ left, x.replyTimer = .running left →
      ∃ t, exec .replyTimerExpiry s = .next t ∧ t.pending = s.pending ∧
        ChangesOnly [.link, .notices] s.device t.device ∧
        t.device.channel = { x with
          state := .idle, reply := ⟨[], 0, none, false⟩, replyTimer := .stopped,
          repliesAbandoned := min (x.repliesAbandoned + 1) 255, cause := .replyAbandoned,
          abandonedKind := x.reply.bytes[1]? } ∧
        ∀ n, n ∈ t.device.notices ↔ n ∈ s.device.notices ∨ n = .channel ∨ x.reply.collected = some n) ∧
    (x.state ≠ .replying ∨ x.replyTimer = .stopped → exec .replyTimerExpiry s = .next s)

/-- REPLY_TAKEN and REPLY_BYTE_TAKEN (R167, R172, R173): the last byte empties the buffer, frees the channel, empties the
forward buffer whose text the reply carried, and clears the counts a CHANNEL reply carried; a byte before the last is
counted and restarts the reply timer. REPLY_TAKEN stands for all the bytes that are left (log 5). -/
def Obligations.TakenReplyFreesTheChannel : Prop :=
  ∀ s : State, s.device.resetHeld = false → s.device.channel.state = .replying →
    let d := s.device
    let x := d.channel
    let closed : Channel := { x with state := .idle, reply := ⟨[], 0, none, false⟩, replyTimer := .stopped }
    (∃ t, exec .replyTaken s = .next t ∧ t.pending = s.pending ∧ ChangesOnly [.link, .dealers] d t.device ∧
      t.device.channel =
        (if x.reply.collected = some .channel then
          { closed with framesAbandoned := 0, repliesAbandoned := 0, cause := .none, abandonedKind := none }
        else closed) ∧
      ∀ l, t.device.dealer l =
        if x.reply.collected = some (.terminal l) ∧ x.reply.carriesText = true then
          { d.dealer l with forward := [] }
        else d.dealer l) ∧
    (x.reply.taken + 1 < x.reply.bytes.length →
      exec .replyByteTaken s = .next { s with device := { d with
        channel := { x with reply := { x.reply with taken := x.reply.taken + 1 }, replyTimer := .running 1000 } } }) ∧
    (¬ x.reply.taken + 1 < x.reply.bytes.length → exec .replyByteTaken s = exec .replyTaken s)

/-! ## The common checks -/

/-- The common checks (R168, R169): a kind byte that names no request is refused UNKNOWN-KIND, in every state in which the
channel takes the frame; a frame of a known kind that
fails its length or its fields is refused with that code whatever the state of the part; the refusal changes nothing but the
reply, except that an AMEND ends the reservation (R9) and a TRADE-BLOCK's reply carries count 0. The length check refuses
exactly the body lengths that the table of section 10.2 does not list, and the fields are checked after it; which fields
pass, and so which are refused BAD-FIELD, RequestBodiesReadBack says. -/
def Obligations.CommonChecksReadTheFrameAlone : Prop :=
  (∀ (s : State) (kind : Byte) (body : List Byte), requestKinds.contains kind = false →
    takesRequest kind body s.device = true →
    exec (.unknownKind kind body) s =
      .next { s with device := { s.device with channel := replied kind 0x01 [] s.device.channel } }) ∧
  (∀ (c : Instr) (s : State) (kind : Byte) (body : List Byte) (code : Status),
    c.wellFormed = true → c.requestFrame = some (kind, body) → requestKinds.contains kind = true →
    takesRequest kind body s.device = true → commonRefusal kind body = some code →
    exec c s = .next { s with device := { s.device with
      channel := replied kind code.code (if kind = 0x04 then [0] else [])
        { s.device.channel with
          reservation := if kind = 0x08 then none else s.device.channel.reservation } } }) ∧
  ∀ (kind : Byte) (body : List Byte), requestKinds.contains kind = true →
    (commonRefusal kind body = some .badLength ↔ lengthAllowed kind body.length = false) ∧
    ∀ code, commonRefusal kind body = some code → code = .badLength ∨ code = .badField

/-- A refused request changes nothing but the reply, except that an AMEND ends the reservation and that a TRADE-BLOCK keeps
the items applied (R169): of a TRADE-BLOCK this says it where the count applied is 0. -/
def Obligations.RefusedRequestChangesNothing : Prop :=
  ∀ (c : Instr) (s t : State) (kind : Byte) (body : List Byte) (status : Byte),
    c.requestFrame = some (kind, body) → exec c s = .next t →
    t.device.channel.reply.bytes[2]? = some status → status ≠ 0x00 →
    (kind = 0x04 → t.device.channel.reply.bytes[3]? = some 0) →
    ChangesOnly (if kind = 0x08 then [.link, .reservation] else [.link]) s.device t.device

/-! ## The quotation store -/

/-- LIST accepted (R11): the record, the directory pair, and nothing handed on. -/
def Obligations.ListWritesTheRecord : Prop :=
  ∀ (s : State) (body : List Byte) (f : ListFields),
    takesRequest 0x01 body s.device = true → readList body = .ok f →
    (s.device.slot f.slot).state = .free → lookup s.device f.symbol = none →
    ∃ t, exec (.list body) s = .next t ∧ t.pending = s.pending ∧
      ChangesOnly [.link, .slots, .directory] s.device t.device ∧
      t.device.channel = replied 0x01 0x00 [] s.device.channel ∧
      t.device.directory = insertSymbol f.symbol f.slot s.device.directory ∧
      t.device.slot f.slot =
        ⟨.listed, f.symbol, f.e, f.group, f.close, none, none, none, none, none, 0, 0, .none, 0, []⟩ ∧
      ∀ i, i ≠ f.slot → t.device.slot i = s.device.slot i

/-- The market requests that address a slot are refused in the states that R4 does not accept, with the codes shown there,
and LIST is refused NOT-FREE before it is refused DUPLICATE (R4, R11). -/
def Obligations.MarketRequestsRefusedByState : Prop :=
  ∀ (s : State) (body : List Byte),
    let d := s.device
    let refused (kind status : Byte) : Host.Outcome State Fault Refusal :=
      .next { s with device := { d with channel := replied kind status [] d.channel } }
    (∀ f, takesRequest 0x01 body d = true → readList body = .ok f → (d.slot f.slot).state ≠ .free →
      exec (.list body) s = refused 0x01 0x04) ∧
    (∀ f, takesRequest 0x01 body d = true → readList body = .ok f → (d.slot f.slot).state = .free →
      lookup d f.symbol ≠ none → exec (.list body) s = refused 0x01 0x05) ∧
    (∀ f, takesRequest 0x03 body d = true → readTrade body = .ok f → (d.slot f.slot).state ≠ .trading →
      exec (.trade body) s = refused 0x03 0x07) ∧
    (∀ f, takesRequest 0x05 body d = true → readQuote body = .ok f → isListed (d.slot f.slot).state = false →
      exec (.quote body) s = refused 0x05 0x07) ∧
    (∀ i, takesRequest 0x06 body d = true → readSetState body = .ok (i, .openWord) →
      (d.slot i).state ≠ .listed → (d.slot i).state ≠ .halted →
      exec (.setStateOpen body) s = refused 0x06 0x07) ∧
    (∀ i, takesRequest 0x06 body d = true → readSetState body = .ok (i, .haltWord) →
      (d.slot i).state ≠ .trading → exec (.setStateHalt body) s = refused 0x06 0x07) ∧
    (∀ i, takesRequest 0x02 body d = true → readSlot body = .ok i → isListed (d.slot i).state = false →
      exec (.delist body) s = refused 0x02 0x07) ∧
    (∀ i, takesRequest 0x07 body d = true → readFetch body = .ok (.slot i, true) →
      isListed (d.slot i).state = false → exec (.fetch body) s = refused 0x07 0x07)

/-- The tick (R13): the table, with prices compared exactly in pu; a regular TRADE writes the tick it gives, and so does an
accepted AMEND that changes last to a price. -/
def Obligations.TickFollowsTheTable : Prop :=
  (∀ (last price : Nat) (tick : Tick),
    newTick none tick price = .none ∧
    (last < price → newTick (some last) tick price = .up) ∧
    (price < last → newTick (some last) tick price = .down) ∧
    (price = last → (tick = .up ∨ tick = .zeroUp) → newTick (some last) tick price = .zeroUp) ∧
    (price = last → (tick = .down ∨ tick = .zeroDown) → newTick (some last) tick price = .zeroDown) ∧
    (price = last → tick = .none → newTick (some last) tick price = .none)) ∧
  (∀ (s : State) (body : List Byte) (f : TradeItem),
    takesRequest 0x03 body s.device = true → readTrade body = .ok f → (s.device.slot f.slot).state = .trading →
    f.late = false →
    ∃ t, exec (.trade body) s = .next t ∧
      (t.device.slot f.slot).tick = newTick (s.device.slot f.slot).last (s.device.slot f.slot).tick f.price) ∧
  ∀ (s t : State) (body : List Byte) (f : AmendFields) (p : Nat),
    takesRequest 0x08 body s.device = true → readAmend body = .ok f → f.last = some (some p) →
    (s.device.slot f.slot).last ≠ some p → exec (.amend body) s = .next t →
    t.device.channel.reply.bytes[2]? = some 0x00 →
    (t.device.slot f.slot).tick = newTick (s.device.slot f.slot).last (s.device.slot f.slot).tick p

/-- TRADE on a TRADING slot, regular or out of sequence (R12, R14, R15): the record, the reservation, the reply and the
hand-offs; no other record changes. The rules lay down no order among the hand-offs: that the page lines are marked, each
with its room event, before the watches are evaluated is the model's choice (log 12), and on an ACTIVE line with an idle
transmitter it shows. -/
def Obligations.TradeChangesRecordAndHandsOn : Prop :=
  ∀ (s : State) (body : List Byte) (f : TradeItem),
    takesRequest 0x03 body s.device = true → readTrade body = .ok f → (s.device.slot f.slot).state = .trading →
    let d := s.device
    let x := d.slot f.slot
    let x' : Record :=
      { x with
        tick := if f.late then x.tick else newTick x.last x.tick f.price,
        last := if f.late then x.last else some f.price,
        high := if f.late then x.high else some (max (x.high.getD f.price) f.price),
        low := if f.late then x.low else some (min (x.low.getD f.price) f.price),
        volume := min (x.volume + f.shares) 999999999, tradeCount := min (x.tradeCount + 1) 65535,
        revision := x.revision + 1 }
    let d1 := endReservationOn f.slot ((beginWork 0x03 body d).setSlot f.slot x')
    let d2 := if f.onTape then (offer (.print f.slot f.price f.shares) d1).1 else d1
    let d3 := markPages f.slot (markRows x.boundRows d2)
    let d4 := if f.late then d3 else evaluateWatches f.slot (some f.price) d3
    ∃ t, exec (.trade body) s = .next t ∧ t.pending = s.pending ∧
      t.device = d4.setChannel (replied 0x03 0x00 (wordBytes (x.revision + 1).toNat) d4.channel) ∧
      t.device.channel = replied 0x03 0x00 (wordBytes (x.revision + 1).toNat)
        { d.channel with reservation := reservationAfter f.slot d.channel.reservation } ∧
      t.device.slot f.slot = x' ∧ (∀ i, i ≠ f.slot → t.device.slot i = d.slot i) ∧
      ChangesOnly ((if f.onTape then [.tape, .ribbons, .notices] else []) ++ (if f.late then [] else [.watches]) ++
        [.link, .reservation, .slots, .segments, .rows, .terminals, .dealers]) d t.device

/-- TRADE-BLOCK (R16): the items before the first whose slot is not TRADING are applied in order, each as a TRADE, and the
reply carries their number. What an item does is what a TRADE of the same fields does on a TRADING slot. -/
def Obligations.TradeBlockStopsAtTheFirstRefusedItem : Prop :=
  (∀ (s : State) (body : List Byte) (f : TradeItem),
    takesRequest 0x03 body s.device = true → readTrade body = .ok f → (s.device.slot f.slot).state = .trading →
    let d' := applyTrade f (beginWork 0x03 body s.device)
    exec (.trade body) s = .next
      ⟨d'.setChannel (replied 0x03 0x00 (wordBytes (d'.slot f.slot).revision.toNat) d'.channel), s.pending⟩) ∧
  ∀ (s : State) (body : List Byte) (l : List TradeItem),
    takesRequest 0x04 body s.device = true → readTradeBlock body = .ok l →
    let upTo (n : Nat) : Device := (l.take n).foldl (fun d f => applyTrade f d) (beginWork 0x04 body s.device)
    ∃ t n, exec (.tradeBlock body) s = .next t ∧ t.pending = s.pending ∧ n ≤ l.length ∧
      t.device = (upTo n).setChannel
        (replied 0x04 (if n = l.length then 0x00 else 0x07) [byte n] (upTo n).channel) ∧
      (∀ k f, k < n → l[k]? = some f → ((upTo k).slot f.slot).state = .trading) ∧
      ∀ f, l[n]? = some f → ((upTo n).slot f.slot).state ≠ .trading

/-- QUOTE (R17) and SET-STATE (R18) accepted: the record, the reservation, the reply and the hand-offs; no other record
changes. -/
def Obligations.QuoteAndSetStateChangeTheRecord : Prop :=
  ∀ (s : State) (body : List Byte),
    let d := s.device
    (∀ f : QuoteFields, takesRequest 0x05 body d = true → readQuote body = .ok f →
      isListed (d.slot f.slot).state = true →
      let x' : Record := { d.slot f.slot with
        bid := f.bid, ask := f.ask, revision := (d.slot f.slot).revision + 1 }
      let d1 := endReservationOn f.slot ((beginWork 0x05 body d).setSlot f.slot x')
      let d2 := markPages f.slot (markRows
        (x'.boundRows.filter (fun r => (d.layout (d.row r).layout).any (fun y => y.kind == .bid || y.kind == .ask))) d1)
      ∃ t, exec (.quote body) s = .next t ∧ t.pending = s.pending ∧
        t.device = d2.setChannel (replied 0x05 0x00 (wordBytes x'.revision.toNat) d2.channel) ∧
        t.device.channel.reservation = reservationAfter f.slot d.channel.reservation ∧
        t.device.slot f.slot = x' ∧ (∀ i, i ≠ f.slot → t.device.slot i = d.slot i) ∧
        ChangesOnly [.link, .reservation, .slots, .segments, .rows, .terminals, .dealers] d t.device) ∧
    (∀ (i : Slot) (w : StateWord) (after : SlotState), takesRequest 0x06 body d = true → readSetState body = .ok (i, w) →
      ((w = .openWord ∧ ((d.slot i).state = .listed ∨ (d.slot i).state = .halted) ∧ after = .trading) ∨
        (w = .haltWord ∧ (d.slot i).state = .trading ∧ after = .halted)) →
      let x' : Record := { d.slot i with state := after, revision := (d.slot i).revision + 1 }
      let d1 := endReservationOn i ((beginWork 0x06 body d).setSlot i x')
      let d2 := markPages i (markRows x'.boundRows (offer (.state i w) d1).1)
      ∃ t, exec (if w = .openWord then .setStateOpen body else .setStateHalt body) s = .next t ∧ t.pending = s.pending ∧
        t.device = d2.setChannel (replied 0x06 0x00 (wordBytes x'.revision.toNat) d2.channel) ∧
        t.device.channel.reservation = reservationAfter i d.channel.reservation ∧
        t.device.slot i = x' ∧ (∀ j, j ≠ i → t.device.slot j = d.slot j) ∧
        ChangesOnly [.link, .reservation, .notices, .slots, .tape, .ribbons, .segments, .rows, .terminals, .dealers]
          d t.device)

/-- DELIST accepted (R19, R157, R159): the directory pair, the bindings, the watches and the page entries of the slot are
gone, and the slot is DELISTING while the tape names it and else FREE with the FREE values. A terminal in service that held a
watch on the slot is given an ended alert, and the page lines that showed the slot are marked; on an ACTIVE line items may
enter at once, the oldest alerts and the marked page lines among them. Each bound row is unbound and marked (R94): a CLEAN one
joins its segment's repaint queue at the tail, in the order of the list (R10, R95), and nothing else of a segment changes. The
forward buffers are kept. -/
def Obligations.DelistWithdrawsTheInstrument : Prop :=
  ∀ (s : State) (body : List Byte) (i : Slot),
    takesRequest 0x02 body s.device = true → readSlot body = .ok i → isListed (s.device.slot i).state = true →
    let d := s.device
    let x := d.slot i
    let named := d.tape.entries.any (fun y => y.body.slot? == some i)
    ∃ t, exec (.delist body) s = .next t ∧ t.pending = s.pending ∧
      t.device.channel = replied 0x02 0x00 [if named then 4 else 0]
        { d.channel with reservation := reservationAfter i d.channel.reservation } ∧
      t.device.slot i =
        (if named then { x with state := .delisting, boundRows := [], revision := x.revision + 1 }
        else ⟨.free, [], 1, 0, 0, none, none, none, none, none, 0, 0, .none, 0, []⟩) ∧
      (∀ j, j ≠ i → t.device.slot j = d.slot j) ∧
      t.device.directory = d.directory.filter (fun p => p.2 ≠ i) ∧
      t.device.watches = d.watches.filter (fun w => w.slot ≠ i) ∧
      (∀ l p, (t.device.dealer l).entry p =
        if (d.dealer l).entry p = some i then none else (d.dealer l).entry p) ∧
      (∀ l c, Alert.watch i c ∉ (t.device.dealer l).alerts ∨
        ∀ w ∈ d.watches, ¬ (w.terminal = l ∧ w.slot = i)) ∧
      (WatchesSound d → ∀ l,
        let z := d.terminal l
        let held := d.watches.any (fun w => w.terminal == l && w.slot == i)
        let listed := alertsAfterDelist i
          (if held ∧ (z.state = .active ∨ z.state = .loopback) then some x.symbol else none) (d.dealer l).alerts
        (z.takesNoItem → (t.device.dealer l).alerts = listed) ∧
        (z.state = .active → ∃ n, (t.device.dealer l).alerts = listed.drop n)) ∧
      (∀ l p, (d.terminal l).takesNoItem →
        (t.device.dealer l).marked p = ((d.dealer l).marked p || (d.dealer l).entry p == some i)) ∧
      (∀ l, (t.device.dealer l).forward = (d.dealer l).forward) ∧
      (∀ l, (d.terminal l).takesNoItem → t.device.terminal l = d.terminal l ∧
        t.device.dealer l = { d.dealer l with
          page := (t.device.dealer l).page, marks := (t.device.dealer l).marks, alerts := (t.device.dealer l).alerts }) ∧
      (∀ r, t.device.row r =
        if r ∈ x.boundRows then { markedRow (d.row r) with binding := none } else d.row r) ∧
      (∀ g, t.device.segment g =
        { d.segment g with queue := (d.segment g).queue ++ joining d g x.boundRows.eraseDups }) ∧
      (∀ l, WrittenOnly (d.terminal l) (t.device.terminal l)) ∧
      (∀ r, t.device.ribbon r =
        { d.ribbon r with
          lastShown := if named = false ∧ (d.ribbon r).lastShown = some i then none else (d.ribbon r).lastShown }) ∧
      ChangesOnly [.link, .reservation, .slots, .directory, .ribbons, .segments, .rows, .terminals, .dealers, .watches]
        d t.device

/-- FETCH (R22, R8, R6): by slot or by symbol, with or without the reserve flag; the reply is the record of section 10.4. A
symbol that the directory does not hold is refused NOT-LISTED. -/
def Obligations.FetchReportsTheRecord : Prop :=
  ∀ (s : State) (body : List Byte) (target : FetchTarget) (reserve : Bool),
    takesRequest 0x07 body s.device = true → readFetch body = .ok (target, reserve) →
    let d := s.device
    let found := match target with
      | .slot i => some i
      | .symbol y => lookup d y
    (∀ i, found = some i → (reserve = true → isListed (d.slot i).state = true) →
      let x := d.slot i
      exec (.fetch body) s = .next { s with device := { d with
        channel := replied 0x07 0x00
          (wordBytes i.val ++ [slotStateCode x.state] ++ symbolBytes x.symbol ++ [byte x.e, byte x.group.val] ++
            priceBytes (some x.close) ++ priceBytes x.last ++ priceBytes x.high ++ priceBytes x.low ++
            priceBytes x.bid ++ priceBytes x.ask ++ longBytes x.volume ++ wordBytes x.tradeCount ++ [tickCode x.tick] ++
            wordBytes x.revision.toNat ++ [byte x.boundRows.length] ++ x.boundRows.map (fun r => byte r.val))
          { d.channel with reservation := if reserve then some i else d.channel.reservation } } }) ∧
    (found = none →
      exec (.fetch body) s = .next { s with device := { d with channel := replied 0x07 0x06 [] d.channel } })

/-- AMEND (R23, R24): without a reservation on its slot it is refused RESERVATION-LOST, with one that would break the
condition of R2 it is refused BAD-FIELD, and else the given fields stand in the record; the reservation ends in every
case. R24 lays down no order among the hand-offs: that the page lines are marked, each with its room event, before the
watches are evaluated is the model's choice (log 12). -/
def Obligations.AmendNeedsTheReservation : Prop :=
  ∀ (s : State) (body : List Byte) (f : AmendFields),
    takesRequest 0x08 body s.device = true → readAmend body = .ok f →
    let d := s.device
    let x := d.slot f.slot
    let last := f.last.getD x.last
    let x' : Record :=
      { x with
        last := last, high := f.high.getD x.high, low := f.low.getD x.low, volume := f.volume.getD x.volume,
        close := f.close.getD x.close,
        tick := if last = x.last then x.tick else match last with
          | some p => newTick x.last x.tick p
          | none => .none,
        revision := x.revision + 1 }
    let freed : Channel := { d.channel with reservation := none }
    let d1 := endReservation ((beginWork 0x08 body d).setSlot f.slot x')
    let d2 := match f.print, last with
      | true, some p => (offer (.corr f.slot p) d1).1
      | _, _ => d1
    let d3 := markPages f.slot (markRows x.boundRows d2)
    let d4 := if last ≠ x.last ∧ x.state = .trading then evaluateWatches f.slot last d3 else d3
    (d.channel.reservation ≠ some f.slot →
      exec (.amend body) s = .next { s with device := { d with channel := replied 0x08 0x08 [] freed } }) ∧
    (d.channel.reservation = some f.slot → x.tradeCount ≤ 65535 → ¬ RecordSound x' →
      exec (.amend body) s = .next { s with device := { d with channel := replied 0x08 0x03 [] freed } }) ∧
    (d.channel.reservation = some f.slot → RecordSound x' →
      ∃ t, exec (.amend body) s = .next t ∧ t.pending = s.pending ∧
        t.device = d4.setChannel (replied 0x08 0x00 (wordBytes x'.revision.toNat) d4.channel) ∧
        t.device.channel = replied 0x08 0x00 (wordBytes x'.revision.toNat) freed ∧
        t.device.slot f.slot = x' ∧ (∀ i, i ≠ f.slot → t.device.slot i = d.slot i) ∧
        ChangesOnly [.link, .reservation, .notices, .slots, .tape, .ribbons, .segments, .rows, .terminals, .dealers,
          .watches] d t.device)

/-- DAY-ROLL (R10, R25, R156): every listed slot is rolled, its rows and its page lines are marked, every watch is ARMED, the
reservation ends, and the reply counts the slots rolled. No page entry, no alert and no forward buffer is changed; on an
ACTIVE line items may enter at once, the oldest alerts and the marked page lines among them. A mark acts on its row by R94,
and a CLEAN row joins its segment's repaint queue at the tail (R95); no other row and nothing else of a segment changes. That
the slots are rolled by rising number, which is the order in which their rows join the queues, is the model's reading (log
25). -/
def Obligations.DayRollRollsEveryListedSlot : Prop :=
  ∀ s : State, takesRequest 0x09 [] s.device = true →
    let d := s.device
    let marked := ((everySlot.filter (fun i => isListed (d.slot i).state)).flatMap
      (fun i => (d.slot i).boundRows)).eraseDups
    ∃ t, exec (.dayRoll []) s = .next t ∧ t.pending = s.pending ∧
      t.device.channel = replied 0x09 0x00
        (wordBytes (everySlot.filter (fun i => isListed (d.slot i).state)).length)
        { d.channel with reservation := none } ∧
      (∀ i, t.device.slot i =
        let x := d.slot i
        if isListed x.state = true then
          { x with
            state := .listed, close := x.last.getD x.close, last := none, high := none, low := none, bid := none,
            ask := none, volume := 0, tradeCount := 0, tick := .none, revision := x.revision + 1 }
        else x) ∧
      t.device.watches = d.watches.map (fun w => { w with state := .armed }) ∧
      (∀ r, t.device.row r = if r ∈ marked then markedRow (d.row r) else d.row r) ∧
      (∀ g, t.device.segment g = { d.segment g with queue := (d.segment g).queue ++ joining d g marked }) ∧
      (∀ l, (t.device.dealer l).forward = (d.dealer l).forward) ∧
      (∀ l, (d.terminal l).takesNoItem → t.device.terminal l = d.terminal l ∧
        t.device.dealer l = { d.dealer l with marks := (t.device.dealer l).marks }) ∧
      (∀ l, WrittenOnly (d.terminal l) (t.device.terminal l)) ∧
      (∀ l p, (t.device.dealer l).entry p = (d.dealer l).entry p) ∧
      (∀ l, ∃ n, (t.device.dealer l).alerts = (d.dealer l).alerts.drop n) ∧
      (∀ l, (d.terminal l).takesNoItem → (t.device.dealer l).alerts = (d.dealer l).alerts ∧
        ∀ p, (t.device.dealer l).marked p = ((d.dealer l).marked p ||
          ((d.dealer l).entry p).any (fun i => isListed (d.slot i).state))) ∧
      ChangesOnly [.link, .reservation, .slots, .segments, .rows, .terminals, .dealers, .watches] d t.device

/-- Every step keeps the condition of R2 in every record. -/
def Obligations.EveryStepKeepsRecordsSound : Prop :=
  ∀ s t : State, step s = .next t → RecordsSound s.device → RecordsSound t.device

/-- Every step keeps the directory sorted, without a double, and equal to the listed slots (R5, R6). With the reservation on
a listed slot (R8), it keeps what R20 and R154 say of the slots that are named: no tape entry, no row binding, no watch and
no page line names a FREE slot, and the last three name listed slots; and what R26 says of the bound rows: at most 4, none
twice, a row's binding and the slot's list in agreement. -/
def Obligations.EveryStepKeepsDirectorySound : Prop :=
  ∀ s t : State, step s = .next t → DirectorySound s.device →
    DirectorySound t.device ∧
    (ReservationSound s.device → BindingsSound s.device → ReferencesSound s.device →
      BindingsSound t.device ∧ ReferencesSound t.device)

/-- R9: while the reservation stands, the slot it names keeps its revision, whatever step is taken, and the slot stays in
one of the listed states (R8). -/
def Obligations.ReservationGuardsTheRevision : Prop :=
  ∀ (s t : State) (i : Slot), step s = .next t → ReservationSound s.device →
    ReservationSound t.device ∧
    (s.device.channel.reservation = some i → t.device.channel.reservation = some i →
      (t.device.slot i).revision = (s.device.slot i).revision)

/-- The conditions that every step keeps hold at reset. -/
def Obligations.ResetMeetsEveryCondition : Prop :=
  RecordsSound State.reset.device ∧ DirectorySound State.reset.device ∧ ReservationSound State.reset.device ∧
  TapeSound State.reset.device ∧ WatchesSound State.reset.device ∧ ScreensSound State.reset.device ∧
  QueuesSound State.reset.device ∧ LinesSound State.reset.device ∧ MotionSound State.reset.device ∧
  NoticesSound State.reset.device ∧ TablesSound State.reset.device ∧ BindingsSound State.reset.device ∧
  ReferencesSound State.reset.device

/-! ## The price formatter -/

/-- A fitted PRICE request (R34, R35, R36): the finest text that fits, from the instrument's D down to 2; then the whole
points, an exact half going to the even one; then the overflow fill; an absent price gives blanks. Every fitted text is
exactly as long as its field is wide (R38, R45). The fields' own texts: LAST shows the close of a LISTED slot and of one
without a last (R39), HIGH, LOW, BID and ASK their price (R40), CHANGE the word or the signed text (R41, R42), VOLUME the
lots, the thousands or the fill (R43), and SYMBOL the symbol, with a blank for the full stop on a board (R44). The fraction
text at one denominator: the numerator rounded to the nearest, an exact half to the even one (R31), a whole numerator
carried into the points, the fraction in lowest terms (R32), in one of the three forms (R33). -/
def Obligations.FittedTextsFillTheirFields : Prop :=
  (∀ (x : Record) (board : Bool) (k : FieldKind) (w : Nat), 1 ≤ w → (fieldText x board k w).length = w) ∧
  (∀ (x : Record) (board : Bool) (w : Nat), 1 ≤ w →
    let text (k : FieldKind) : Text := fieldText x board k w
    let right (y : Text) : Text := List.replicate (w - y.length) 0x20 ++ y
    let word := x.state = .halted ∧ 4 ≤ w
    let finest (m v : Nat) (y : Text) : Prop :=
      (∃ k, 1 ≤ k ∧ k ≤ x.e ∧ (fractionText m k).length ≤ v ∧
        (∀ j, k < j → j ≤ x.e → v < (fractionText m j).length) ∧ y = fractionText m k) ∨
      ((∀ k, 1 ≤ k → k ≤ x.e → v < (fractionText m k).length) ∧ y = digits (wholeRounding m) ∧ y.length ≤ v)
    let lots := x.volume / 100
    let name := (if board then x.symbol.map (fun c => if c = 0x2E then 0x20 else c) else x.symbol).take w
    text .last = priceField (if x.state = .listed then some x.close else some (x.last.getD x.close)) x.e w ∧
    text .high = priceField x.high x.e w ∧ text .low = priceField x.low x.e w ∧
    text .bid = priceField x.bid x.e w ∧ text .ask = priceField x.ask x.e w ∧
    (word → text .change = right [0x48, 0x41, 0x4C, 0x54]) ∧
    (¬ word → x.state = .listed ∨ x.last = none → text .change = List.replicate w 0x20) ∧
    (¬ word → x.state ≠ .listed → x.last = some x.close →
      text .change = right (if 4 ≤ w then [0x55, 0x4E, 0x43, 0x48] else [0x30])) ∧
    (∀ last, ¬ word → x.state ≠ .listed → x.last = some last → last ≠ x.close →
      let m := if x.close < last then last - x.close else x.close - last
      (∀ y, finest m (w - 1) y → text .change = right ((if x.close < last then 0x2B else 0x2D) :: y)) ∧
      ((∀ y, ¬ finest m (w - 1) y) → text .change = List.replicate w 0x2D)) ∧
    text .volume =
      (if (digits lots).length ≤ w then right (digits lots)
      else if (digits (lots / 1000)).length + 1 ≤ w then right (digits (lots / 1000) ++ [0x4B])
      else List.replicate w 0x2D) ∧
    text .symbol = name ++ List.replicate (w - name.length) 0x20) ∧
  (∀ p k : Nat, 1 ≤ k → k ≤ 8 →
    let q := 256 / 2 ^ k
    let n0 := p % 256 / q
    let r := p % 256 % q
    ∃ n whole m j : Nat,
      (2 * r < q → n = n0) ∧ (q < 2 * r → n = n0 + 1) ∧ (2 * r = q → n % 2 = 0 ∧ (n = n0 ∨ n = n0 + 1)) ∧
      (n = 2 ^ k → whole = p / 256 + 1 ∧ m = 0) ∧
      (n ≠ 2 ^ k → n < 2 ^ k ∧ whole = p / 256 ∧ j ≤ k ∧ n = m * 2 ^ (k - j) ∧ (m = 0 ∨ m % 2 = 1)) ∧
      fractionText p k =
        if m = 0 then digits whole
        else if whole = 0 then digits m ++ [0x2F] ++ digits (2 ^ j)
        else digits whole ++ [0x20] ++ digits m ++ [0x2F] ++ digits (2 ^ j)) ∧
  ∀ p e w : Nat,
    (p % 256 < 128 → wholeRounding p = p / 256) ∧ (128 < p % 256 → wholeRounding p = p / 256 + 1) ∧
    (p % 256 = 128 → wholeRounding p = if p / 256 % 2 = 0 then p / 256 else p / 256 + 1) ∧
    (0x2F ∉ fractionText p 1 → fractionText p 1 = digits (wholeRounding p)) ∧
    priceField none e w = List.replicate w 0x20 ∧ (1 ≤ e → 1 ≤ w → priceField (some 0) e w = rightJustify w [0x30]) ∧
    ((∃ k, 1 ≤ k ∧ k ≤ e ∧ (fractionText p k).length ≤ w ∧
        (∀ j, k < j → j ≤ e → w < (fractionText p j).length) ∧
        priceField (some p) e w = rightJustify w (fractionText p k)) ∨
      ((∀ k, 1 ≤ k → k ≤ e → w < (fractionText p k).length) ∧
        priceField (some p) e w =
          if (digits (wholeRounding p)).length ≤ w then rightJustify w (digits (wholeRounding p))
          else List.replicate w 0x2D))

/-- What the formatter writes at a denominator that shows the price exactly, a dealer can type: it reads back as the same
price (R33, R47, R48). Its numbers are decimal, without leading zeros, and 0 is "0" (R33). -/
def Obligations.WrittenPriceReadsBack : Prop :=
  (∀ n : Nat, (digits n).foldl (fun v c => v * 10 + (c.toNat - 0x30)) 0 = n ∧
    (∀ c ∈ digits n, 0x30 ≤ c.toNat ∧ c.toNat ≤ 0x39) ∧ ((digits n).head? = some 0x30 ↔ n = 0) ∧ digits 0 = [0x30]) ∧
  ∀ p k : Nat, p ≤ 16777215 → 1 ≤ k → k ≤ 8 → 256 / 2 ^ k ∣ p → readPrice (fractionText p k) = some p

/-! ## The tape queue -/

/-- An offered entry (R50, R52, R53, R54, R59): discarded when no RUNNING ribbon selects it, appended below 511 entries,
replaced by a GAP or counted into the tail GAP from there on, with the normal length of R51; the ribbons of a new set add it
to their backlog, and each whose level that changes raises its RIBBON notice (R76, R81). -/
def Obligations.OfferPlacesTheEntry : Prop :=
  ∀ (d : Device) (b : EntryBody), b.isGap = false →
    let grouped (r : RibbonNo) (i : Slot) : Bool := (d.ribbon r).groupMask.getLsbD (d.slot i).group.val
    let wants (r : RibbonNo) : Bool := match b with
      | .print i _ _ => grouped r i
      | .corr i _ => grouped r i
      | .state i _ => grouped r i
      | .bulletin mask _ => mask.getLsbD r.val
      | .gap _ => true
    let symbol (i : Slot) : Nat := (d.slot i).symbol.length
    let price (i : Slot) (p : Nat) : Nat := (fractionText p (d.slot i).e).length
    let normal : Nat := match b with
      | .print i p shares =>
        let lots := if shares / 100 = 0 then 1 else shares / 100
        symbol i + 1 + (if 2 ≤ lots then (digits lots).length + 1 else 0) + price i p + 3
      | .corr i p => symbol i + 6 + price i p + 3
      | .state i _ => symbol i + 5 + 3
      | .bulletin _ text => text.length + 3
      | .gap _ => 11
    let set := everyRibbon.filter (fun r => (d.ribbon r).state == .running && wants r)
    let running := everyRibbon.filter (fun r => (d.ribbon r).state == .running)
    let old := d.tape.entries
    let d' := (offer b d).1
    let told (len : Nat) (x : Ribbon) : Ribbon :=
      let y := { x with backlog := x.backlog + len }
      { y with
        level := evaluatedLevel y, markerOwed := x.markerOwed || (x.level == .normal && evaluatedLevel y != .normal) }
    let changed (len : Nat) (l : List RibbonNo) (n : Notice) : Prop :=
      ∃ r ∈ l, n = .ribbon r ∧ (told len (d.ribbon r)).level ≠ (d.ribbon r).level
    (set = [] → offer b d = (d, .notWanted)) ∧
    (set ≠ [] → old.length ≤ 510 →
      (offer b d).2 = .appended ∧ d'.tape = ⟨old ++ [⟨d.tape.nextId, b, normal, set⟩], d.tape.nextId + 1⟩ ∧
      (∀ r, d'.ribbon r = if r ∈ set then told normal (d.ribbon r) else d.ribbon r) ∧
      (∀ n, n ∈ d'.notices ↔ n ∈ d.notices ∨ changed normal set n) ∧
      ChangesOnly [.tape, .ribbons, .notices] d d') ∧
    (set ≠ [] → old.length = 511 → tailIsGap old = false →
      (offer b d).2 = .gapped ∧ d'.tape = ⟨old ++ [⟨d.tape.nextId, .gap 1, 11, running⟩], d.tape.nextId + 1⟩ ∧
      (∀ r, d'.ribbon r = if r ∈ running then told 11 (d.ribbon r) else d.ribbon r) ∧
      (∀ n, n ∈ d'.notices ↔ n ∈ d.notices ∨ changed 11 running n ∨ n = .tape) ∧ ChangesOnly [.tape, .ribbons, .notices] d d') ∧
    (∀ init x n, set ≠ [] → 511 ≤ old.length → old = init ++ [x] → x.body = .gap n →
      (offer b d).2 = .gapped ∧
      d'.tape = { d.tape with entries := init ++ [{ x with body := .gap (min (n + 1) 65535) }] } ∧
      (∀ m, m ∈ d'.notices ↔ m ∈ d.notices ∨ m = .tape) ∧ ChangesOnly [.tape, .notices] d d')

/-- The level an evaluation gives, by the level held and the delay (the table of R76); a backlog of 0 gives NORMAL. -/
def Obligations.LateLevelFollowsTheTable : Prop :=
  ∀ x : Ribbon,
    let delay := x.backlog * 100 / x.normalRate
    (x.backlog = 0 → evaluatedLevel x = .normal) ∧
    (x.backlog ≠ 0 → 90 ≤ delay → evaluatedLevel x = .digits) ∧
    (x.backlog ≠ 0 → 46 ≤ delay → delay ≤ 89 →
      evaluatedLevel x = if x.level = .digits then .digits else .abbreviated) ∧
    (x.backlog ≠ 0 → 30 ≤ delay → delay ≤ 45 → evaluatedLevel x = .abbreviated) ∧
    (x.backlog ≠ 0 → 16 ≤ delay → delay ≤ 29 →
      evaluatedLevel x = if x.level = .normal then .normal else .abbreviated) ∧
    (x.backlog ≠ 0 → delay ≤ 15 → evaluatedLevel x = .normal)

/-- Entries whose pending set is empty leave the queue, the others keep their order; a DELISTING slot that a departed entry
named and no standing entry names becomes FREE, and no other record changes; a ribbon's last-shown slot becomes none exactly
when it names a slot that becomes FREE (R80); the TAPE notice becomes pending when the last GAP has left (R20, R55, R57). -/
def Obligations.DepartedEntriesReleaseTheirSlots : Prop :=
  ∀ d : Device,
    let gone := d.tape.entries.filter (fun x => x.pending.isEmpty)
    let kept := d.tape.entries.filter (fun x => !x.pending.isEmpty)
    let d' := sweepTape d
    let released (i : Slot) : Prop :=
      (d.slot i).state = .delisting ∧ gone.any (fun x => x.body.slot? == some i) = true ∧
        kept.any (fun x => x.body.slot? == some i) = false
    d'.tape = { d.tape with entries := kept } ∧
    (∀ i, (released i → d'.slot i =
        ⟨.free, [], 1, 0, 0, none, none, none, none, none, 0, 0, .none, 0, []⟩) ∧
      (¬ released i → d'.slot i = d.slot i)) ∧
    (∀ r i, (d.ribbon r).lastShown = some i →
      (released i → d'.ribbon r = { d.ribbon r with lastShown := none }) ∧ (¬ released i → d'.ribbon r = d.ribbon r)) ∧
    (∀ r, (d.ribbon r).lastShown = none → d'.ribbon r = d.ribbon r) ∧
    (∀ n, n ∈ d'.notices ↔ n ∈ d.notices ∨
      (n = .tape ∧ gone.any (fun x => x.body.isGap) = true ∧ kept.any (fun x => x.body.isGap) = false)) ∧
    ChangesOnly [.tape, .slots, .ribbons, .notices] d d'

/-- BULLETIN accepted (R60): the entry is offered, and the reply tells what became of it. -/
def Obligations.BulletinIsOffered : Prop :=
  ∀ (s : State) (body : List Byte) (mask : Byte) (text : Text),
    takesRequest 0x10 body s.device = true → readBulletin body = .ok (mask, text) →
    let r := offer (.bulletin mask text) (beginWork 0x10 body s.device)
    ∃ t, exec (.bulletin body) s = .next t ∧ t.pending = s.pending ∧
      t.device = r.1.setChannel (replied 0x10 0x00
        ((match r.2 with
          | .appended => (0 : Byte)
          | .gapped => 1
          | .notWanted => 2) :: wordBytes r.1.tape.entries.length) r.1.channel) ∧
      t.device.channel.reservation = s.device.channel.reservation ∧
      ChangesOnly [.link, .tape, .ribbons, .notices] s.device t.device

/-! ## The ribbon channels -/

/-- RIBBON-SETUP, RIBBON-START and ALIGN (R66, R67, R68), accepted and refused WRONG-STATE. -/
def Obligations.RibbonsAreSetUpAndStarted : Prop :=
  ∀ (s : State) (body : List Byte),
    let d := s.device
    let refused (kind : Byte) : Host.Outcome State Fault Refusal :=
      .next { s with device := { d with channel := replied kind 0x07 [] d.channel } }
    (∀ f : RibbonFields, takesRequest 0x11 body d = true → readRibbonSetup body = .ok f →
      let x := d.ribbon f.ribbon
      let x' : Ribbon := { x with
        groupMask := f.groupMask.getD x.groupMask, lockGroup := f.lockGroup.getD x.lockGroup,
        normalRate := (f.normalRate.map (fun n => max 500 (min n 4000))).getD x.normalRate,
        fastRate := (f.fastRate.map (fun n => max 500 (min n 4000))).getD x.fastRate }
      let data := wordBytes x'.groupMask.toNat ++ [byte x'.lockGroup.val] ++ wordBytes x'.normalRate ++
        wordBytes x'.fastRate
      exec (.ribbonSetup body) s =
        if (f.groupMask ≠ none ∨ f.lockGroup ≠ none) ∧ x.state ≠ .stopped then refused 0x11
        else .next { s with device := (d.setRibbon f.ribbon x').setChannel (replied 0x11 0x00 data d.channel) }) ∧
    (∀ r, takesRequest 0x12 body d = true → readRibbon body = .ok r →
      let x := d.ribbon r
      let x' : Ribbon := { x with
        state := if x.lockGroup = 0 then .running else .primed, acc := 0, level := .normal, phase := .idle }
      let channel := replied 0x12 0x00 [if x.lockGroup = 0 then 2 else 1] d.channel
      exec (.ribbonStart body) s =
        if x.state ≠ .stopped then refused 0x12
        else .next { s with device := (d.setRibbon r x').setChannel channel }) ∧
    (∀ g, takesRequest 0x14 body d = true → readAlign body = .ok g →
      ∃ t, exec (.align body) s = .next t ∧ t.pending = s.pending ∧
        (∀ r, t.device.ribbon r =
          if (d.ribbon r).state = .primed ∧ (d.ribbon r).lockGroup = g then
            { d.ribbon r with state := .running, acc := 0 }
          else d.ribbon r) ∧
        t.device.channel = replied 0x14 0x00
          [byte (everyRibbon.filter (fun r => (d.ribbon r).state == .primed && (d.ribbon r).lockGroup == g)).length]
          d.channel ∧
        ChangesOnly [.link, .ribbons] d t.device)

/-- RIBBON-STOP (R65, R69, R70): a stop takes the ribbon out of every pending set and keeps its settings; a DRAIN of a ribbon
that is not drained makes it DRAINING; both are refused WRONG-STATE in the states that do not accept them. A ribbon that is
unsettled reports itself stopped to the settle record (R82, R176), and the entries that leave release their slots (R20, R57,
R80). -/
def Obligations.RibbonStopsOrDrains : Prop :=
  ∀ (s : State) (body : List Byte) (r : RibbonNo) (m : StopMode),
    takesRequest 0x13 body s.device = true → readRibbonStop body = .ok (r, m) →
    let d := s.device
    let x := d.ribbon r
    let c := if m = .immediate then Instr.ribbonStopImmediate body else Instr.ribbonStopDrain body
    let kept := (d.tape.entries.map (fun y => { y with pending := y.pending.filter (· ≠ r) })).filter
      (fun y => !y.pending.isEmpty)
    let left := if m = .immediate then d.tape.entries.length - kept.length else 0
    (x.state = .stopped ∨ (m = .drain ∧ x.state = .draining) →
      exec c s = .next { s with device := { d with channel := replied 0x13 0x07 [] d.channel } }) ∧
    (m = .drain → x.state = .running → x.backlog ≠ 0 ∨ x.current ≠ none →
      let drained := d.setRibbon r { x with state := .draining }
      exec c s = .next { s with device := drained.setChannel (replied 0x13 0x00 [3, 0, 0] d.channel) }) ∧
    ((m = .immediate ∧ x.state ≠ .stopped) ∨
        (m = .drain ∧ (x.state = .primed ∨ (x.state = .running ∧ x.backlog = 0 ∧ x.current = none))) →
      ∃ t, exec c s = .next t ∧ t.pending = s.pending ∧
        t.device.ribbon r = { x with
          state := .stopped, acc := 0, level := .normal, backlog := 0, current := none, phase := .idle, text := [],
          pos := 0, markerOwed := false, lastShown := none } ∧
        EntriesLeave d t.device (d.reportStopped r) r kept
          (if m = .drain ∨ x.level ≠ .normal then [.ribbon r] else []) ∧
        t.device.channel.link = (replied 0x13 0x00 (0 :: wordBytes left) d.channel).link ∧
        ChangesOnly [.link, .settle, .notices, .slots, .tape, .ribbons] d t.device)

/-- PACING_EVENT and CHARACTER_EVENT (R71): the current rate is added to A; at 960,000 or more the event is a character event,
with 960,000 subtracted; a STOPPED ribbon has no pacing events (that such a command then changes nothing is the model's
choice, log 8). The work of a character event goes by the phase (R73, R74, R76): what is shifted, and what the ribbon holds
after it. A ribbon that finishes an entry leaves its pending set and reports a target reached; a DRAINING one that is then
drained stops with its notice and, if it is still unsettled, reports itself stopped (R56, R70, R82, R176); the entries that
leave release their slots (R20, R57, R80). -/
def Obligations.CharacterEventActsByPhase : Prop :=
  ∀ (s : State) (r : RibbonNo),
    let d := s.device
    let x0 := d.ribbon r
    let rate := if x0.level = .digits then x0.fastRate else x0.normalRate
    let x := { x0 with acc := x0.acc + rate - 960000 }
    let after (y : Ribbon) : Host.Outcome State Fault Refusal := .next { s with device := d.setRibbon r y }
    (x0.state = .stopped → exec (.pacingEvent r) s = .next s ∧ exec (.characterEvent r) s = .next s) ∧
    (x0.state ≠ .stopped → x0.acc + rate < 960000 →
      exec (.pacingEvent r) s = after { x0 with acc := x0.acc + rate } ∧ exec (.characterEvent r) s = .next s) ∧
    (x0.state ≠ .stopped → 960000 ≤ x0.acc + rate → exec (.pacingEvent r) s = exec (.characterEvent r) s) ∧
    (x0.state ≠ .stopped → 960000 ≤ x0.acc + rate →
    (x0.state = .primed → exec (.characterEvent r) s = after { x with onLine := some 0x20 }) ∧
    (x0.state ≠ .primed → x0.phase = .idle → (∀ y ∈ d.tape.entries, r ∈ y.pending → x0.current = some y.id) →
      exec (.characterEvent r) s = after { x with onLine := some 0x20 }) ∧
    (x0.state ≠ .primed → x0.phase = .marker → x0.pos < 6 →
      exec (.characterEvent r) s = after { x with onLine := markerText[x0.pos]?, pos := x0.pos + 1 }) ∧
    (x0.state ≠ .primed → x0.phase = .marker → x0.pos = 6 →
      exec (.characterEvent r) s = after { x with onLine := some 0x20, phase := .text, pos := 0 }) ∧
    (x0.state ≠ .primed → x0.phase = .text → x0.pos + 1 < x0.text.length →
      exec (.characterEvent r) s = after { x with onLine := x0.text[x0.pos]?, pos := x0.pos + 1 }) ∧
    (x0.state ≠ .primed → x0.phase = .separator → x0.pos < 2 →
      exec (.characterEvent r) s = after { x with onLine := some 0x20, pos := x0.pos + 1 }) ∧
    (x0.state ≠ .primed → x0.phase = .separator → x0.pos = 2 →
      exec (.characterEvent r) s = after { x with onLine := some 0x20, phase := .idle, pos := 0 }) ∧
    (∀ id, x0.state = .running ∨ (x0.state = .draining ∧ x0.backlog ≠ 0) → x0.phase = .text →
      x0.pos + 1 = x0.text.length → x0.current = some id →
      let kept := (d.tape.entries.map (fun y =>
        if y.id = id then { y with pending := y.pending.filter (· ≠ r) } else y)).filter (fun y => !y.pending.isEmpty)
      ∃ t, exec (.characterEvent r) s = .next t ∧ t.pending = s.pending ∧
        t.device.ribbon r = { x with
          onLine := x0.text[x0.pos]?, current := none, phase := .separator, pos := 0, text := [],
          lastShown := shownAfter d kept x0.lastShown } ∧
        EntriesLeave d t.device (d.reportReached r id) r kept [] ∧
        ChangesOnly [.settle, .notices, .slots, .tape, .ribbons] d t.device) ∧
    (∀ id, x0.state = .draining → x0.backlog = 0 → x0.phase = .text → x0.pos + 1 = x0.text.length →
      x0.current = some id →
      let kept := (d.tape.entries.map (fun y => { y with pending := y.pending.filter (· ≠ r) })).filter
        (fun y => !y.pending.isEmpty)
      ∃ t, exec (.characterEvent r) s = .next t ∧ t.pending = s.pending ∧
        t.device.ribbon r = { x0 with
          state := .stopped, acc := 0, level := .normal, current := none, phase := .idle, text := [], pos := 0,
          markerOwed := false, lastShown := none, onLine := x0.text[x0.pos]? } ∧
        EntriesLeave d t.device ((d.reportReached r id).reportStopped r) r kept [.ribbon r] ∧
        ChangesOnly [.settle, .notices, .slots, .tape, .ribbons] d t.device))

/-- Beginning an entry (R58, R74): the oldest that names the ribbon and that it has not begun. The backlog falls by its normal
length and the level is evaluated; an owed marker is shifted when the level is still late (R77); the text is that of R78 and
R79 at the level now in force, a PRINT's symbol left out at ABBREVIATED and DIGITS when the last-shown slot, none after a
marker, is its slot (R80). A text of one character is finished in the same event, with all that a finish does (R76). -/
def Obligations.BeginningAnEntryComposesItsText : Prop :=
  ∀ (s : State) (r : RibbonNo) (y : Entry),
    let d := s.device
    let x0 := d.ribbon r
    let rate := if x0.level = .digits then x0.fastRate else x0.normalRate
    (x0.state = .running ∨ x0.state = .draining) → 960000 ≤ x0.acc + rate → x0.phase = .idle →
    r ∈ y.pending → x0.current ≠ some y.id →
    (∃ older newer, d.tape.entries = older ++ y :: newer ∧ ∀ z ∈ older, r ∈ z.pending → x0.current = some z.id) →
    let x := { x0 with acc := x0.acc + rate - 960000, backlog := x0.backlog - y.normalLength }
    let level := evaluatedLevel x
    let marker := (x0.markerOwed || (x0.level == .normal && level != .normal)) && level != .normal
    let shown := if marker then none else x0.lastShown
    let price (i : Slot) (p : Nat) : Text := fractionText p (d.slot i).e
    let named (i : Slot) : Text := (d.slot i).symbol ++ [0x20]
    let cut (t : Text) : Text :=
      let whole := t.takeWhile (fun c => decide (0x30 ≤ c.toNat ∧ c.toNat ≤ 0x39))
      let rest := t.drop whole.length
      if rest = [] ∨ rest.head? = some 0x20 then whole.drop (whole.length - 1) ++ rest else t
    let text : Text := match y.body, level with
      | .print i p shares, .normal =>
        let lots := if shares / 100 = 0 then 1 else shares / 100
        named i ++ (if 2 ≤ lots then digits lots ++ [0x40] else []) ++ price i p
      | .print i p _, .abbreviated => (if shown = some i then [] else named i) ++ price i p
      | .print i p _, .digits => (if shown = some i then [] else named i) ++ cut (price i p)
      | .corr i p, _ => named i ++ txt ['C', 'O', 'R', 'R', ' '] ++ price i p
      | .state i .openWord, _ => named i ++ txt ['O', 'P', 'E', 'N']
      | .state i .haltWord, _ => named i ++ txt ['H', 'A', 'L', 'T']
      | .bulletin _ t, _ => t
      | .gap _, _ => txt ['T', 'A', 'P', 'E', ' ', 'G', 'A', 'P']
    let slot := match y.body with
      | .print i _ _ => some i
      | .corr i _ => some i
      | _ => none
    (marker = true ∨ 2 ≤ text.length →
      ∃ t, exec (.characterEvent r) s = .next t ∧ t.pending = s.pending ∧
        t.device.ribbon r = { x with
          current := some y.id, level := level, markerOwed := false, lastShown := slot, text := text, pos := 1,
          phase := if marker then .marker else .text, onLine := if marker then some 0x4C else text[0]? } ∧
        (∀ n, n ∈ t.device.notices ↔ n ∈ d.notices ∨ (n = .ribbon r ∧ level ≠ x0.level)) ∧
        (∀ q, q ≠ r → t.device.ribbon q = d.ribbon q) ∧
        ChangesOnly [.notices, .ribbons] d t.device) ∧
    (marker = false → text.length = 1 →
      let stops := x0.state = .draining ∧ x.backlog = 0
      let kept := (d.tape.entries.map (fun z =>
        if stops ∨ z.id = y.id then { z with pending := z.pending.filter (· ≠ r) } else z)).filter
          (fun z => !z.pending.isEmpty)
      let reached := d.reportReached r y.id
      ∃ t, exec (.characterEvent r) s = .next t ∧ t.pending = s.pending ∧
        t.device.ribbon r =
          (if stops then
            { x with
              state := .stopped, acc := 0, level := .normal, current := none, phase := .idle, text := [], pos := 0,
              markerOwed := false, lastShown := none, onLine := text[0]? }
          else
            { x with
              current := none, level := level, phase := .separator, text := [], pos := 0, markerOwed := false,
              lastShown := shownAfter d kept slot, onLine := text[0]? }) ∧
        EntriesLeave d t.device (if stops then reached.reportStopped r else reached) r kept
          (if stops ∨ level ≠ x0.level then [.ribbon r] else []) ∧
        ChangesOnly [.settle, .notices, .slots, .tape, .ribbons] d t.device)

/-- R53, R54 and R56 hold after every step that finds them: the tape's limits, and pending sets of RUNNING and DRAINING
ribbons alone. So does what makes each entry an item of its own (R49, R58): the numbers that tell entries apart are distinct
and rise from head to tail, and the next one is above them all. -/
def Obligations.EveryStepKeepsTheTapeSound : Prop :=
  ∀ s t : State, step s = .next t → TapeSound s.device → TapeSound t.device

/-- R85: two RUNNING ribbons that stand alike and are in the same pending sets still do after a pacing event of each, and
after an offer that both select or neither does; so they shift the same characters. -/
def Obligations.RibbonsInStepStayInStep : Prop :=
  ∀ (s : State) (p q : RibbonNo), p ≠ q →
    let alike (d : Device) : Prop :=
      d.ribbon p = d.ribbon q ∧ (d.ribbon p).state = .running ∧
      ∀ y ∈ d.tape.entries, p ∈ y.pending ↔ q ∈ y.pending
    alike s.device →
    (∃ t, steps 2 { s with pending := .pacingEvent p :: .pacingEvent q :: s.pending } = .next t ∧
      t.pending = s.pending ∧ alike t.device) ∧
    ∀ b, selects s.device p b = selects s.device q b → alike (offer b s.device).1

/-! ## The board controller -/

/-- A mark by the row's display state (the table of R94), and the entry into DOWN or FAULTED of a row that no exercise lists
(R93): its own parts, the queue closed up, the report of an owed count, the ROW notice. -/
def Obligations.MarksAndDarkRows : Prop :=
  ∀ (d : Device) (r : RowNo),
    let x := d.row r
    (∀ u, x.display = .clean → x.rowUnit = some u →
      let d' := markRow r d
      d'.row r = { x with display := .queued, lampOffOwed := false } ∧ (∀ q, q ≠ r → d'.row q = d.row q) ∧
      d'.segment u.segment = { d.segment u.segment with queue := (d.segment u.segment).queue ++ [r] } ∧
      (∀ g, g ≠ u.segment → d'.segment g = d.segment g) ∧ ChangesOnly [.rows, .segments] d d') ∧
    (x.display = .sending ∨ x.display = .moving →
      markRow r d = d.setRow r { x with again := true }) ∧
    (x.display = .queued ∨ x.display = .down ∨ x.display = .faulted → markRow r d = d) ∧
    (∀ (u : RowUnit) (c : Cause) (cell : Nat), x.rowUnit = some u → (d.segment u.segment).state ≠ .exercise →
      let dark (s : Display) (k : Nat) : Row :=
        { x with
          display := s, cause := c, faultCell := k, holdTimer := .stopped, stallTimer := .stopped, again := false,
          newFresh := false, lampOffOwed := false, sent := none, shown := none, shownSlot := none, owed := 0,
          motionOrder := none, pollWait := .stopped }
      let entered (d' : Device) : Prop :=
        (∀ q, q ≠ r → d'.row q = d.row q) ∧
        d'.segment u.segment =
          { d.segment u.segment with queue := (d.segment u.segment).queue.filter (fun q => q ≠ r) } ∧
        (∀ g, g ≠ u.segment → d'.segment g = d.segment g) ∧
        d'.channel.settle = (if 0 < x.owed then d.reportNotShown else d).channel.settle ∧
        ChangesOnly [.rows, .segments, .settle, .notices] d d'
      entered (enterDown r c d) ∧ (enterDown r c d).row r = dark .down x.faultCell ∧
      (c ≠ .segmentOff → Notice.row r ∈ (enterDown r c d).notices) ∧
      entered (enterFaulted r c cell d) ∧ (enterFaulted r c cell d).row r = dark .faulted cell ∧
      Notice.row r ∈ (enterFaulted r c cell d).notices)

/-- The image composed at the start of a repaint (R97, R98): each field's cells hold the drum positions of its text, the
other cells are blank, the lamps follow the tick and the hold; an unbound row is all blank with its lamps off. That its fresh
lamp is off even while its hold timer runs is the model's reading (R97 over the FRESH row of R98, log 20). -/
def Obligations.ComposedImageShowsTheRecord : Prop :=
  ∀ (d : Device) (s : Segment) (x : Row),
    let fields := d.layout x.layout
    let image := composeImage d s x
    fieldsDisjoint fields = true → (∀ f ∈ fields, 1 ≤ f.width ∧ f.start + f.width ≤ 32) →
    image.cells.length = 32 ∧
    (x.binding = none → image = ⟨List.replicate 32 0, ⟨false, false, false⟩⟩) ∧
    ∀ i, x.binding = some i →
      (∀ f ∈ fields, (image.cells.drop f.start).take f.width =
        (fieldText (d.slot i) true f.kind f.width).map drumPosition) ∧
      (∀ k, k < 32 → (∀ f ∈ fields, k < f.start ∨ f.start + f.width ≤ k) → image.cells[k]? = some 0) ∧
      (image.lamps.up = true ↔ (d.slot i).tick = .up ∨ (d.slot i).tick = .zeroUp) ∧
      (image.lamps.down = true ↔ (d.slot i).tick = .down ∨ (d.slot i).tick = .zeroDown) ∧
      (image.lamps.fresh = true ↔ s.hold ≠ 0 ∧
        ((∃ n, x.holdTimer = .running n) ∨
          ∃ f shown, (fields.filter (fun f => f.kind == .last)).head? = some f ∧ x.shown = some shown ∧
            x.shownSlot = some i ∧
            (image.cells.drop f.start).take f.width ≠ (shown.cells.drop f.start).take f.width))

/-- REPAINT_START (R96, R99): when the segment is ACTIVE, its line free, its queue not empty and its MOVING rows below the
motion limit, the row at the front starts its repaint, with the estimate of the cell that turns furthest; otherwise the
command changes nothing (log 10). When the LAST text has changed, new fresh is set and the hold timer stops, whatever the
hold (R98; with a hold of 0 R91's words for new fresh would differ, log 14). -/
def Obligations.RepaintStartsAtTheFrontOfTheQueue : Prop :=
  ∀ (s : State) (g : SegNo),
    let d := s.device
    let moving := (everyRow.filter (fun q => (d.row q).onSegment g && (d.row q).display == .moving)).length
    let may := (d.segment g).state = .active ∧ (d.line g).frame = none ∧ moving < (d.segment g).motionLimit
    (∀ r rest, may → (d.segment g).queue = r :: rest →
      let x := d.row r
      let image := composeImage d (d.segment g) x
      let steps := match x.shown with
        | none => image.cells.map (fun _ => 39)
        | some i => List.zipWith (fun target shown => (target + 40 - shown) % 40) image.cells i.cells
      let est := steps.foldl max 0 * (d.segment g).stepPeriod + (d.segment g).settleTime
      ∃ t, exec (.repaintStart g) s = .next t ∧ t.pending = s.pending ∧
        t.device.row r = { x with
          display := .sending, sent := some ⟨image, est⟩,
          newFresh := lastTextChanged d x image.cells,
          holdTimer := if lastTextChanged d x image.cells then .stopped else x.holdTimer } ∧
        (∀ q, q ≠ r → t.device.row q = d.row q) ∧
        t.device.segment g = { d.segment g with queue := rest } ∧
        (∀ h, h ≠ g → t.device.segment h = d.segment h) ∧
        t.device.line g = handed ⟨.repaint, r, rowAddress d r, .image image⟩ (d.line g) ∧
        (∀ h, h ≠ g → t.device.line h = d.line h) ∧
        ChangesOnly [.rows, .segments, .lines] d t.device) ∧
    (¬ may ∨ (d.segment g).queue = [] → exec (.repaintStart g) s = .next s)

/-! ## The board lines -/

/-- A FREE line takes the first use that has something to do, for the row that comes first in the order of that use, and
none when none has (R116, R118, R124); a line that is OFF or IN-HAND takes none. -/
def Obligations.FreeLineTakesItsFirstUse : Prop :=
  ∀ (d : Device) (g : SegNo),
    let order := useOrder (d.segment g).state
    ((d.segment g).state = .disabled ∨ (d.line g).frame ≠ none → lineChoice d g = none) ∧
    ((d.line g).frame = none →
      (∀ u r, lineChoice d g = some (u, r) →
        u ∈ order ∧ UseWaits d g u r ∧
        (∀ v ∈ order.takeWhile (fun v => v ≠ u), ∀ q, ¬ UseWaits d g v q) ∧
        ∀ q, UseWaits d g u q → ¬ Before d g u q r) ∧
      (lineChoice d g = none → ∀ v ∈ order, ∀ q, ¬ UseWaits d g v q))

/-- LAMP_CHANGE, COMPLETION_POLL, READINESS_POLL, ECHO_REQUEST and PATTERN_FRAME_SEND: the line's choice is sent, with what
the sending changes in the row, the cursors and the exercise (R103, R116, R118, R124), and a command of another use changes
nothing (log 10); BOARD_FRAME_SENT starts the answer timer (R114), and it changes nothing while no frame is in hand or the
answer timer runs already (the model's choice, log 4). -/
def Obligations.LineUsesSendTheirFrames : Prop :=
  ∀ (s : State) (g : SegNo) (r : RowNo),
    let d := s.device
    let x := d.row r
    let l := d.line g
    let a := rowAddress d r
    let pattern := exercisePattern (d.segment g).seed r
    let sent (c : Instr) (l' : BoardLine) (x' : Row) (list : List ExerciseRow) : Prop :=
      ∃ t, exec c s = .next t ∧ t.pending = s.pending ∧
        t.device.line g = l' ∧ (∀ h, h ≠ g → t.device.line h = d.line h) ∧
        t.device.row r = x' ∧ (∀ q, q ≠ r → t.device.row q = d.row q) ∧
        t.device.segment g = { d.segment g with exerciseList := list } ∧
        (∀ h, h ≠ g → t.device.segment h = d.segment h) ∧ ChangesOnly [.lines, .rows, .segments] d t.device
    let old := (d.segment g).exerciseList
    (lineChoice d g = some (.lampChange, r) → ∀ i, x.shown = some i →
      sent (.lampChange g) (handed ⟨.lampChange, r, a, .lamps ⟨i.lamps.up, i.lamps.down, false⟩⟩ l) x old) ∧
    (lineChoice d g = some (.completionPoll, r) →
      sent (.completionPoll g)
        { handed ⟨.completionPoll, r, a, .poll⟩ l with completionCursor := x.motionOrder }
        { x with pollWait := .stopped } old) ∧
    (lineChoice d g = some (.readinessPoll, r) →
      sent (.readinessPoll g) { handed ⟨.readinessPoll, r, a, .poll⟩ l with pollCursor := some a } x old) ∧
    (lineChoice d g = some (.echoRequest, r) →
      sent (.echoRequest g) (handed ⟨.echoRequest, r, a, .echoRequest⟩ l) x old) ∧
    (lineChoice d g = some (.pattern, r) →
      sent (.patternFrameSend g) (handed ⟨.pattern, r, a, .image pattern⟩ l)
        { x with holdTimer := .stopped, lampOffOwed := false }
        (old.map (fun y =>
          if y.row = r then { y with step := .patternSent, estimate := estimate (d.segment g) x.shown pattern }
          else y))) ∧
    (∀ u c, (u, c) ∈ [(LineUse.lampChange, Instr.lampChange g), (.completionPoll, .completionPoll g),
        (.readinessPoll, .readinessPoll g), (.echoRequest, .echoRequest g), (.pattern, .patternFrameSend g)] →
      (∀ q, lineChoice d g ≠ some (u, q)) → exec c s = .next s) ∧
    (∀ f, l.frame = some f → l.answerTimer = .stopped →
      exec (.boardFrameSent g) s = .next ⟨
        d.setLine g { l with answerTimer := .running (if f.body = .echoRequest then 120 else 40) }, s.pending⟩) ∧
    (l.frame = none ∨ l.answerTimer ≠ .stopped → exec (.boardFrameSent g) s = .next s)

/-- NAK, BAD_ANSWER, ANSWER_TIMER_EXPIRY and every complete frame that is not the good answer (R113, R114, R115, R117, R120):
ignored while no answer is awaited, the expiry of a stopped answer timer too (the model's choice, log 4); a frame that is
no POLL is sent again twice and then fails, its row DOWN, cause SILENT; a POLL is counted, and the third makes the row DOWN,
cause SILENT. It is not counted against a FAULTED row, nor against a row that has been set up on another unit since (log
23). -/
def Obligations.BadAnswersAreResentOrCounted : Prop :=
  ∀ (s : State) (c : Instr) (g : SegNo), answersOn c = some g →
    let d := s.device
    let l := d.line g
    let free := d.setLine g (closedLine l)
    (l.frame = none ∨ l.answerTimer = .stopped → exec c s = .next s) ∧
    (∀ f n, l.frame = some f → l.answerTimer = .running n → goodAnswer c f = false →
      let x := d.row f.row
      let missed := min (x.missed + 1) 3
      let counted := free.setRow f.row { x with
        missed := missed,
        pollWait := if f.use = .completionPoll ∧ (x.display = .moving ∨ exerciseStep d f.row = some .turning) then
          .running 50 else x.pollWait }
      (f.body ≠ .poll → l.retry < 2 → exec c s =
        .next { s with device := d.setLine g { l with retry := l.retry + 1, answerTimer := .stopped } }) ∧
      (f.body ≠ .poll → 2 ≤ l.retry → exec c s = .next { s with device := enterDown f.row .silent free }) ∧
      (f.body = .poll → x.display = .faulted ∨ x.rowUnit ≠ some ⟨g, f.address⟩ →
        exec c s = .next { s with device := free }) ∧
      (f.body = .poll → x.display ≠ .faulted → x.rowUnit = some ⟨g, f.address⟩ → missed < 3 →
        exec c s = .next { s with device := counted }) ∧
      (f.body = .poll → x.rowUnit = some ⟨g, f.address⟩ → missed = 3 →
        x.display = .clean ∨ x.display = .queued ∨ x.display = .moving →
        exec c s = .next { s with device := enterDown f.row .silent counted }) ∧
      (f.body = .poll → x.rowUnit = some ⟨g, f.address⟩ → missed = 3 → x.display = .down → x.cause ≠ .segmentOff →
        ∃ t, exec c s = .next t ∧ t.pending = s.pending ∧ t.device.line g = closedLine l ∧
          t.device.row f.row = { counted.row f.row with cause := .silent } ∧
          (∀ q, q ≠ f.row → t.device.row q = d.row q) ∧ (∀ h, h ≠ g → t.device.line h = d.line h) ∧
          ChangesOnly [.lines, .rows] d t.device))

/-- ACK, good (R100, R103, R114, R124): a SENDING row becomes MOVING, a row at PATTERN-SENT becomes TURNING, and the row of a
LAMPS frame has its fresh lamp off; its missed-poll count is 0. -/
def Obligations.AcceptedFramesMoveTheRow : Prop :=
  ∀ (s : State) (g : SegNo) (addr sum : Byte) (spoiled : Bool) (f : Frame) (n : Nat),
    let d := s.device
    let x := d.row f.row
    let seg := d.segment g
    let order := seg.motionCounter
    (d.line g).frame = some f → (d.line g).answerTimer = .running n →
    goodAnswer (.ack g addr sum spoiled) f = true → x.rowUnit = some ⟨g, f.address⟩ →
    let done (x' : Row) (seg' : Segment) : Prop :=
      ∃ t, exec (.ack g addr sum spoiled) s = .next t ∧ t.pending = s.pending ∧
        t.device.line g = closedLine (d.line g) ∧ (∀ h, h ≠ g → t.device.line h = d.line h) ∧
        t.device.row f.row = x' ∧ (∀ q, q ≠ f.row → t.device.row q = d.row q) ∧
        t.device.segment g = seg' ∧ (∀ h, h ≠ g → t.device.segment h = d.segment h) ∧
        ChangesOnly [.lines, .rows, .segments] d t.device
    let turning (est : Nat) : Row :=
      { x with
        missed := 0, motionOrder := some order, stallTimer := .running (est + est / 2 + 200), pollWait := .running 50 }
    (∀ i est, f.use = .repaint → x.display = .sending → x.sent = some ⟨i, est⟩ →
      done { turning est with display := .moving } { seg with motionCounter := order + 1 }) ∧
    (∀ y, f.use = .pattern → (seg.exerciseList.map (·.row)).Nodup → y ∈ seg.exerciseList → y.row = f.row →
      y.step = .patternSent →
      done (turning y.estimate) { seg with
        motionCounter := order + 1,
        exerciseList := seg.exerciseList.map (fun z => if z.row = f.row then { z with step := .turning } else z) }) ∧
    (f.use = .lampChange →
      done { x with
        missed := 0, lampOffOwed := false,
        shown := x.shown.map (fun i => { i with lamps := { i.lamps with fresh := false } }) } seg)

/-- STATUS, good (R101, R114, R117, R119, R121, R124): what a completion poll and a readiness poll find, by the row's state
when the answer is taken; an answer whose row sits on another unit, and a completion answer for a row that turns no more,
as after its stall timer has expired, end the exchange alone and leave the row its missed-poll count (R121, R128; beside the
general words of R114 this is the model's reading, log 23). Two more readings stand in the completion of a repaint: the shown
slot takes the binding the row has then, after a BIND or an UNBIND during the motion too (R101 over the words of R91 and R98,
log 30), and with new fresh set the hold timer starts at the hold even when that is 0 (R98, R101; log 14). -/
def Obligations.StatusActsByTheTables : Prop :=
  ∀ (s : State) (g : SegNo) (addr state sum : Byte) (spoiled : Bool) (f : Frame) (n : Nat),
    let d := s.device
    let x := d.row f.row
    let c := Instr.status g addr state sum spoiled
    let ready := state.getLsbD 0
    let moving := state.getLsbD 1
    let step := exerciseStep d f.row
    (d.line g).frame = some f → (d.line g).answerTimer = .running n → goodAnswer c f = true →
    let free := d.setLine g (closedLine (d.line g))
    let heardRow : Row := { x with missed := 0 }
    let heardOf := free.setRow f.row heardRow
    (x.rowUnit ≠ some ⟨g, f.address⟩ → exec c s = .next { s with device := free }) ∧
    (x.rowUnit = some ⟨g, f.address⟩ →
      (f.use = .completionPoll → x.display ≠ .moving → step ≠ some .turning →
        exec c s = .next { s with device := free }) ∧
      (f.use = .completionPoll → x.display = .moving ∨ step = some .turning → ready = false →
        exec c s = .next { s with device := enterDown f.row .notReady heardOf }) ∧
      (f.use = .completionPoll → x.display = .moving ∨ step = some .turning → ready = true → moving = true →
        ∃ t, exec c s = .next t ∧ t.pending = s.pending ∧ t.device.line g = closedLine (d.line g) ∧
          (∀ h, h ≠ g → t.device.line h = d.line h) ∧
          t.device.row f.row = { heardRow with pollWait := .running 50 } ∧
          (∀ q, q ≠ f.row → t.device.row q = d.row q) ∧ ChangesOnly [.lines, .rows] d t.device) ∧
      (f.use = .completionPoll → x.display = .moving → ready = true → moving = false →
        let lit := x.sent.any (fun z => z.image.lamps.fresh)
        ∃ t, exec c s = .next t ∧ t.pending = s.pending ∧ t.device.line g = closedLine (d.line g) ∧
          (∀ h, h ≠ g → t.device.line h = d.line h) ∧
          t.device.row f.row = { heardRow with
            display := if x.again then .queued else .clean, stallTimer := .stopped, pollWait := .stopped,
            motionOrder := none, shown := x.sent.map (·.image), shownSlot := x.binding, sent := none, newFresh := false,
            holdTimer := if x.newFresh then .running (d.segment g).hold else x.holdTimer,
            owed := x.owed - 1, again := false,
            lampOffOwed :=
              !x.again && (x.lampOffOwed || (!x.newFresh && lit && decide (x.holdTimer = .stopped))) } ∧
          (∀ q, q ≠ f.row → t.device.row q = d.row q) ∧
          t.device.segment g = { d.segment g with
            queue := if x.again then (d.segment g).queue ++ [f.row] else (d.segment g).queue } ∧
          (∀ h, h ≠ g → t.device.segment h = d.segment h) ∧
          t.device.channel.settle = (if x.owed = 1 then d.reportShown else d).channel.settle ∧
          ChangesOnly [.lines, .rows, .segments, .settle, .notices] d t.device) ∧
      (f.use = .completionPoll → x.display ≠ .moving → step = some .turning → ready = true → moving = false →
        ∃ t, exec c s = .next t ∧ t.pending = s.pending ∧ t.device.line g = closedLine (d.line g) ∧
          (∀ h, h ≠ g → t.device.line h = d.line h) ∧
          t.device.row f.row =
            { heardRow with stallTimer := .stopped, pollWait := .stopped, motionOrder := none } ∧
          (∀ q, q ≠ f.row → t.device.row q = d.row q) ∧
          t.device.segment g = { d.segment g with
            exerciseList := (d.segment g).exerciseList.map (fun z =>
              if z.row = f.row then { z with step := .echoing } else z) } ∧
          (∀ h, h ≠ g → t.device.segment h = d.segment h) ∧ ChangesOnly [.lines, .rows, .segments] d t.device) ∧
      (f.use = .readinessPoll → x.display = .clean ∨ x.display = .queued → exec c s = .next ⟨
        if ready then heardOf else enterDown f.row .notReady heardOf, s.pending⟩) ∧
      (f.use = .readinessPoll → x.display = .down → x.cause ≠ .segmentOff → ready = true →
        ∃ t, exec c s = .next t ∧ t.pending = s.pending ∧ t.device.line g = closedLine (d.line g) ∧
          (∀ h, h ≠ g → t.device.line h = d.line h) ∧
          t.device.row f.row = { heardRow with display := .queued, shown := none, shownSlot := none } ∧
          (∀ q, q ≠ f.row → t.device.row q = d.row q) ∧
          t.device.segment g = { d.segment g with queue := (d.segment g).queue ++ [f.row] } ∧
          (∀ h, h ≠ g → t.device.segment h = d.segment h) ∧
          Notice.row f.row ∈ t.device.notices ∧ ChangesOnly [.lines, .rows, .segments, .notices] d t.device) ∧
      (f.use = .readinessPoll → x.display = .down → x.cause ≠ .segmentOff → ready = false →
        ∃ t, exec c s = .next t ∧ t.pending = s.pending ∧ t.device.line g = closedLine (d.line g) ∧
          (∀ h, h ≠ g → t.device.line h = d.line h) ∧
          t.device.row f.row = { heardRow with cause := .notReady } ∧
          (∀ q, q ≠ f.row → t.device.row q = d.row q) ∧ ChangesOnly [.lines, .rows] d t.device))

/-- The exercise pattern of a row (R123): a 15-bit register started from the seed and the row number, six steps for each
cell, the low six bits modulo 40, the lamps off; the rule's worked example. -/
def Obligations.PatternIsDrawnFromTheRegister : Prop :=
  (∀ (seed : Word) (r : RowNo),
    let start := (seed.toNat ^^^ (r.val * 257)) % 32768
    let first := if start = 0 then 1 else start
    let shifted (v : Nat) : Nat := (2 * v + (v / 16384 + v / 8192) % 2) % 32768
    let pattern := exercisePattern seed r
    pattern.cells = (List.range 32).map (fun c => shifted^[6 * (c + 1)] first % 64 % 40) ∧
    (∀ p ∈ pattern.cells, p < 40) ∧ pattern.lamps = ⟨false, false, false⟩) ∧
  (exercisePattern 0x1234 5).cells.take 3 = [28, 2, 28]

/-- EXERCISE, and the ways a listed row passes or fails (R93, R118, R122, R125, R126). EXERCISE lists the rows in service, each
WAITING. An echo that agrees makes its row PASSED with the pattern shown; one that differs makes it FAULTED, cause MISMATCH,
at the lowest cell that differs. A row of the segment that enters DOWN or FAULTED before it is PASSED, by a differing echo,
a STATUS that is not ready, the final failure of its frame, a third unanswered poll or its stall timer, is FAILED. When with
the command every listed row is PASSED or FAILED, the exercise ends: its result is held, its PASSED rows that are CLEAN are
queued, the segment is ACTIVE, the poll cursor of its line is none, and the SEGMENT notice is pending; so too, at once, when
EXERCISE lists no row. The model's readings: the completion cursor is kept when the exercise ends (log 31), and the seed stays
in the segment afterwards (log 29). -/
def Obligations.ExerciseListsComparesAndEnds : Prop :=
  ∀ (s : State),
    let d := s.device
    let fails (c : Instr) (g : SegNo) (f : Frame) (x' : Row) : Prop :=
      ∃ t, exec c s = .next t ∧ t.pending = s.pending ∧
        FailsInExercise (d.setLine g (closedLine (d.line g))) t.device g f.row x' ∧
        ChangesOnly [.lines, .rows, .segments, .settle, .notices] d t.device
    (∀ (body : List Byte) (g : SegNo) (seed : Word), takesRequest 0x26 body d = true → readExercise body = .ok (g, seed) →
      let list := (everyRow.filter (fun r => (d.row r).onSegment g && (d.row r).display != .down &&
        (d.row r).display != .faulted)).map (fun r => (⟨r, .waiting, 0⟩ : ExerciseRow))
      ((d.segment g).state ≠ .active →
        exec (.exercise body) s = .next { s with device := { d with
          channel := replied 0x26 (if (d.segment g).state = .exercise then 0x09 else 0x07) [] d.channel } }) ∧
      ((d.segment g).state = .active →
        ∃ t, exec (.exercise body) s = .next t ∧ t.pending = s.pending ∧
          t.device.channel = replied 0x26 0x00 [byte list.length] d.channel ∧
          t.device.segment g =
            (if list = [] then { d.segment g with seed := seed, exerciseList := [], result := ⟨0, 0, 0⟩ }
            else { d.segment g with state := .exercise, seed := seed, exerciseList := list }) ∧
          t.device.line g = (if list = [] then { d.line g with pollCursor := none } else d.line g) ∧
          (∀ h, h ≠ g → t.device.segment h = d.segment h ∧ t.device.line h = d.line h) ∧
          (list = [] → Notice.segment g ∈ t.device.notices) ∧
          ChangesOnly [.link, .segments, .lines, .notices] d t.device)) ∧
    (∀ (g : SegNo) (addr sum : Byte) (sensed : List Byte) (f : Frame) (n : Nat),
      sensed.length = 32 → (d.line g).frame = some f → (d.line g).answerTimer = .running n → f.use = .echoRequest →
      goodAnswer (.echo g addr sensed sum false) f = true → (d.row f.row).rowUnit = some ⟨g, f.address⟩ →
      exerciseStep d f.row = some .echoing →
      let pattern := exercisePattern (d.segment g).seed f.row
      let heardRow : Row := { d.row f.row with missed := 0 }
      let heardOf := (d.setLine g (closedLine (d.line g))).setRow f.row heardRow
      let list := (d.segment g).exerciseList.map (fun z => if z.row = f.row then { z with step := .passed } else z)
      (pattern.cells = sensed.map (·.toNat) → exerciseOver list = false →
        ∃ t, exec (.echo g addr sensed sum false) s = .next t ∧ t.pending = s.pending ∧
          t.device.row f.row = { heardRow with shown := some pattern, shownSlot := none } ∧
          (∀ q, q ≠ f.row → t.device.row q = d.row q) ∧
          t.device.segment g = { d.segment g with exerciseList := list } ∧
          t.device.line g = closedLine (d.line g) ∧ (∀ h, h ≠ g → t.device.line h = d.line h) ∧
          (∀ h, h ≠ g → t.device.segment h = d.segment h) ∧ ChangesOnly [.lines, .rows, .segments] d t.device) ∧
      (pattern.cells = sensed.map (·.toNat) → LinesSound d →
        ∃ t, exec (.echo g addr sensed sum false) s = .next t ∧ t.pending = s.pending ∧
          ExerciseGoesOn (heardOf.setRow f.row { heardRow with shown := some pattern, shownSlot := none }) t.device g list ∧
          ChangesOnly [.lines, .rows, .segments, .notices] d t.device) ∧
      (∀ k, (∀ j, j < k → pattern.cells[j]? = sensed[j]?.map (·.toNat)) → k < 32 →
        pattern.cells[k]? ≠ sensed[k]?.map (·.toNat) →
        exec (.echo g addr sensed sum false) s =
          .next { s with device := enterFaulted f.row .mismatch k heardOf } ∧
        (LinesSound d → fails (.echo g addr sensed sum false) g f (darkened heardRow .faulted .mismatch k)))) ∧
    (∀ (c : Instr) (g : SegNo) (f : Frame) (n : Nat),
      (d.segment g).state = .exercise → LinesSound d → (d.line g).frame = some f → (d.line g).answerTimer = .running n →
      (d.row f.row).rowUnit = some ⟨g, f.address⟩ →
      let x := d.row f.row
      (∀ addr state sum, c = .status g addr state sum false → goodAnswer c f = true → state.getLsbD 0 = false →
        (f.use = .completionPoll ∧ (x.display = .moving ∨ exerciseStep d f.row = some .turning)) ∨
          (f.use = .readinessPoll ∧ (x.display = .clean ∨ x.display = .queued)) →
        fails c g f (darkened { x with missed := 0 } .down .notReady x.faultCell)) ∧
      (answersOn c = some g → goodAnswer c f = false → f.body ≠ .poll → 2 ≤ (d.line g).retry →
        fails c g f (darkened x .down .silent x.faultCell)) ∧
      (answersOn c = some g → goodAnswer c f = false → f.body = .poll → 2 ≤ x.missed →
        x.display = .clean ∨ x.display = .queued ∨ x.display = .moving →
        fails c g f (darkened { x with missed := 3 } .down .silent x.faultCell))) ∧
    (∀ (r : RowNo) (u : RowUnit) (n : Nat), LinesSound d → (d.row r).stallTimer = .running n →
      (d.row r).rowUnit = some u → (d.segment u.segment).state = .exercise →
      (d.row r).display = .moving ∧ (d.row r).sent ≠ none ∨
        (d.row r).display ≠ .moving ∧ exerciseStep d r = some .turning →
      ∃ t cell, exec (.stallTimerExpiry r) s = .next t ∧ t.pending = s.pending ∧
        FailsInExercise d t.device u.segment r (darkened (d.row r) .faulted .stalled cell) ∧
        ChangesOnly [.lines, .rows, .segments, .settle, .notices] d t.device) ∧
    ∀ g, LinesSound d → (d.segment g).state = .exercise →
      ExerciseGoesOn d (exerciseCheck g d) g (d.segment g).exerciseList ∧
      ChangesOnly [.lines, .rows, .segments, .notices] d (exerciseCheck g d)

/-- STALL_TIMER_EXPIRY (R102, R125), HOLD_TIMER_EXPIRY (R103) and POLL_WAIT_EXPIRY (R117) of a running timer; a timer that
does not run cannot expire (log 4). -/
def Obligations.RowTimersExpire : Prop :=
  ∀ (s : State) (r : RowNo) (n : Nat),
    let d := s.device
    let x := d.row r
    let cellOf (target : Image) : Nat :=
      let steps := match x.shown with
        | none => target.cells.map (fun _ => 39)
        | some i => List.zipWith (fun shown target => (target + 40 - shown) % 40) i.cells target.cells
      steps.idxOf (steps.foldl max 0)
    (∀ u sent, x.stallTimer = .running n → x.rowUnit = some u → x.display = .moving → x.sent = some sent →
      exec (.stallTimerExpiry r) s =
        .next { s with device := enterFaulted r .stalled (cellOf sent.image) d }) ∧
    (∀ u, x.stallTimer = .running n → x.rowUnit = some u → x.display ≠ .moving → exerciseStep d r = some .turning →
      exec (.stallTimerExpiry r) s =
        .next ⟨
          enterFaulted r .stalled (cellOf (exercisePattern (d.segment u.segment).seed r)) d, s.pending⟩) ∧
    (x.stallTimer = .stopped → exec (.stallTimerExpiry r) s = .next s) ∧
    (x.holdTimer = .running n →
      exec (.holdTimerExpiry r) s = .next { s with device := d.setRow r { x with
        holdTimer := .stopped, lampOffOwed := x.lampOffOwed || decide (x.display = .clean) } }) ∧
    (x.holdTimer = .stopped → exec (.holdTimerExpiry r) s = .next s) ∧
    (x.pollWait = .running n →
      exec (.pollWaitExpiry r) s = .next { s with device := d.setRow r { x with pollWait := .due } }) ∧
    (x.pollWait = .stopped ∨ x.pollWait = .due → exec (.pollWaitExpiry r) s = .next s)

/-- SEGMENT-SETUP (R86 to R89, R121): refused BUSY below the rows in motion and for ACTIVE in EXERCISE; else the settings are
clamped and written and the reply shows them; a segment made ACTIVE has its rows DOWN, cause UNKNOWN, and one made DISABLED
has its queue, its list and its line cleared, and each of its rows that was not DOWN, cause SEGMENT-OFF, already enters it
with the effects of R93; those that owed are counted not shown in the settle record (R89, R108). -/
def Obligations.SegmentSetupWritesAndSwitches : Prop :=
  ∀ (s : State) (body : List Byte) (f : SegmentFields),
    takesRequest 0x20 body s.device = true → readSegmentSetup body = .ok f →
    let d := s.device
    let g := f.segment
    let x := d.segment g
    let within (low high n : Nat) : Nat := max low (min n high)
    let x' : Segment := { x with
      stepPeriod := (f.stepPeriod.map (within 15 60)).getD x.stepPeriod,
      settleTime := (f.settleTime.map (within 50 250)).getD x.settleTime,
      motionLimit := (f.motionLimit.map (within 1 8)).getD x.motionLimit,
      hold := (f.hold.map (within 0 60)).getD x.hold }
    let busy := (f.motionLimit ≠ none ∧ x'.motionLimit < motionLoad d g) ∨ (f.enable = some true ∧ x.state = .exercise)
    let data (code : Byte) : List Byte :=
      [byte x'.stepPeriod, byte x'.settleTime, byte x'.motionLimit, byte x'.hold, code]
    (busy → exec (.segmentSetup body) s =
      .next { s with device := { d with channel := replied 0x20 0x09 [] d.channel } }) ∧
    (¬ busy → f.enable = none ∨ (f.enable = some true ∧ x.state = .active) ∨ (f.enable = some false ∧ x.state = .disabled) →
      exec (.segmentSetup body) s = .next ⟨
        (d.setSegment g x').setChannel (replied 0x20 0x00 (data (segmentStateCode x.state)) d.channel), s.pending⟩) ∧
    (¬ busy → f.enable = some true → x.state = .disabled →
      ∃ t, exec (.segmentSetup body) s = .next t ∧ t.pending = s.pending ∧
        t.device.channel = replied 0x20 0x00 (data 1) d.channel ∧
        t.device.segment g = { x' with state := .active, queue := [] } ∧
        t.device.line g = ⟨none, 0, .stopped, none, none⟩ ∧
        (∀ r, t.device.row r =
          if (d.row r).onSegment g then
            { d.row r with display := .down, cause := .unknown, shown := none, shownSlot := none, missed := 0 }
          else d.row r) ∧
        (∀ h, h ≠ g → t.device.segment h = d.segment h ∧ t.device.line h = d.line h) ∧
        ChangesOnly [.link, .segments, .lines, .rows] d t.device) ∧
    (¬ busy → f.enable = some false → x.state ≠ .disabled →
      ∃ t, exec (.segmentSetup body) s = .next t ∧ t.pending = s.pending ∧
        t.device.channel.link = (replied 0x20 0x00 (data 0) d.channel).link ∧
        t.device.segment g = { x' with state := .disabled, exerciseList := [], motionCounter := 0, queue := [] } ∧
        t.device.line g = ⟨none, 0, .stopped, none, none⟩ ∧
        let enters (r : RowNo) : Bool := (d.row r).rowUnit.any (fun u => u.segment == g) &&
          !((d.row r).display == .down && (d.row r).cause == .segmentOff)
        let counted := (everyRow.filter (fun r => enters r && decide (0 < (d.row r).owed))).foldl
          (fun e _ => e.reportNotShown) d
        (∀ r, t.device.row r =
          if enters r then darkened (d.row r) .down .segmentOff (d.row r).faultCell else d.row r) ∧
        t.device.channel.settle = counted.channel.settle ∧
        (∀ n, n ∈ t.device.notices ↔ n ∈ counted.notices) ∧
        (∀ h, h ≠ g → t.device.segment h = d.segment h ∧ t.device.line h = d.line h) ∧
        ChangesOnly [.link, .settle, .notices, .segments, .lines, .rows] d t.device)

/-- LAYOUT, BIND, UNBIND, ROW-CLEAR and ROW-SETUP, accepted and refused (R26, R90, R104 to R107). An accepted ROW-SETUP sets
the row's missed-poll count to 0: by R121 where a unit is given, and by the model's choice where unit none is (log 32). A mark
acts on its row by R94, and of a segment only the queue is appended to (R95); that LAYOUT marks its rows by rising number is
the model's reading (log 15). -/
def Obligations.RowRequestsWriteTheirRow : Prop :=
  ∀ (s : State) (body : List Byte),
    let d := s.device
    let refused (kind status : Byte) : Host.Outcome State Fault Refusal :=
      .next { s with device := { d with channel := replied kind status [] d.channel } }
    let without (r : RowNo) (i : Slot) : List RowNo := (d.slot i).boundRows.filter (fun q => q ≠ r)
    let queuesOnly (t : State) (marked : List RowNo) : Prop :=
      ∀ g, t.device.segment g = { d.segment g with queue := (d.segment g).queue ++ joining d g marked }
    (∀ l fields, takesRequest 0x21 body d = true → readLayout body = .ok (l, fields) →
      let rows := everyRow.filter (fun r => (d.row r).layout == l)
      ∃ t, exec (.layout body) s = .next t ∧ t.pending = s.pending ∧
        t.device.channel = replied 0x21 0x00 (wordBytes rows.length) d.channel ∧
        (∀ k, t.device.layout k = if k = l then fields else d.layout k) ∧
        (∀ r, t.device.row r = if r ∈ rows then markedRow (d.row r) else d.row r) ∧ queuesOnly t rows ∧
        ChangesOnly [.link, .layouts, .rows, .segments] d t.device) ∧
    (∀ r i l, takesRequest 0x22 body d = true → readBind body = .ok (r, i, l) →
      let listed := isListed (d.slot i).state
      let full := decide (4 ≤ (d.slot i).boundRows.length) && !(d.slot i).boundRows.contains r
      (listed = false → exec (.bind body) s = refused 0x22 0x06) ∧
      (listed = true → full = true → exec (.bind body) s = refused 0x22 0x0A) ∧
      (listed = true → full = false →
        ∃ t, exec (.bind body) s = .next t ∧ t.pending = s.pending ∧
          t.device.channel = replied 0x22 0x00 [] d.channel ∧
          t.device.row r = { markedRow (d.row r) with binding := some i, layout := l } ∧
          (∀ q, q ≠ r → t.device.row q = d.row q) ∧ queuesOnly t [r] ∧
          (∀ j, t.device.slot j =
            if (d.row r).binding = some i then d.slot j
            else if j = i then { d.slot j with boundRows := (d.slot i).boundRows ++ [r] }
            else if (d.row r).binding = some j then { d.slot j with boundRows := without r j }
            else d.slot j) ∧
          ChangesOnly [.link, .slots, .rows, .segments] d t.device)) ∧
    (∀ r, takesRequest 0x23 body d = true → readRow body = .ok r →
      ∃ t, exec (.unbind body) s = .next t ∧ t.pending = s.pending ∧
        t.device.channel = replied 0x23 0x00 [] d.channel ∧
        t.device.row r = { markedRow (d.row r) with binding := none } ∧ (∀ q, q ≠ r → t.device.row q = d.row q) ∧
        queuesOnly t [r] ∧
        (∀ j, t.device.slot j =
          if (d.row r).binding = some j then { d.slot j with boundRows := without r j } else d.slot j) ∧
        ChangesOnly [.link, .slots, .rows, .segments] d t.device) ∧
    (∀ r, takesRequest 0x24 body d = true → readRow body = .ok r →
      ((d.row r).display ≠ .faulted → exec (.rowClear body) s = refused 0x24 0x07) ∧
      (∀ u, (d.row r).display = .faulted → (d.row r).rowUnit = some u →
        ∃ t, exec (.rowClear body) s = .next t ∧ t.pending = s.pending ∧
          t.device.channel = replied 0x24 0x00 [] d.channel ∧
          t.device.row r = { d.row r with display := .queued, shown := none } ∧
          (∀ q, q ≠ r → t.device.row q = d.row q) ∧
          t.device.segment u.segment =
            { d.segment u.segment with queue := (d.segment u.segment).queue ++ [r] } ∧
          (∀ h, h ≠ u.segment → t.device.segment h = d.segment h) ∧
          ChangesOnly [.link, .rows, .segments] d t.device)) ∧
    (∀ r u, takesRequest 0x25 body d = true → readRowSetup body = .ok (r, u) →
      let x := d.row r
      let inState (v : Option RowUnit) (z : SegmentState) : Bool := v.any (fun w => (d.segment w.segment).state == z)
      let wrong := x.display ≠ .down ∧ x.display ≠ .faulted ∧ inState x.rowUnit .disabled = false
      let busy := inState x.rowUnit .exercise = true ∨ inState u .exercise = true
      let double := u ≠ none ∧ ∃ q, q ≠ r ∧ (d.row q).rowUnit = u
      let cause := if u = none ∨ inState u .disabled = true then Cause.segmentOff else .unknown
      (wrong → exec (.rowSetup body) s = refused 0x25 0x07) ∧
      (¬ wrong → busy → exec (.rowSetup body) s = refused 0x25 0x09) ∧
      (¬ wrong → ¬ busy → double → exec (.rowSetup body) s = refused 0x25 0x05) ∧
      (¬ wrong → ¬ busy → ¬ double → x.display = .down →
        exec (.rowSetup body) s = .next ⟨
          (d.setRow r { x with rowUnit := u, cause := cause, shown := none, shownSlot := none, missed := 0 }).setChannel
            (replied 0x25 0x00 [] d.channel), s.pending⟩) ∧
      (¬ wrong → ¬ busy → ¬ double → x.display = .faulted → x.rowUnit ≠ none →
        ∃ t, exec (.rowSetup body) s = .next t ∧ t.pending = s.pending ∧
          t.device.channel.link = (replied 0x25 0x00 [] d.channel).link ∧
          t.device.row r = { (enterDown r cause d).row r with rowUnit := u, missed := 0 } ∧
          (∀ q, q ≠ r → t.device.row q = d.row q) ∧
          (cause ≠ .segmentOff → Notice.row r ∈ t.device.notices) ∧
          (∀ n, n ∈ t.device.notices ↔ n ∈ (enterDown r cause d).notices) ∧
          (∀ g, t.device.segment g = { d.segment g with
            queue := if x.rowUnit.any (fun u => u.segment == g) then (d.segment g).queue.filter (fun q => q ≠ r)
              else (d.segment g).queue }) ∧
          t.device.channel.settle = (if 0 < x.owed then d.reportNotShown else d).channel.settle ∧
          ChangesOnly [.link, .settle, .notices, .rows, .segments] d t.device))

/-- R91 and R95 hold after every step that finds them, with the frames in hand as R112 and R124 have them: a row is in its
segment's repaint queue exactly when it is QUEUED, once. -/
def Obligations.EveryStepKeepsTheQueuesSound : Prop :=
  ∀ s t : State, step s = .next t → QueuesSound s.device → LinesSound s.device → QueuesSound t.device

/-- R96, R109 and R124: no step brings the rows of a segment in MOVING, SENDING, PATTERN-SENT and TURNING past its motion
limit, and the frames in hand and the exercise lists stay as R112 and R124 have them. -/
def Obligations.EveryStepKeepsTheMotionLimit : Prop :=
  ∀ s t : State, step s = .next t → QueuesSound s.device → LinesSound s.device → MotionSound s.device →
    LinesSound t.device ∧ MotionSound t.device

/-! ## The terminal lines -/

/-- LINE_SETUP (R131, R132), LINE_PRESENT_RISE and LINE_PRESENT_FALL (R133): the settings written, the line put in service
or out of it, what it loses, the full redraw handed over, the TERMINAL notice, and the service output, which is off in
DISABLED alone. A line that leaves service has an idle receiver even after a break (log 21); a rise of a line-present that is
high and a fall of one that is low change nothing (the model's choice, log 4). -/
def Obligations.LinesFollowSetupAndPresence : Prop :=
  ∀ (s : State) (l : LineNo),
    let d := s.device
    let x := d.terminal l
    let redrawn (d1 : Device) (x' : Terminal) : Device :=
      roomEvent l ((d1.setTerminal l x').modDealer l (fun y => { y with redrawOwed := true }))
    (∀ (body : List Byte) (f : LineFields), takesRequest 0x30 body d = true → readLineSetup body = .ok f → f.line = l →
      let x' : Terminal := { x with
        rate := f.rate.getD x.rate, format := f.format.getD x.format,
        receiver := if x.receiver = .assembling then .idle else x.receiver }
      let data (code : Byte) : List Byte :=
        wordBytes (baud x'.rate) ++ [formatCode x'.format, code, if x.present then 1 else 0]
      (x.state = .loopback →
        exec (.lineSetup body) s = .next ⟨d.setChannel (replied 0x30 0x09 [] d.channel), s.pending⟩) ∧
      (x.state ≠ .loopback → f.enable = none ∨ (f.enable = some true ∧ x.state ≠ .disabled) ∨
          (f.enable = some false ∧ x.state = .disabled) →
        exec (.lineSetup body) s = .next
          ⟨(d.setTerminal l x').setChannel (replied 0x30 0x00 (data (termStateCode x.state)) d.channel), s.pending⟩) ∧
      (f.enable = some true → x.state = .disabled → x.present = false →
        exec (.lineSetup body) s = .next
          ⟨(d.setTerminal l { x' with state := .absent }).setChannel (replied 0x30 0x00 (data 1) d.channel), s.pending⟩) ∧
      (f.enable = some true → x.state = .disabled → x.present = true →
        ∃ t, exec (.lineSetup body) s = .next t ∧ t.pending = s.pending ∧
          t.device = (redrawn (beginWork 0x30 body d) { x' with state := .active }).setChannel
            (replied 0x30 0x00 (data 2) d.channel) ∧
          WrittenOnly { x' with state := .active } (t.device.terminal l) ∧
          ChangesOnly [.link, .terminals, .dealers] d t.device) ∧
      (f.enable = some false → x.state = .absent ∨ x.state = .active →
        ∃ t, exec (.lineSetup body) s = .next t ∧ t.pending = s.pending ∧
          t.device.channel = replied 0x30 0x00 (data 0) d.channel ∧
          t.device.terminal l = { emptied x' with state := .disabled } ∧
          (t.device.terminal l).serviceOutput = false ∧
          t.device.dealer l = { d.dealer l with alerts := [] } ∧
          (∀ k, k ≠ l → t.device.terminal k = d.terminal k ∧ t.device.dealer k = d.dealer k) ∧
          ChangesOnly [.link, .terminals, .dealers] d t.device)) ∧
    (x.present = false → x.state = .disabled →
      exec (.linePresentRise l) s = .next ⟨d.setTerminal l { x with present := true }, s.pending⟩) ∧
    (x.present = false → x.state = .absent →
      exec (.linePresentRise l) s =
        .next ⟨(redrawn d { x with present := true, state := .active }).raise (.terminal l), s.pending⟩) ∧
    (x.present = false → x.state = .loopback →
      exec (.linePresentRise l) s = .next
        ⟨(redrawn d { x with
          present := true, state := .active, test := none, testResult := .abandoned, receiver := .idle }).raise
            (.terminal l), s.pending⟩) ∧
    (x.present = true → exec (.linePresentRise l) s = .next s) ∧
    (x.present = true → x.state = .disabled →
      exec (.linePresentFall l) s = .next ⟨d.setTerminal l { x with present := false }, s.pending⟩) ∧
    (x.present = true → x.state = .active ∨ x.state = .loopback →
      ∃ t, exec (.linePresentFall l) s = .next t ∧ t.pending = s.pending ∧
        t.device.terminal l = { emptied x with
          state := .absent, present := false,
          testResult := if x.state = .loopback then .abandoned else x.testResult } ∧
        (t.device.terminal l).serviceOutput = true ∧
        t.device.dealer l = { d.dealer l with alerts := [] } ∧
        (∀ k, k ≠ l → t.device.terminal k = d.terminal k ∧ t.device.dealer k = d.dealer k) ∧
        Notice.terminal l ∈ t.device.notices ∧ ChangesOnly [.terminals, .dealers, .notices] d t.device) ∧
    (x.present = false → exec (.linePresentFall l) s = .next s) ∧
    (x.serviceOutput = true ↔ x.state = .absent ∨ x.state = .active ∨ x.state = .loopback)

/-- GOOD_CHARACTER, LINE_ERROR, BREAK and WIRE_RETURNS_TO_MARK on an ACTIVE line (R134 to R137): the input line, the echo and
the submission by the character's value; a line that does not take characters is left as it is: in DISABLED and ABSENT, after
a break, in ACTIVE by a character of a test that has ended (R143), and in LOOPBACK by a character of the wire (R131, R141). That
WIRE_RETURNS_TO_MARK, which carries no source, ends the wait in LOOPBACK too is the model's choice (log 34). -/
def Obligations.ReceivedCharactersActByTheirValue : Prop :=
  (∀ (s : State) (l : LineNo) (c : Byte),
    let d := s.device
    let x := d.terminal l
    let taking := x.state = .active ∧ x.receiver ≠ .afterBreak
    let carried := x.format = .none8 ∨ c.toNat ≤ 127
    let out (d' : Device) : Host.Outcome State Fault Refusal := .next ⟨roomEvent l d', s.pending⟩
    let cleared : Terminal := { x with input := [], errored := false }
    let submitted := offerEcho l [0x10, 0x58, 0x41, 0x10, 0x45] (d.setTerminal l cleared)
    (∀ src, x.state = .disabled ∨ x.state = .absent ∨ x.receiver = .afterBreak ∨ (x.state = .active ∧ src = .loop) ∨
        (x.state = .loopback ∧ src = .wire) →
      exec (.goodCharacter ⟨l, src⟩ c) s = .next s ∧ exec (.breakReceived ⟨l, src⟩) s = .next s ∧
      ∀ k, exec (.lineError ⟨l, src⟩ k) s = .next s) ∧
    (taking → carried →
      (0x20 ≤ c.toNat → c.toNat ≤ 0x7E → x.input.length < 40 →
        exec (.goodCharacter ⟨l, .wire⟩ c) s = out (offerEcho l [c] (d.setTerminal l { x with input := x.input ++ [c] }))) ∧
      (0x20 ≤ c.toNat → c.toNat ≤ 0x7E → 40 ≤ x.input.length →
        exec (.goodCharacter ⟨l, .wire⟩ c) s = out (offerEcho l [0x07] d)) ∧
      (c = 0x08 ∨ c = 0x7F → x.input ≠ [] →
        exec (.goodCharacter ⟨l, .wire⟩ c) s =
          out (offerEcho l [0x08, 0x20, 0x08] (d.setTerminal l { x with input := x.input.dropLast }))) ∧
      (c = 0x08 ∨ c = 0x7F → x.input = [] → exec (.goodCharacter ⟨l, .wire⟩ c) s = out (offerEcho l [0x07] d)) ∧
      (c = 0x0D → x.reply ≠ none → exec (.goodCharacter ⟨l, .wire⟩ c) s = out (offerEcho l [0x07] d)) ∧
      (c = 0x0D → x.reply = none → x.errored = true →
        exec (.goodCharacter ⟨l, .wire⟩ c) s =
          out (submitted.modTerminal l (fun y => { y with reply := some (txt ['?', 'L', 'I', 'N', 'E']) }))) ∧
      (c = 0x0D → x.reply = none → x.errored = false → x.input = [] →
        exec (.goodCharacter ⟨l, .wire⟩ c) s = out submitted) ∧
      (c = 0x0D → x.reply = none → x.errored = false → x.input ≠ [] →
        let r := interpretLine l x.input submitted
        exec (.goodCharacter ⟨l, .wire⟩ c) s = out (r.1.modTerminal l (fun y => { y with reply := some r.2 }))) ∧
      ((c.toNat < 0x20 ∧ c ≠ 0x08 ∧ c ≠ 0x0D) ∨ 0x7F < c.toNat → exec (.goodCharacter ⟨l, .wire⟩ c) s = .next s)) ∧
    (taking → exec (.breakReceived ⟨l, .wire⟩) s =
      out ((d.setTerminal l { x with receiver := .afterBreak, input := [], errored := false }).modDealer l
        (fun y => { y with redrawOwed := true }))) ∧
    (∀ k, taking → (k = .parity → x.format ≠ .none8) →
      exec (.lineError ⟨l, .wire⟩ k) s = out (offerEcho l [0x3F] (d.setTerminal l { x with errored := true }))) ∧
    (x.receiver = .afterBreak →
      exec (.wireReturnsToMark l) s = .next ⟨d.setTerminal l { x with receiver := .idle }, s.pending⟩) ∧
    (x.receiver ≠ .afterBreak → exec (.wireReturnsToMark l) s = .next s)) ∧
  ∀ (d : Device) (l : LineNo) (e : Text),
    let x := d.terminal l
    offerEcho l e d = if x.queue.length + e.length ≤ 512 ∨ e = [] then d.setTerminal l { x with queue := x.queue ++ e } else d

/-- Items enter whole, by priority, with their texts (R138, R139, R140, R146, R153, R158): the first item found waiting, from
priority 2 down, enters when it fits, and otherwise none does; after a room event no waiting item fits, and an idle
transmitter has found the queue empty. -/
def Obligations.ItemsEnterByPriority : Prop :=
  ∀ (d : Device) (l : LineNo),
    let x := d.terminal l
    let y := d.dealer l
    let room := 512 - x.queue.length
    let enters (need : Nat) (item : Text) (after : Terminal → Terminal) (y' : Dealer → Prop) : Prop :=
      (room < need → roomStep l d = none) ∧
      (need ≤ room → ∃ d', roomStep l d = some d' ∧ d'.terminal l = after { x with queue := x.queue ++ item } ∧
        y' (d'.dealer l) ∧ (∀ k, k ≠ l → d'.terminal k = d.terminal k ∧ d'.dealer k = d.dealer k) ∧
        ChangesOnly [.terminals, .dealers] d d')
    let textItem (t : Text) : Text := [0x10, 0x56, 0x41] ++ t ++ [0x10, 0x45] ++ returnTo x
    let head : Text := match y.ringNewest with
      | some n => [0x10, byte (n + 0x40), 0x41, 0x20]
      | none => []
    let told (a : Alert) : Text := match a with
      | .ended symbol => txt ['W', 'A', 'T', 'C', 'H', ' ', 'E', 'N', 'D', 'E', 'D', ' '] ++ symbol
      | .watch i c =>
        let z := d.slot i
        let threshold : Price :=
          (d.watches.find? (fun w => w.terminal == l && w.slot == i && w.cond == c)).bind (·.threshold)
        fieldText z false .symbol 7 ++ [0x20] ++ priceField z.last z.e 13 ++ [0x20] ++
          (if c = .any then txt ['T', 'R', 'A', 'D', 'E']
          else conditionSign c ++ [0x20] ++ priceField threshold z.e 13)
    let alerted (a : Alert) : Text :=
      head ++ [0x10, byte (y.ringNext + 0x40), 0x41, 0x3E] ++ told a ++ [0x10, 0x45] ++ returnTo x
    let place (p : PageNo) : Text := [0x10, byte (2 + p.val + 0x40), 0x41]
    let pageLine (p : PageNo) : Text := place p ++
      (match y.entry p with
        | some i =>
          let column (k : FieldKind) (w : Nat) : Text := fieldText (d.slot i) false k w
          column .symbol 7 ++ column .last 10 ++ column .change 10 ++ column .bid 9 ++ [0x2F] ++ column .ask 9 ++
            column .volume 9
        | none => []) ++ [0x10, 0x45] ++ returnTo x
    (y.redrawOwed = true → enters 5 ([0x10, 0x43] ++ returnTo x) id (fun z =>
      z.redrawOwed = false ∧ z.ringNext = 12 ∧ z.ringNewest = none ∧ (∀ p, z.marked p = true) ∧
      z.page = y.page ∧ z.alerts = y.alerts ∧ z.forward = y.forward)) ∧
    (y.redrawOwed = false → ∀ r, x.reply = some r →
      enters (r.length + 8) (textItem r) (fun z => { z with reply := none }) (fun z => z = y)) ∧
    (y.redrawOwed = false → x.reply = none → ∀ r, x.hostText = some r →
      enters (r.length + 8) (textItem r) (fun z => { z with hostText := none }) (fun z => z = y)) ∧
    (y.redrawOwed = false → x.reply = none → x.hostText = none → ∀ a rest, y.alerts = a :: rest →
      enters (alerted a).length (alerted a) id (fun z => z = { y with
        alerts := rest, ringNewest := some y.ringNext, ringNext := if y.ringNext = 19 then 12 else y.ringNext + 1 })) ∧
    (y.redrawOwed = false → x.reply = none → x.hostText = none → y.alerts = [] → ∀ p, y.marked p = true →
      (∀ q, q < p → y.marked q = false) →
      enters 96 (pageLine p) id (fun z =>
        z.marked p = false ∧ (∀ q, q ≠ p → z.marked q = y.marked q) ∧ z = { y with marks := z.marks })) ∧
    (y.redrawOwed = false → x.reply = none → x.hostText = none → y.alerts = [] → (∀ p, y.marked p = false) →
      roomStep l d = none) ∧
    (x.state = .active →
      roomStep l (roomEvent l d) = none ∧
      (((roomEvent l d).terminal l).transmitter = none → ((roomEvent l d).terminal l).queue = []) ∧
      WrittenOnly x ((roomEvent l d).terminal l)) ∧
    (x.state ≠ .active → roomEvent l d = d)

/-- TERMINAL_TEXT (R140) and TERMINAL_CHARACTER_SENT (R138, R141): the text waits in its slot for room and the reply tells
the free space; the transmitter is idle again and, on an ACTIVE line, the room event gives it the next character. LINE_TEST
and WAIT_TIMER_EXPIRY (R141): the test's text goes round the loop, with the wire at mark, and the received characters are
compared. The model's own: the free space is read after the room event (log 16), a character that comes from the loop is not
held to the number of characters started (log 22), the receiver is idle at the start and at the end of a test, even after a
break (log 21), and an idle transmitter's event and the expiry of a stopped wait timer do nothing (log 4). -/
def Obligations.TextsAndTestsUseTheLine : Prop :=
  ∀ (s : State) (l : LineNo),
    let d := s.device
    let x := d.terminal l
    let refused (kind status : Byte) : Host.Outcome State Fault Refusal :=
      .next ⟨d.setChannel (replied kind status [] d.channel), s.pending⟩
    let started (y : Terminal) (c : Byte) : Option Sending :=
      some ⟨if y.format = .none8 then c else c &&& 0x7F, y.format, y.rate, true⟩
    (∀ body text, takesRequest 0x31 body d = true → readTerminalText body = .ok (l, text) →
      (x.state = .disabled ∨ x.state = .absent → exec (.terminalText body) s = refused 0x31 0x07) ∧
      (x.state = .active ∨ x.state = .loopback → x.hostText ≠ none → exec (.terminalText body) s = refused 0x31 0x09) ∧
      (x.state = .active ∨ x.state = .loopback → x.hostText = none →
        let d1 := roomEvent l ((beginWork 0x31 body d).setTerminal l { x with hostText := some text })
        let channel := replied 0x31 0x00 (wordBytes (512 - (d1.terminal l).queue.length)) d.channel
        exec (.terminalText body) s = .next ⟨d1.setChannel channel, s.pending⟩)) ∧
    (x.transmitter = none → exec (.terminalCharacterSent l) s = .next s) ∧
    (x.transmitter ≠ none → x.state = .active →
      exec (.terminalCharacterSent l) s = .next ⟨roomEvent l (d.setTerminal l { x with transmitter := none }), s.pending⟩) ∧
    (x.transmitter ≠ none → x.state = .disabled ∨ x.state = .absent →
      exec (.terminalCharacterSent l) s = .next ⟨d.setTerminal l { x with transmitter := none }, s.pending⟩) ∧
    (∀ test c, x.transmitter ≠ none → x.state = .loopback → x.test = some test → test.text[test.started]? = some c →
      ∃ t, exec (.terminalCharacterSent l) s = .next t ∧ t.pending = s.pending ∧
        t.device.terminal l = { x with
          transmitter := started x c, test := some { test with started := test.started + 1 } } ∧
        (t.device.terminal l).onWire = none ∧
        (∀ k, k ≠ l → t.device.terminal k = d.terminal k) ∧ ChangesOnly [.terminals] d t.device) ∧
    (∀ test, x.transmitter ≠ none → x.state = .loopback → x.test = some test → test.text.length ≤ test.started →
      test.wait = .stopped →
      ∃ t, exec (.terminalCharacterSent l) s = .next t ∧ t.pending = s.pending ∧
        t.device.terminal l = { x with transmitter := none, test := some { test with wait := .running 100 } } ∧
        (∀ k, k ≠ l → t.device.terminal k = d.terminal k) ∧ ChangesOnly [.terminals] d t.device) ∧
    (∀ body text, takesRequest 0x32 body d = true → readLineTest body = .ok (l, text) →
      let fits := x.format = .none8 ∨ ∀ c ∈ text, c.toNat ≤ 127
      (x.state = .loopback → exec (.lineTest body) s = refused 0x32 0x09) ∧
      (x.state = .disabled → exec (.lineTest body) s = refused 0x32 0x07) ∧
      (x.state = .absent ∨ x.state = .active → ¬ fits → exec (.lineTest body) s = refused 0x32 0x03) ∧
      (∀ c rest, x.state = .absent ∨ x.state = .active → fits → text = c :: rest →
        ∃ t, exec (.lineTest body) s = .next t ∧ t.pending = s.pending ∧
          t.device.channel = replied 0x32 0x00 [] d.channel ∧
          t.device.terminal l = { x with
            state := .loopback, receiver := .idle, testResult := .none,
            test := some ⟨x.state, text, [], if x.transmitter = none then 1 else 0, .stopped⟩,
            transmitter := if x.transmitter = none then started x c else x.transmitter } ∧
          (x.transmitter = none → (t.device.terminal l).onWire = none) ∧
          (∀ k, k ≠ l → t.device.terminal k = d.terminal k) ∧ ChangesOnly [.link, .terminals] d t.device)) ∧
    ∀ test, x.state = .loopback → x.test = some test →
      let outcome (got : List Received) : TestResult :=
        match (List.range test.text.length).find? (fun k => got[k]? != (test.text[k]?).map Received.good) with
        | none => .matched
        | some k => .mismatch k
          ⟨(List.range got.length).any (fun j => match test.text[j]?, got[j]? with
              | some a, some (.good b) => a != b
              | _, _ => false),
            got.contains .parity, got.contains .framing, decide (got.length < test.text.length)⟩
      let finished (y : Terminal) (got : List Received) : Device :=
        roomEvent l ((d.setTerminal l { y with
          state := test.prior, receiver := .idle, test := none, testResult := outcome got }).raise (.terminal l))
      let received (c : Instr) (y : Terminal) (a : Received) : Prop :=
        (test.received.length + 1 < test.text.length → exec c s =
          .next ⟨d.setTerminal l { y with test := some { test with received := test.received ++ [a] } }, s.pending⟩) ∧
        (test.text.length ≤ test.received.length + 1 →
          exec c s = .next ⟨finished y (test.received ++ [a]), s.pending⟩)
      (x.receiver ≠ .afterBreak →
        (∀ c, x.format = .none8 ∨ c.toNat ≤ 127 → received (.goodCharacter ⟨l, .loop⟩ c) x (.good c)) ∧
        (x.format ≠ .none8 → received (.lineError ⟨l, .loop⟩ .parity) x .parity) ∧
        received (.lineError ⟨l, .loop⟩ .framing) x .framing ∧
        received (.breakReceived ⟨l, .loop⟩) { x with receiver := .afterBreak } .framing) ∧
      (∀ n, test.wait = .running n →
        exec (.waitTimerExpiry l) s = .next ⟨finished x test.received, s.pending⟩) ∧
      (test.wait = .stopped → exec (.waitTimerExpiry l) s = .next s)

/-! ## The dealer service -/

/-- DEALER_QUOTE, SET_A_WATCH, REMOVE_WATCHES, SET_THE_PAGE, FORWARD_A_TEXT and UNKNOWN_COMMAND (R147 to R152): the checks in
their order, what an accepted command changes, and the reply that is placed in the reply slot; a refused command changes no
part of the service. A line that its terminal cannot submit is no event (log 11). That a text to forward with a double or a
trailing blank is ?CMD, and that what stands after the condition's blank, a blank too many among it, is the price that is
read, is the model's reading (log 13). That one room event follows a command and its reply, so that the
reply enters before the page lines a P marks, is the model's choice (log 33). -/
def Obligations.DealerCommandsChangeAndAnswer : Prop :=
  ∀ (s : State) (l : LineNo),
    let d := s.device
    let answered (d' : Device) (reply : Text) : Host.Outcome State Fault Refusal :=
      .next ⟨roomEvent l (d'.modTerminal l (fun x => { x with reply := some reply })), s.pending⟩
    let can (line : Text) : Prop :=
      (d.terminal l).state = .active ∧ (d.terminal l).reply = none ∧ line ≠ [] ∧ line.length ≤ 40 ∧
      ∀ c ∈ line, 0x20 ≤ c.toNat ∧ c.toNat ≤ 0x7E
    let cmd := txt ['?', 'C', 'M', 'D']
    let sym := txt ['?', 'S', 'Y', 'M']
    (∀ rest, can (0x51 :: 0x20 :: rest) →
      (symbolOk rest = false → exec (.dealerQuote l rest) s = answered d cmd) ∧
      (symbolOk rest = true → lookup d rest = none → exec (.dealerQuote l rest) s = answered d sym) ∧
      (∀ i, symbolOk rest = true → lookup d rest = some i →
        let x := d.slot i
        let column (k : FieldKind) (w : Nat) : Text := fieldText x false k w
        exec (.dealerQuote l rest) s = answered d
          (column .symbol 7 ++ column .last 10 ++ column .change 10 ++ column .bid 9 ++ [0x2F] ++ column .ask 9 ++
            column .volume 9 ++ column .high 10 ++ column .low 10 ++ [0x20] ++
            (match x.state with
              | .listed => txt ['P', 'R', 'E']
              | .trading => txt ['T', 'R', 'D']
              | .halted => txt ['H', 'L', 'T']
              | _ => [0x20, 0x20, 0x20])))) ∧
    (∀ rest name c p, can (0x57 :: 0x20 :: rest) → 0x20 ∉ name →
      ((rest = name ++ txt [' ', '*'] ∧ c = .any ∧ p = none) ∨
        ∃ price, p = some price ∧ c ≠ .any ∧ rest = name ++ [0x20] ++ conditionSign c ++ [0x20] ++ price ∧ price ≠ [] ∧
          price.getLast? ≠ some 0x20) →
      let threshold := match p with
        | none => some none
        | some price => (readPrice price).map some
      (symbolOk name = false → exec (.setAWatch l rest) s = answered d cmd) ∧
      (symbolOk name = true → lookup d name = none → exec (.setAWatch l rest) s = answered d sym) ∧
      (∀ i, symbolOk name = true → lookup d name = some i → threshold = none →
        exec (.setAWatch l rest) s = answered d (txt ['?', 'P', 'R', 'I', 'C', 'E'])) ∧
      (∀ i q, symbolOk name = true → lookup d name = some i → threshold = some q →
        let held := ∃ w ∈ d.watches, w.terminal = l ∧ w.slot = i ∧ w.cond = c
        let full := 8 ≤ (d.watches.filter (fun w => w.terminal = l)).length ∨ 128 ≤ d.watches.length
        (held → exec (.setAWatch l rest) s = answered d (txt ['?', 'D', 'U', 'P'])) ∧
        (¬ held → full → exec (.setAWatch l rest) s = answered d (txt ['?', 'F', 'U', 'L', 'L'])) ∧
        (¬ held → ¬ full → exec (.setAWatch l rest) s =
          answered (d.setWatches (d.watches ++ [⟨l, i, c, q, .armed⟩]))
            (txt ['W', 'A', 'T', 'C', 'H', ' ', 'S', 'E', 'T'])))) ∧
    (∀ rest, can (0x57 :: 0x20 :: rest) → readWatchLine rest = none → exec (.setAWatch l rest) s = answered d cmd) ∧
    (∀ rest name c, can (0x58 :: 0x20 :: rest) → 0x20 ∉ name →
      ((rest = name ∧ c = none) ∨ ∃ k, c = some k ∧ rest = name ++ [0x20] ++ conditionSign k) →
      (symbolOk name = false → exec (.removeWatches l rest) s = answered d cmd) ∧
      (symbolOk name = true → lookup d name = none → exec (.removeWatches l rest) s = answered d sym) ∧
      (∀ i, symbolOk name = true → lookup d name = some i →
        let names (w : Watch) : Bool := w.terminal == l && w.slot == i && (c == none || c == some w.cond)
        (d.watches.filter names = [] →
          exec (.removeWatches l rest) s = answered d (txt ['?', 'N', 'O', 'N', 'E'])) ∧
        (d.watches.filter names ≠ [] → ∃ d',
          exec (.removeWatches l rest) s = answered d' (txt ['W', 'A', 'T', 'C', 'H', ' ', 'O', 'F', 'F']) ∧
          d'.watches = d.watches.filter (fun w => !names w) ∧
          d'.dealer l = { d.dealer l with
            alerts := (d.dealer l).alerts.filter (fun a =>
              !(d.watches.filter names).any (fun w => a == .watch w.slot w.cond)) } ∧
          (∀ k, k ≠ l → d'.dealer k = d.dealer k) ∧ ChangesOnly [.watches, .dealers] d d'))) ∧
    (∀ rest, can (0x58 :: 0x20 :: rest) → readRemoveLine rest = none → exec (.removeWatches l rest) s = answered d cmd) ∧
    (∀ rest slots, can (pageLine rest) →
      ((rest = none ∧ slots = []) ∨
        ∃ text, rest = some text ∧ (parts text).length ≤ 8 ∧ (parts text).all symbolOk = true ∧
          (parts text).map (lookup d) = slots.map some) →
      ∃ d', exec (.setThePage l rest) s = answered d' (txt ['P', 'A', 'G', 'E', ' ', 'S', 'E', 'T']) ∧
        (∀ p, (d'.dealer l).entry p = slots[p.val]? ∧ (d'.dealer l).marked p = true) ∧
        d'.dealer l = { d.dealer l with page := (d'.dealer l).page, marks := (d'.dealer l).marks } ∧
        (∀ k, k ≠ l → d'.dealer k = d.dealer k) ∧ ChangesOnly [.dealers] d d') ∧
    (∀ text, can (pageLine (some text)) →
      (8 < (parts text).length ∨ (parts text).all symbolOk = false →
        exec (.setThePage l (some text)) s = answered d cmd) ∧
      ((parts text).length ≤ 8 → (parts text).all symbolOk = true → (∃ y ∈ parts text, lookup d y = none) →
        exec (.setThePage l (some text)) s = answered d sym)) ∧
    (∀ text, can (0x3E :: text) →
      let malformed := text = [] ∨ text.getLast? = some 0x20 ∨ doubleBlank text = true
      (malformed → exec (.forwardAText l text) s = answered d cmd) ∧
      (¬ malformed → (d.dealer l).forward ≠ [] →
        exec (.forwardAText l text) s = answered d (txt ['?', 'W', 'A', 'I', 'T'])) ∧
      (¬ malformed → (d.dealer l).forward = [] →
        exec (.forwardAText l text) s =
          answered ((d.setDealer l { d.dealer l with forward := text }).raise (.terminal l)) (txt ['S', 'E', 'N', 'T']))) ∧
    (∀ a rest, can (a :: rest) → a ∉ [(0x51 : Byte), 0x57, 0x58, 0x50, 0x3E] →
      exec (.unknownCommand l (a :: rest)) s = answered d cmd) ∧
    (∀ line, can line → (interpretLine l line d).2 = cmd → exec (.unknownCommand l line) s = answered d cmd) ∧
    (∀ rest, ¬ can (0x51 :: 0x20 :: rest) → exec (.dealerQuote l rest) s = .next s) ∧
    (∀ rest, ¬ can (0x57 :: 0x20 :: rest) → exec (.setAWatch l rest) s = .next s) ∧
    (∀ rest, ¬ can (0x58 :: 0x20 :: rest) → exec (.removeWatches l rest) s = .next s) ∧
    (∀ rest, ¬ can (pageLine rest) → exec (.setThePage l rest) s = .next s) ∧
    (∀ text, ¬ can (0x3E :: text) → exec (.forwardAText l text) s = .next s) ∧
    (∀ line, ¬ can line ∨ (interpretLine l line d).2 ≠ cmd → exec (.unknownCommand l line) s = .next s)

/-- An evaluation of the watches on a slot (R155, R157): an ARMED watch whose condition holds fires and, unless its condition
is ANY, becomes FIRED; a FIRED one whose condition no longer holds is ARMED again; the alerts of a terminal in service are
appended in the order ABOVE, BELOW, EQUAL, ANY, each that does not wait already; an absent last changes nothing. -/
def Obligations.EvaluationFiresAndRearmsWatches : Prop :=
  ∀ (d : Device) (i : Slot) (last : Nat), WatchesSound d →
    let d' := evaluateWatches i (some last) d
    let meets (w : Watch) : Bool := match w.cond, w.threshold with
      | .any, _ => true
      | .above, some p => decide (p ≤ last)
      | .below, some p => decide (last ≤ p)
      | .equal, some p => decide (last = p)
      | _, none => false
    let fired (l : LineNo) : List Alert := [Condition.above, .below, .equal, .any].filterMap (fun c =>
      if d.watches.any (fun w => w.terminal = l && w.slot = i && w.cond = c && w.state == .armed && meets w) then
        some (.watch i c)
      else none)
    let listed (l : LineNo) : List Alert :=
      (d.dealer l).alerts ++ (fired l).filter (fun a => !(d.dealer l).alerts.contains a)
    evaluateWatches i none d = d ∧
    d'.watches = d.watches.map (fun w =>
      if w.slot = i then { w with state := if meets w && w.cond != .any then .fired else .armed } else w) ∧
    (∀ l, (d.terminal l).state = .loopback → (d'.dealer l).alerts = listed l) ∧
    (∀ l, (d.terminal l).state = .active → ∃ n, (d'.dealer l).alerts = (listed l).drop n) ∧
    (∀ l, (d.terminal l).state = .disabled ∨ (d.terminal l).state = .absent → (d'.dealer l).alerts = (d.dealer l).alerts) ∧
    (∀ l, WrittenOnly (d.terminal l) (d'.terminal l)) ∧ ChangesOnly [.watches, .terminals, .dealers] d d'

/-- R130, R138, R154, R155 and R157: every step keeps the pool of watches, the alert lists, the output queues and the input
lines within their limits, and a watch of condition ANY ARMED. So too the notice set keeps the order of R171, each flag once
(R170), and every table its canonical form (the model's own, log 1). -/
def Obligations.EveryStepKeepsWatchesAndScreensSound : Prop :=
  ∀ s t : State, step s = .next t → (WatchesSound s.device → WatchesSound t.device) ∧
    (ScreensSound s.device → ScreensSound t.device) ∧ (NoticesSound s.device → NoticesSound t.device) ∧
    (TablesSound s.device → TablesSound t.device)

/-! ## Notices, settling and RESTART -/

/-- COLLECT (R171; the contents of R55, R81, R126, R127, R142, R173, R177): the flag first in the order is cleared, by
kind ROW, SEGMENT, RIBBON, TAPE, TERMINAL, SETTLED, CHANNEL and within a kind the lowest object number, and the reply
carries its kind, its object and its content, read from the object as it stands; with no flag set it is NONE. The fault-
cell byte is the held value in every display state (log 17), and the position and kinds bytes are 0 unless the test result
is MISMATCH (log 18): the model's readings. -/
def Obligations.CollectTakesTheFirstNotice : Prop :=
  ∀ s : State, takesRequest 0x40 [] s.device = true →
    let d := s.device
    let content (n : Notice) : List Byte := match n with
      | .row r =>
        let x := d.row r
        [displayCode x.display, if x.display = .down ∨ x.display = .faulted then causeCode x.cause else 0,
          byte x.faultCell] ++
        (match x.rowUnit with
          | some u => [byte u.segment.val, byte u.address.val]
          | none => [0xFF, 0x00]) ++
        (match x.binding with
          | some i => wordBytes i.val
          | none => [0xFF, 0xFF]) ++
        [byte x.missed, ((exerciseStep d r).map exerciseStepCode).getD 0]
      | .segment g =>
        let x := d.segment g
        [segmentStateCode x.state, byte x.stepPeriod, byte x.settleTime, byte x.motionLimit, byte x.hold,
          byte x.result.listed, byte x.result.passed, byte x.result.failed]
      | .ribbon r =>
        let x := d.ribbon r
        let waiting := (d.tape.entries.filter (fun y => r ∈ y.pending && x.current != some y.id)).length
        [ribbonStateCode x.state, levelCode x.level] ++ wordBytes x.backlog ++
          wordBytes (x.backlog * 100 / x.normalRate) ++ wordBytes waiting ++ [byte x.lockGroup.val] ++
          wordBytes x.normalRate ++ wordBytes x.fastRate
      | .tape =>
        let counts := d.tape.entries.map (fun y => match y.body with
          | .gap n => n
          | _ => 0)
        wordBytes d.tape.entries.length ++ wordBytes (d.tape.entries.filter (fun y => y.body.isGap)).length ++
          wordBytes (min counts.sum 65535) ++
          [if d.tape.entries.getLast?.any (fun y => y.body.isGap) then 1 else 0]
      | .terminal l =>
        let x := d.terminal l
        [termStateCode x.state, if x.present then 1 else 0] ++ wordBytes (baud x.rate) ++
          [formatCode x.format, testResultCode x.testResult] ++
          (match x.testResult with
            | .mismatch k e => [byte k, byte ((if e.value then 1 else 0) + (if e.parity then 2 else 0) +
              (if e.framing then 4 else 0) + (if e.missing then 8 else 0))]
            | _ => [0, 0]) ++
          wordBytes x.queue.length ++ [byte (d.dealer l).forward.length] ++ (d.dealer l).forward
      | .settled =>
        let x := d.channel.settle.result
        wordBytes x.rowsOwing ++ wordBytes x.rowsShown ++ wordBytes x.rowsNotShown ++
          [byte x.ribbonsWithTargets, byte x.ribbonsReached, byte x.ribbonsStopped]
      | .channel =>
        [byte d.channel.framesAbandoned, byte d.channel.repliesAbandoned, abandonCode d.channel.cause,
          d.channel.abandonedKind.getD 0]
    let named (n : Notice) : Nat × Nat := match n with
      | .row r => (1, r.val)
      | .segment g => (2, g.val)
      | .ribbon r => (3, r.val)
      | .tape => (4, 0)
      | .terminal l => (5, l.val)
      | .settled => (6, 0)
      | .channel => (7, 0)
    let first (n : Notice) : Prop := ∀ m ∈ d.notices,
      (named n).1 < (named m).1 ∨ ((named n).1 = (named m).1 ∧ (named n).2 ≤ (named m).2)
    let carries (n : Notice) : Bool := match n with
      | .terminal l => (d.dealer l).forward != []
      | _ => false
    (d.notices = [] →
      exec (.collect []) s = .next ⟨d.setChannel (replied 0x40 0x00 [0] d.channel), s.pending⟩) ∧
    (∀ n ∈ d.notices, first n →
      exec (.collect []) s = .next
        ⟨(d.setNotices (d.notices.filter (fun m => m ≠ n))).setChannel
          (repliedCollect (byte (named n).1 :: byte (named n).2 :: content n) n (carries n) d.channel), s.pending⟩)

/-- SETTLE (R82, R108, R175): refused BUSY while one is outstanding; else every row sets its owed count by its display state,
each RUNNING or DRAINING ribbon with a backlog gives its newest entry as target, and the record counts them; the reports and
the completion (R176, R177). -/
def Obligations.SettleCountsWhatIsOwed : Prop :=
  (∀ s : State, takesRequest 0x41 [] s.device = true →
    let d := s.device
    let owed (x : Row) : Nat := match x.display with
      | .queued => 1
      | .sending => if x.again then 2 else 1
      | .moving => if x.again then 2 else 1
      | _ => 0
    let rows := (everyRow.filter (fun r => owed (d.row r) != 0)).length
    let target (r : RibbonNo) : Option Nat :=
      let x := d.ribbon r
      if (x.state = .running ∨ x.state = .draining) ∧ x.backlog ≠ 0 then
        ((d.tape.entries.filter (fun y => r ∈ y.pending && x.current != some y.id)).getLast?).map (·.id)
      else none
    let targets := everyRibbon.filterMap (fun r => (target r).map (fun id => (r, id)))
    let none_ := rows = 0 ∧ targets = []
    let x := d.channel.settle
    (x.outstanding = true →
      exec (.settle []) s = .next ⟨d.setChannel (replied 0x41 0x09 [] d.channel), s.pending⟩) ∧
    (x.outstanding = false →
      ∃ t, exec (.settle []) s = .next t ∧ t.pending = s.pending ∧
        t.device.channel = replied 0x41 0x00 (wordBytes rows ++ [byte targets.length, if none_ then 1 else 0])
          { d.channel with
            settle := ⟨!decide none_, rows, rows, 0, 0, targets.length, targets, 0, 0,
              if none_ then ⟨0, 0, 0, 0, 0, 0⟩ else x.result⟩ } ∧
        (∀ r, t.device.row r = { d.row r with owed := owed (d.row r) }) ∧
        (none_ → Notice.settled ∈ t.device.notices) ∧ (¬ none_ → t.device.notices = d.notices) ∧
        ChangesOnly [.link, .settle, .rows, .notices] d t.device)) ∧
  ∀ d : Device,
    let x := d.channel.settle
    let reported (d' : Device) (y : Settle) : Prop :=
      let complete := y.rowsStillOwing = 0 ∧ y.unsettled = []
      d'.channel.settle = (if complete then
        { y with
          outstanding := false,
          result := ⟨y.rowsOwing, y.rowsShown, y.rowsNotShown, y.ribbonsWithTargets, y.ribbonsReached, y.ribbonsStopped⟩ }
        else y) ∧
      (complete → Notice.settled ∈ d'.notices) ∧ (¬ complete → d'.notices = d.notices) ∧
      ChangesOnly [.settle, .notices] d d'
    (x.outstanding = true →
      reported d.reportShown { x with rowsStillOwing := x.rowsStillOwing - 1, rowsShown := x.rowsShown + 1 } ∧
      reported d.reportNotShown { x with rowsStillOwing := x.rowsStillOwing - 1, rowsNotShown := x.rowsNotShown + 1 } ∧
      ∀ r id, (r, id) ∈ x.unsettled →
        reported (d.reportReached r id) { x with
          unsettled := x.unsettled.filter (fun p => p.1 ≠ r), ribbonsReached := x.ribbonsReached + 1 } ∧
        reported (d.reportStopped r) { x with
          unsettled := x.unsettled.filter (fun p => p.1 ≠ r), ribbonsStopped := x.ribbonsStopped + 1 }) ∧
    (x.outstanding = false → d.reportShown = d ∧ d.reportNotShown = d ∧
      ∀ r id, d.reportReached r id = d ∧ d.reportStopped r = d)

/-- RESTART (R28, R63, R84, R111, R129, R144, R161, R179): what every block keeps and what it gives up; no notice is left, and
no service output changes. The model's readings: the test result is kept (log 18), the receiver of an ACTIVE line is kept
(log 21), and the settle record keeps its counts without what is still owed (log 24). -/
def Obligations.RestartKeepsTheSettings : Prop :=
  ∀ s : State, takesRequest 0x42 [] s.device = true →
    let d := s.device
    ∃ t, exec (.restart []) s = .next t ∧ t.pending = s.pending ∧
      let e := t.device
      e.channel = replied 0x42 0x00 [] { d.channel with
        reservation := none, framesAbandoned := 0, repliesAbandoned := 0, cause := .none, abandonedKind := none,
        settle := { d.channel.settle with outstanding := false, rowsStillOwing := 0, unsettled := [] } } ∧
      e.notices = [] ∧ e.tape.entries = [] ∧
      (∀ i, e.slot i = if (d.slot i).state = .delisting then
        ⟨.free, [], 1, 0, 0, none, none, none, none, none, 0, 0, .none, 0, []⟩ else d.slot i) ∧
      (∀ r, e.ribbon r = { d.ribbon r with
        state := .stopped, acc := 0, level := .normal, backlog := 0, current := none, phase := .idle, text := [],
        pos := 0, markerOwed := false, lastShown := none }) ∧
      (∀ g, e.segment g = { d.segment g with
        state := if (d.segment g).state = .exercise then .active else (d.segment g).state, motionCounter := 0,
        queue := [], exerciseList := [] }) ∧
      (∀ g, e.line g = ⟨none, 0, .stopped, none, none⟩) ∧
      (∀ r, e.row r =
        if (d.row r).rowUnit.any (fun u => (d.segment u.segment).state != .disabled) then
          { Row.powerOn with
            rowUnit := (d.row r).rowUnit, binding := (d.row r).binding, layout := (d.row r).layout, cause := .unknown,
            faultCell := (d.row r).faultCell }
        else { d.row r with missed := 0, owed := 0, pollWait := .stopped }) ∧
      (∀ l,
        let x := d.terminal l
        let after := if x.state = .loopback then (if x.present then TermState.active else .absent) else x.state
        let x' : Terminal := { emptied x with
          state := after, receiver := if x.state = .loopback then .idle else x.receiver }
        WrittenOnly x' (e.terminal l) ∧ (after ≠ .active → e.terminal l = x') ∧
        (e.terminal l).serviceOutput = x.serviceOutput ∧
        (e.dealer l).alerts = [] ∧ (e.dealer l).forward = [] ∧ (e.dealer l).page = (d.dealer l).page ∧
        (after = .active → (e.dealer l).redrawOwed = false ∧ (e.dealer l).ringNext = 12 ∧
          (e.dealer l).ringNewest = none) ∧
        (after ≠ .active → e.dealer l = { d.dealer l with alerts := [], forward := [] })) ∧
      ChangesOnly [.link, .reservation, .settle, .notices, .slots, .tape, .ribbons, .segments, .lines, .rows,
        .terminals, .dealers] d e

/-! ## The bodies of the requests -/

/-- Which bodies the channel accepts, and as which fields (R168, R181): a reader answers fields exactly where they are in the
ranges their rules allow and the body is what a host writes for them by section 10.2, but for the bytes that no check reads:
the three of an absent price, and an item whose presence bit is clear. So every other body of an allowed length is refused
BAD-FIELD, and what a host writes reads back. -/
def Obligations.RequestBodiesReadBack : Prop :=
  let price (p : Price) : Prop := ∀ n, p = some n → n ≤ 16777215
  let alike (x y : List Byte) (unread : List Nat) : Prop :=
    x.length = y.length ∧ ∀ k, k ∉ unread → x[k]? = y[k]?
  let absent (p : Price) (k : Nat) : List Nat := if p = none then [k + 1, k + 2, k + 3] else []
  let given (p : Option Price) (k : Nat) : List Nat := match p with
    | none => [k, k + 1, k + 2, k + 3]
    | some p => absent p k
  let left {α : Type} (x : Option α) (l : List Nat) : List Nat := if x.isNone then l else []
  ∀ b : List Byte,
    (∀ i, readSlot b = .ok i ↔ b = slotBody i) ∧
    (∀ f, readList b = .ok f ↔ b = listBody f ∧ symbolOk f.symbol = true ∧ 1 ≤ f.e ∧ f.e ≤ 8 ∧ f.close ≤ 16777215) ∧
    (∀ f, readTrade b = .ok f ↔
      b = tradeItemBody f ∧ f.price ≤ 16777215 ∧ 1 ≤ f.shares ∧ f.shares ≤ 9999999) ∧
    (∀ l, readTradeBlock b = .ok l ↔ b = tradeBlockBody l ∧ 1 ≤ l.length ∧ l.length ≤ 16 ∧
      ∀ f ∈ l, f.price ≤ 16777215 ∧ 1 ≤ f.shares ∧ f.shares ≤ 9999999) ∧
    (∀ f, readQuote b = .ok f ↔
      alike b (quoteBody f) (absent f.bid 2 ++ absent f.ask 6) ∧ price f.bid ∧ price f.ask) ∧
    (∀ f, readSetState b = .ok f ↔ b = setStateBody f) ∧
    (∀ f, readFetch b = .ok f ↔ b = fetchBody f ∧ ∀ y, f.1 = .symbol y → symbolOk y = true) ∧
    (∀ f, readAmend b = .ok f ↔
      alike b (amendBody f) (given f.last 3 ++ given f.high 7 ++ given f.low 11 ++ left f.volume [15, 16, 17, 18] ++
        left f.close [19, 20, 21, 22]) ∧
      (∀ p, f.last = some p ∨ f.high = some p ∨ f.low = some p → price p) ∧ price f.close ∧
      ∀ n, f.volume = some n → n ≤ 999999999) ∧
    (readNothing b = .ok () ↔ b = []) ∧
    (∀ f, readBulletin b = .ok f ↔ b = bulletinBody f ∧ 1 ≤ f.1.toNat ∧ f.1.toNat ≤ 15 ∧ 1 ≤ f.2.length ∧
      f.2.length ≤ 60 ∧ ∀ c ∈ f.2, 0x20 ≤ c.toNat ∧ c.toNat ≤ 0x7E) ∧
    (∀ f, readRibbonSetup b = .ok f ↔
      alike b (ribbonSetupBody f) (left f.groupMask [2, 3] ++ left f.lockGroup [4] ++ left f.normalRate [5, 6] ++
        left f.fastRate [7, 8]) ∧
      ∀ n, f.normalRate = some n ∨ f.fastRate = some n → n ≤ 65535) ∧
    (∀ r, readRibbon b = .ok r ↔ b = [byte r.val]) ∧
    (∀ f, readRibbonStop b = .ok f ↔ b = ribbonStopBody f) ∧
    (∀ g, readAlign b = .ok g ↔ b = [byte g.val] ∧ g ≠ 0) ∧
    (∀ f, readSegmentSetup b = .ok f ↔
      alike b (segmentSetupBody f) (left f.stepPeriod [2] ++ left f.settleTime [3] ++ left f.motionLimit [4] ++
        left f.hold [5] ++ left f.enable [6]) ∧
      ∀ n, f.stepPeriod = some n ∨ f.settleTime = some n ∨ f.motionLimit = some n ∨ f.hold = some n → n ≤ 255) ∧
    (∀ f, readLayout b = .ok f ↔ b = layoutBody f ∧ 1 ≤ f.2.length ∧ f.2.length ≤ 8 ∧ fieldsDisjoint f.2 = true ∧
      ∀ x ∈ f.2, 1 ≤ x.width ∧ x.start + x.width ≤ 32) ∧
    (∀ f, readBind b = .ok f ↔ b = bindBody f) ∧
    (∀ r, readRow b = .ok r ↔ b = [byte r.val]) ∧
    (∀ f, readRowSetup b = .ok f ↔ b = rowSetupBody f ∧ ∀ u, f.2 = some u → u.address ≠ 0) ∧
    (∀ f, readExercise b = .ok f ↔ b = exerciseBody f) ∧
    (∀ f, readLineSetup b = .ok f ↔
      alike b (lineSetupBody f) (left f.rate [2, 3] ++ left f.format [4] ++ left f.enable [5])) ∧
    (∀ f, readTerminalText b = .ok f ↔ b = textBody f ∧ 1 ≤ f.2.length ∧ f.2.length ≤ 60 ∧
      ∀ c ∈ f.2, 0x20 ≤ c.toNat ∧ c.toNat ≤ 0x7E) ∧
    ∀ f, readLineTest b = .ok f ↔ b = textBody f ∧ 1 ≤ f.2.length ∧ f.2.length ≤ 60
end

