-- ==== Sys2Proof/Laws/State.lean ====
section
/-! SUPPORT. What the tables and the updates of the device read as: one lemma for each part and each update, so that no later
proof unfolds an update of the record. -/

namespace Sys2Proof.Machine

/-! ## Tables -/

theorem tableGet_erase_same {n : Nat} {α : Type} (d : α) (t : Table n α) (k : Fin n) :
    tableGet d (tableErase t k) k = d := by
  induction t with
  | nil => rfl
  | cons p t ih =>
    obtain ⟨a, v⟩ := p
    by_cases h : a = k
    · simpa [tableErase, h] using ih
    · simpa [tableErase, h, tableGet] using ih

theorem tableGet_erase_other {n : Nat} {α : Type} (d : α) (t : Table n α) (k j : Fin n) (hj : j ≠ k) :
    tableGet d (tableErase t k) j = tableGet d t j := by
  induction t with
  | nil => rfl
  | cons p t ih =>
    obtain ⟨a, v⟩ := p
    by_cases h : a = k
    · subst h
      simpa [tableErase, tableGet, Ne.symm hj] using ih
    · have e : tableErase ((a, v) :: t) k = (a, v) :: tableErase t k := by simp [tableErase, h]
      simp only [e, tableGet, ih]

theorem tableGet_insert_same {n : Nat} {α : Type} (d v : α) (t : Table n α) (k : Fin n) (h : ∀ p ∈ t, p.1 ≠ k) :
    tableGet d (tableInsert k v t) k = v := by
  induction t with
  | nil => simp [tableInsert, tableGet]
  | cons p t ih =>
    obtain ⟨a, w⟩ := p
    have ha : a ≠ k := h (a, w) (by simp)
    unfold tableInsert
    split
    · simp [tableGet]
    · simpa [tableGet, ha] using ih (fun p hp => h p (by simp [hp]))

theorem tableGet_insert_other {n : Nat} {α : Type} (d v : α) (t : Table n α) (k j : Fin n) (hj : j ≠ k) :
    tableGet d (tableInsert k v t) j = tableGet d t j := by
  induction t with
  | nil => simp [tableInsert, tableGet, Ne.symm hj]
  | cons p t ih =>
    obtain ⟨a, w⟩ := p
    unfold tableInsert
    split
    · simp [tableGet, Ne.symm hj]
    · simp [tableGet, ih]

theorem tableErase_keys {n : Nat} {α : Type} (t : Table n α) (k : Fin n) : ∀ p ∈ tableErase t k, p.1 ≠ k := by
  simp [tableErase]

/-- A key reads as it was written. -/
theorem tableGet_set_same {n : Nat} {α : Type} [DecidableEq α] (d v : α) (t : Table n α) (k : Fin n) :
    tableGet d (tableSet d t k v) k = v := by
  unfold tableSet
  split
  · next h => rw [tableGet_erase_same, h]
  · exact tableGet_insert_same d v _ k (tableErase_keys t k)

/-- Every other key reads as before. -/
theorem tableGet_set_other {n : Nat} {α : Type} [DecidableEq α] (d v : α) (t : Table n α) (k j : Fin n) (hj : j ≠ k) :
    tableGet d (tableSet d t k v) j = tableGet d t j := by
  unfold tableSet
  split
  · exact tableGet_erase_other d t k j hj
  · rw [tableGet_insert_other d v _ k j hj, tableGet_erase_other d t k j hj]

theorem tableErase_insert {n : Nat} {α : Type} (v : α) (t : Table n α) (k : Fin n) :
    tableErase (tableInsert k v t) k = tableErase t k := by
  induction t with
  | nil => simp [tableInsert, tableErase]
  | cons p t ih =>
    obtain ⟨a, w⟩ := p
    unfold tableInsert
    split
    · simp [tableErase]
    · by_cases h : a = k
      · simpa [tableErase, h] using ih
      · simpa [tableErase, h] using ih

theorem tableErase_erase {n : Nat} {α : Type} (t : Table n α) (k : Fin n) :
    tableErase (tableErase t k) k = tableErase t k := by
  simp [tableErase]

/-- The last of two writes of one key stands. -/
theorem tableSet_set {n : Nat} {α : Type} [DecidableEq α] (d v w : α) (t : Table n α) (k : Fin n) :
    tableSet d (tableSet d t k v) k w = tableSet d t k w := by
  have h : tableErase (tableSet d t k v) k = tableErase t k := by
    unfold tableSet
    split
    · exact tableErase_erase t k
    · rw [tableErase_insert, tableErase_erase]
  show (if w = d then tableErase (tableSet d t k v) k else tableInsert k w (tableErase (tableSet d t k v) k)) = _
  rw [h]
  rfl

theorem tableWf_cons {n : Nat} {α : Type} [DecidableEq α] (d v : α) (a : Fin n) (t : Table n α) :
    tableWf d ((a, v) :: t) = true ↔ v ≠ d ∧ (∀ p ∈ t, a < p.1) ∧ tableWf d t = true := by
  simp [tableWf, and_assoc]

theorem tableWf_erase {n : Nat} {α : Type} [DecidableEq α] (d : α) (t : Table n α) (k : Fin n)
    (h : tableWf d t = true) : tableWf d (tableErase t k) = true := by
  induction t with
  | nil => rfl
  | cons p t ih =>
    obtain ⟨a, v⟩ := p
    obtain ⟨hv, ha, ht⟩ := (tableWf_cons d v a t).mp h
    by_cases hk : a = k
    · simpa [tableErase, hk] using ih ht
    · have e : tableErase ((a, v) :: t) k = (a, v) :: tableErase t k := by simp [tableErase, hk]
      rw [e, tableWf_cons]
      exact ⟨hv, fun p hp => ha p (List.mem_of_mem_filter hp), ih ht⟩

theorem tableInsert_mem {n : Nat} {α : Type} (k : Fin n) (v : α) (t : Table n α) (p : Fin n × α)
    (h : p ∈ tableInsert k v t) : p = (k, v) ∨ p ∈ t := by
  induction t with
  | nil => simpa [tableInsert] using h
  | cons q t ih =>
    obtain ⟨a, w⟩ := q
    unfold tableInsert at h
    split at h
    · simpa using h
    · rcases List.mem_cons.mp h with h | h
      · exact .inr (by simp [h])
      · exact (ih h).imp id (fun m => by simp [m])

theorem tableWf_insert {n : Nat} {α : Type} [DecidableEq α] (d v : α) (t : Table n α) (k : Fin n) (hv : v ≠ d)
    (hk : ∀ p ∈ t, p.1 ≠ k) (h : tableWf d t = true) : tableWf d (tableInsert k v t) = true := by
  induction t with
  | nil => simp [tableInsert, tableWf, hv]
  | cons p t ih =>
    obtain ⟨a, w⟩ := p
    obtain ⟨hw, ha, ht⟩ := (tableWf_cons d w a t).mp h
    unfold tableInsert
    split
    · next hlt =>
      rw [tableWf_cons]
      refine ⟨hv, fun p hp => ?_, h⟩
      rcases List.mem_cons.mp hp with rfl | hp
      · exact hlt
      · exact lt_trans hlt (ha p hp)
    · next hlt =>
      rw [tableWf_cons]
      refine ⟨hw, fun p hp => ?_, ih (fun p hp => hk p (by simp [hp])) ht⟩
      rcases tableInsert_mem k v t p hp with rfl | hp
      · exact lt_of_le_of_ne (not_lt.mp hlt) (hk (a, w) (by simp))
      · exact ha p hp

/-- A write keeps the canonical form. -/
theorem tableWf_set {n : Nat} {α : Type} [DecidableEq α] (d v : α) (t : Table n α) (k : Fin n)
    (h : tableWf d t = true) : tableWf d (tableSet d t k v) = true := by
  unfold tableSet
  split
  · exact tableWf_erase d t k h
  · next hv => exact tableWf_insert d v _ k hv (tableErase_keys t k) (tableWf_erase d t k h)

/-! ## Updates of the device -/

@[simp] theorem Device.slot_setSlot_same (d : Device) (k : Slot) (x : Record) : (d.setSlot k x).slot k = x :=
  tableGet_set_same _ _ _ _
theorem Device.slot_setSlot_other (d : Device) (k j : Slot) (x : Record) (h : j ≠ k) : (d.setSlot k x).slot j = d.slot j :=
  tableGet_set_other _ _ _ _ _ h
theorem Device.slot_setSlot (d : Device) (k j : Slot) (x : Record) : (d.setSlot k x).slot j = if j = k then x else d.slot j := by
  split
  · next h => rw [h, Device.slot_setSlot_same]
  · next h => exact Device.slot_setSlot_other d k j x h
@[simp] theorem Device.setSlot_setSlot (d : Device) (k : Slot) (x y : Record) :
    (d.setSlot k x).setSlot k y = d.setSlot k y := by
  simp only [Device.setSlot, tableSet_set]
theorem Device.modSlot_eq (d : Device) (k : Slot) (f : Record → Record) : d.modSlot k f = d.setSlot k (f (d.slot k)) := rfl
@[simp] theorem Device.ribbons_setSlot (d : Device) (k : Slot) (x : Record) : (d.setSlot k x).ribbons = d.ribbons := rfl
@[simp] theorem Device.segments_setSlot (d : Device) (k : Slot) (x : Record) : (d.setSlot k x).segments = d.segments := rfl
@[simp] theorem Device.lines_setSlot (d : Device) (k : Slot) (x : Record) : (d.setSlot k x).lines = d.lines := rfl
@[simp] theorem Device.layouts_setSlot (d : Device) (k : Slot) (x : Record) : (d.setSlot k x).layouts = d.layouts := rfl
@[simp] theorem Device.rows_setSlot (d : Device) (k : Slot) (x : Record) : (d.setSlot k x).rows = d.rows := rfl
@[simp] theorem Device.terminals_setSlot (d : Device) (k : Slot) (x : Record) : (d.setSlot k x).terminals = d.terminals := rfl
@[simp] theorem Device.dealers_setSlot (d : Device) (k : Slot) (x : Record) : (d.setSlot k x).dealers = d.dealers := rfl
@[simp] theorem Device.channel_setSlot (d : Device) (k : Slot) (x : Record) : (d.setSlot k x).channel = d.channel := rfl
@[simp] theorem Device.notices_setSlot (d : Device) (k : Slot) (x : Record) : (d.setSlot k x).notices = d.notices := rfl
@[simp] theorem Device.directory_setSlot (d : Device) (k : Slot) (x : Record) : (d.setSlot k x).directory = d.directory := rfl
@[simp] theorem Device.tape_setSlot (d : Device) (k : Slot) (x : Record) : (d.setSlot k x).tape = d.tape := rfl
@[simp] theorem Device.watches_setSlot (d : Device) (k : Slot) (x : Record) : (d.setSlot k x).watches = d.watches := rfl
@[simp] theorem Device.resetHeld_setSlot (d : Device) (k : Slot) (x : Record) : (d.setSlot k x).resetHeld = d.resetHeld := rfl
@[simp] theorem Device.ribbon_setSlot (d : Device) (k : Slot) (x : Record) (j : RibbonNo) : (d.setSlot k x).ribbon j = d.ribbon j := rfl
@[simp] theorem Device.segment_setSlot (d : Device) (k : Slot) (x : Record) (j : SegNo) : (d.setSlot k x).segment j = d.segment j := rfl
@[simp] theorem Device.line_setSlot (d : Device) (k : Slot) (x : Record) (j : SegNo) : (d.setSlot k x).line j = d.line j := rfl
@[simp] theorem Device.layout_setSlot (d : Device) (k : Slot) (x : Record) (j : LayoutNo) : (d.setSlot k x).layout j = d.layout j := rfl
@[simp] theorem Device.row_setSlot (d : Device) (k : Slot) (x : Record) (j : RowNo) : (d.setSlot k x).row j = d.row j := rfl
@[simp] theorem Device.terminal_setSlot (d : Device) (k : Slot) (x : Record) (j : LineNo) : (d.setSlot k x).terminal j = d.terminal j := rfl
@[simp] theorem Device.dealer_setSlot (d : Device) (k : Slot) (x : Record) (j : LineNo) : (d.setSlot k x).dealer j = d.dealer j := rfl

@[simp] theorem Device.ribbon_setRibbon_same (d : Device) (k : RibbonNo) (x : Ribbon) : (d.setRibbon k x).ribbon k = x :=
  tableGet_set_same _ _ _ _
theorem Device.ribbon_setRibbon_other (d : Device) (k j : RibbonNo) (x : Ribbon) (h : j ≠ k) : (d.setRibbon k x).ribbon j = d.ribbon j :=
  tableGet_set_other _ _ _ _ _ h
theorem Device.ribbon_setRibbon (d : Device) (k j : RibbonNo) (x : Ribbon) : (d.setRibbon k x).ribbon j = if j = k then x else d.ribbon j := by
  split
  · next h => rw [h, Device.ribbon_setRibbon_same]
  · next h => exact Device.ribbon_setRibbon_other d k j x h
@[simp] theorem Device.setRibbon_setRibbon (d : Device) (k : RibbonNo) (x y : Ribbon) :
    (d.setRibbon k x).setRibbon k y = d.setRibbon k y := by
  simp only [Device.setRibbon, tableSet_set]
theorem Device.modRibbon_eq (d : Device) (k : RibbonNo) (f : Ribbon → Ribbon) : d.modRibbon k f = d.setRibbon k (f (d.ribbon k)) := rfl
@[simp] theorem Device.slots_setRibbon (d : Device) (k : RibbonNo) (x : Ribbon) : (d.setRibbon k x).slots = d.slots := rfl
@[simp] theorem Device.segments_setRibbon (d : Device) (k : RibbonNo) (x : Ribbon) : (d.setRibbon k x).segments = d.segments := rfl
@[simp] theorem Device.lines_setRibbon (d : Device) (k : RibbonNo) (x : Ribbon) : (d.setRibbon k x).lines = d.lines := rfl
@[simp] theorem Device.layouts_setRibbon (d : Device) (k : RibbonNo) (x : Ribbon) : (d.setRibbon k x).layouts = d.layouts := rfl
@[simp] theorem Device.rows_setRibbon (d : Device) (k : RibbonNo) (x : Ribbon) : (d.setRibbon k x).rows = d.rows := rfl
@[simp] theorem Device.terminals_setRibbon (d : Device) (k : RibbonNo) (x : Ribbon) : (d.setRibbon k x).terminals = d.terminals := rfl
@[simp] theorem Device.dealers_setRibbon (d : Device) (k : RibbonNo) (x : Ribbon) : (d.setRibbon k x).dealers = d.dealers := rfl
@[simp] theorem Device.channel_setRibbon (d : Device) (k : RibbonNo) (x : Ribbon) : (d.setRibbon k x).channel = d.channel := rfl
@[simp] theorem Device.notices_setRibbon (d : Device) (k : RibbonNo) (x : Ribbon) : (d.setRibbon k x).notices = d.notices := rfl
@[simp] theorem Device.directory_setRibbon (d : Device) (k : RibbonNo) (x : Ribbon) : (d.setRibbon k x).directory = d.directory := rfl
@[simp] theorem Device.tape_setRibbon (d : Device) (k : RibbonNo) (x : Ribbon) : (d.setRibbon k x).tape = d.tape := rfl
@[simp] theorem Device.watches_setRibbon (d : Device) (k : RibbonNo) (x : Ribbon) : (d.setRibbon k x).watches = d.watches := rfl
@[simp] theorem Device.resetHeld_setRibbon (d : Device) (k : RibbonNo) (x : Ribbon) : (d.setRibbon k x).resetHeld = d.resetHeld := rfl
@[simp] theorem Device.slot_setRibbon (d : Device) (k : RibbonNo) (x : Ribbon) (j : Slot) : (d.setRibbon k x).slot j = d.slot j := rfl
@[simp] theorem Device.segment_setRibbon (d : Device) (k : RibbonNo) (x : Ribbon) (j : SegNo) : (d.setRibbon k x).segment j = d.segment j := rfl
@[simp] theorem Device.line_setRibbon (d : Device) (k : RibbonNo) (x : Ribbon) (j : SegNo) : (d.setRibbon k x).line j = d.line j := rfl
@[simp] theorem Device.layout_setRibbon (d : Device) (k : RibbonNo) (x : Ribbon) (j : LayoutNo) : (d.setRibbon k x).layout j = d.layout j := rfl
@[simp] theorem Device.row_setRibbon (d : Device) (k : RibbonNo) (x : Ribbon) (j : RowNo) : (d.setRibbon k x).row j = d.row j := rfl
@[simp] theorem Device.terminal_setRibbon (d : Device) (k : RibbonNo) (x : Ribbon) (j : LineNo) : (d.setRibbon k x).terminal j = d.terminal j := rfl
@[simp] theorem Device.dealer_setRibbon (d : Device) (k : RibbonNo) (x : Ribbon) (j : LineNo) : (d.setRibbon k x).dealer j = d.dealer j := rfl

@[simp] theorem Device.segment_setSegment_same (d : Device) (k : SegNo) (x : Segment) : (d.setSegment k x).segment k = x :=
  tableGet_set_same _ _ _ _
theorem Device.segment_setSegment_other (d : Device) (k j : SegNo) (x : Segment) (h : j ≠ k) : (d.setSegment k x).segment j = d.segment j :=
  tableGet_set_other _ _ _ _ _ h
theorem Device.segment_setSegment (d : Device) (k j : SegNo) (x : Segment) : (d.setSegment k x).segment j = if j = k then x else d.segment j := by
  split
  · next h => rw [h, Device.segment_setSegment_same]
  · next h => exact Device.segment_setSegment_other d k j x h
@[simp] theorem Device.setSegment_setSegment (d : Device) (k : SegNo) (x y : Segment) :
    (d.setSegment k x).setSegment k y = d.setSegment k y := by
  simp only [Device.setSegment, tableSet_set]
theorem Device.modSegment_eq (d : Device) (k : SegNo) (f : Segment → Segment) : d.modSegment k f = d.setSegment k (f (d.segment k)) := rfl
@[simp] theorem Device.slots_setSegment (d : Device) (k : SegNo) (x : Segment) : (d.setSegment k x).slots = d.slots := rfl
@[simp] theorem Device.ribbons_setSegment (d : Device) (k : SegNo) (x : Segment) : (d.setSegment k x).ribbons = d.ribbons := rfl
@[simp] theorem Device.lines_setSegment (d : Device) (k : SegNo) (x : Segment) : (d.setSegment k x).lines = d.lines := rfl
@[simp] theorem Device.layouts_setSegment (d : Device) (k : SegNo) (x : Segment) : (d.setSegment k x).layouts = d.layouts := rfl
@[simp] theorem Device.rows_setSegment (d : Device) (k : SegNo) (x : Segment) : (d.setSegment k x).rows = d.rows := rfl
@[simp] theorem Device.terminals_setSegment (d : Device) (k : SegNo) (x : Segment) : (d.setSegment k x).terminals = d.terminals := rfl
@[simp] theorem Device.dealers_setSegment (d : Device) (k : SegNo) (x : Segment) : (d.setSegment k x).dealers = d.dealers := rfl
@[simp] theorem Device.channel_setSegment (d : Device) (k : SegNo) (x : Segment) : (d.setSegment k x).channel = d.channel := rfl
@[simp] theorem Device.notices_setSegment (d : Device) (k : SegNo) (x : Segment) : (d.setSegment k x).notices = d.notices := rfl
@[simp] theorem Device.directory_setSegment (d : Device) (k : SegNo) (x : Segment) : (d.setSegment k x).directory = d.directory := rfl
@[simp] theorem Device.tape_setSegment (d : Device) (k : SegNo) (x : Segment) : (d.setSegment k x).tape = d.tape := rfl
@[simp] theorem Device.watches_setSegment (d : Device) (k : SegNo) (x : Segment) : (d.setSegment k x).watches = d.watches := rfl
@[simp] theorem Device.resetHeld_setSegment (d : Device) (k : SegNo) (x : Segment) : (d.setSegment k x).resetHeld = d.resetHeld := rfl
@[simp] theorem Device.slot_setSegment (d : Device) (k : SegNo) (x : Segment) (j : Slot) : (d.setSegment k x).slot j = d.slot j := rfl
@[simp] theorem Device.ribbon_setSegment (d : Device) (k : SegNo) (x : Segment) (j : RibbonNo) : (d.setSegment k x).ribbon j = d.ribbon j := rfl
@[simp] theorem Device.line_setSegment (d : Device) (k : SegNo) (x : Segment) (j : SegNo) : (d.setSegment k x).line j = d.line j := rfl
@[simp] theorem Device.layout_setSegment (d : Device) (k : SegNo) (x : Segment) (j : LayoutNo) : (d.setSegment k x).layout j = d.layout j := rfl
@[simp] theorem Device.row_setSegment (d : Device) (k : SegNo) (x : Segment) (j : RowNo) : (d.setSegment k x).row j = d.row j := rfl
@[simp] theorem Device.terminal_setSegment (d : Device) (k : SegNo) (x : Segment) (j : LineNo) : (d.setSegment k x).terminal j = d.terminal j := rfl
@[simp] theorem Device.dealer_setSegment (d : Device) (k : SegNo) (x : Segment) (j : LineNo) : (d.setSegment k x).dealer j = d.dealer j := rfl

@[simp] theorem Device.line_setLine_same (d : Device) (k : SegNo) (x : BoardLine) : (d.setLine k x).line k = x :=
  tableGet_set_same _ _ _ _
theorem Device.line_setLine_other (d : Device) (k j : SegNo) (x : BoardLine) (h : j ≠ k) : (d.setLine k x).line j = d.line j :=
  tableGet_set_other _ _ _ _ _ h
theorem Device.line_setLine (d : Device) (k j : SegNo) (x : BoardLine) : (d.setLine k x).line j = if j = k then x else d.line j := by
  split
  · next h => rw [h, Device.line_setLine_same]
  · next h => exact Device.line_setLine_other d k j x h
@[simp] theorem Device.setLine_setLine (d : Device) (k : SegNo) (x y : BoardLine) :
    (d.setLine k x).setLine k y = d.setLine k y := by
  simp only [Device.setLine, tableSet_set]
theorem Device.modLine_eq (d : Device) (k : SegNo) (f : BoardLine → BoardLine) : d.modLine k f = d.setLine k (f (d.line k)) := rfl
@[simp] theorem Device.slots_setLine (d : Device) (k : SegNo) (x : BoardLine) : (d.setLine k x).slots = d.slots := rfl
@[simp] theorem Device.ribbons_setLine (d : Device) (k : SegNo) (x : BoardLine) : (d.setLine k x).ribbons = d.ribbons := rfl
@[simp] theorem Device.segments_setLine (d : Device) (k : SegNo) (x : BoardLine) : (d.setLine k x).segments = d.segments := rfl
@[simp] theorem Device.layouts_setLine (d : Device) (k : SegNo) (x : BoardLine) : (d.setLine k x).layouts = d.layouts := rfl
@[simp] theorem Device.rows_setLine (d : Device) (k : SegNo) (x : BoardLine) : (d.setLine k x).rows = d.rows := rfl
@[simp] theorem Device.terminals_setLine (d : Device) (k : SegNo) (x : BoardLine) : (d.setLine k x).terminals = d.terminals := rfl
@[simp] theorem Device.dealers_setLine (d : Device) (k : SegNo) (x : BoardLine) : (d.setLine k x).dealers = d.dealers := rfl
@[simp] theorem Device.channel_setLine (d : Device) (k : SegNo) (x : BoardLine) : (d.setLine k x).channel = d.channel := rfl
@[simp] theorem Device.notices_setLine (d : Device) (k : SegNo) (x : BoardLine) : (d.setLine k x).notices = d.notices := rfl
@[simp] theorem Device.directory_setLine (d : Device) (k : SegNo) (x : BoardLine) : (d.setLine k x).directory = d.directory := rfl
@[simp] theorem Device.tape_setLine (d : Device) (k : SegNo) (x : BoardLine) : (d.setLine k x).tape = d.tape := rfl
@[simp] theorem Device.watches_setLine (d : Device) (k : SegNo) (x : BoardLine) : (d.setLine k x).watches = d.watches := rfl
@[simp] theorem Device.resetHeld_setLine (d : Device) (k : SegNo) (x : BoardLine) : (d.setLine k x).resetHeld = d.resetHeld := rfl
@[simp] theorem Device.slot_setLine (d : Device) (k : SegNo) (x : BoardLine) (j : Slot) : (d.setLine k x).slot j = d.slot j := rfl
@[simp] theorem Device.ribbon_setLine (d : Device) (k : SegNo) (x : BoardLine) (j : RibbonNo) : (d.setLine k x).ribbon j = d.ribbon j := rfl
@[simp] theorem Device.segment_setLine (d : Device) (k : SegNo) (x : BoardLine) (j : SegNo) : (d.setLine k x).segment j = d.segment j := rfl
@[simp] theorem Device.layout_setLine (d : Device) (k : SegNo) (x : BoardLine) (j : LayoutNo) : (d.setLine k x).layout j = d.layout j := rfl
@[simp] theorem Device.row_setLine (d : Device) (k : SegNo) (x : BoardLine) (j : RowNo) : (d.setLine k x).row j = d.row j := rfl
@[simp] theorem Device.terminal_setLine (d : Device) (k : SegNo) (x : BoardLine) (j : LineNo) : (d.setLine k x).terminal j = d.terminal j := rfl
@[simp] theorem Device.dealer_setLine (d : Device) (k : SegNo) (x : BoardLine) (j : LineNo) : (d.setLine k x).dealer j = d.dealer j := rfl

@[simp] theorem Device.layout_setLayout_same (d : Device) (k : LayoutNo) (x : List Field) : (d.setLayout k x).layout k = x :=
  tableGet_set_same _ _ _ _
theorem Device.layout_setLayout_other (d : Device) (k j : LayoutNo) (x : List Field) (h : j ≠ k) : (d.setLayout k x).layout j = d.layout j :=
  tableGet_set_other _ _ _ _ _ h
theorem Device.layout_setLayout (d : Device) (k j : LayoutNo) (x : List Field) : (d.setLayout k x).layout j = if j = k then x else d.layout j := by
  split
  · next h => rw [h, Device.layout_setLayout_same]
  · next h => exact Device.layout_setLayout_other d k j x h
@[simp] theorem Device.setLayout_setLayout (d : Device) (k : LayoutNo) (x y : List Field) :
    (d.setLayout k x).setLayout k y = d.setLayout k y := by
  simp only [Device.setLayout, tableSet_set]
@[simp] theorem Device.slots_setLayout (d : Device) (k : LayoutNo) (x : List Field) : (d.setLayout k x).slots = d.slots := rfl
@[simp] theorem Device.ribbons_setLayout (d : Device) (k : LayoutNo) (x : List Field) : (d.setLayout k x).ribbons = d.ribbons := rfl
@[simp] theorem Device.segments_setLayout (d : Device) (k : LayoutNo) (x : List Field) : (d.setLayout k x).segments = d.segments := rfl
@[simp] theorem Device.lines_setLayout (d : Device) (k : LayoutNo) (x : List Field) : (d.setLayout k x).lines = d.lines := rfl
@[simp] theorem Device.rows_setLayout (d : Device) (k : LayoutNo) (x : List Field) : (d.setLayout k x).rows = d.rows := rfl
@[simp] theorem Device.terminals_setLayout (d : Device) (k : LayoutNo) (x : List Field) : (d.setLayout k x).terminals = d.terminals := rfl
@[simp] theorem Device.dealers_setLayout (d : Device) (k : LayoutNo) (x : List Field) : (d.setLayout k x).dealers = d.dealers := rfl
@[simp] theorem Device.channel_setLayout (d : Device) (k : LayoutNo) (x : List Field) : (d.setLayout k x).channel = d.channel := rfl
@[simp] theorem Device.notices_setLayout (d : Device) (k : LayoutNo) (x : List Field) : (d.setLayout k x).notices = d.notices := rfl
@[simp] theorem Device.directory_setLayout (d : Device) (k : LayoutNo) (x : List Field) : (d.setLayout k x).directory = d.directory := rfl
@[simp] theorem Device.tape_setLayout (d : Device) (k : LayoutNo) (x : List Field) : (d.setLayout k x).tape = d.tape := rfl
@[simp] theorem Device.watches_setLayout (d : Device) (k : LayoutNo) (x : List Field) : (d.setLayout k x).watches = d.watches := rfl
@[simp] theorem Device.resetHeld_setLayout (d : Device) (k : LayoutNo) (x : List Field) : (d.setLayout k x).resetHeld = d.resetHeld := rfl
@[simp] theorem Device.slot_setLayout (d : Device) (k : LayoutNo) (x : List Field) (j : Slot) : (d.setLayout k x).slot j = d.slot j := rfl
@[simp] theorem Device.ribbon_setLayout (d : Device) (k : LayoutNo) (x : List Field) (j : RibbonNo) : (d.setLayout k x).ribbon j = d.ribbon j := rfl
@[simp] theorem Device.segment_setLayout (d : Device) (k : LayoutNo) (x : List Field) (j : SegNo) : (d.setLayout k x).segment j = d.segment j := rfl
@[simp] theorem Device.line_setLayout (d : Device) (k : LayoutNo) (x : List Field) (j : SegNo) : (d.setLayout k x).line j = d.line j := rfl
@[simp] theorem Device.row_setLayout (d : Device) (k : LayoutNo) (x : List Field) (j : RowNo) : (d.setLayout k x).row j = d.row j := rfl
@[simp] theorem Device.terminal_setLayout (d : Device) (k : LayoutNo) (x : List Field) (j : LineNo) : (d.setLayout k x).terminal j = d.terminal j := rfl
@[simp] theorem Device.dealer_setLayout (d : Device) (k : LayoutNo) (x : List Field) (j : LineNo) : (d.setLayout k x).dealer j = d.dealer j := rfl

@[simp] theorem Device.row_setRow_same (d : Device) (k : RowNo) (x : Row) : (d.setRow k x).row k = x :=
  tableGet_set_same _ _ _ _
theorem Device.row_setRow_other (d : Device) (k j : RowNo) (x : Row) (h : j ≠ k) : (d.setRow k x).row j = d.row j :=
  tableGet_set_other _ _ _ _ _ h
theorem Device.row_setRow (d : Device) (k j : RowNo) (x : Row) : (d.setRow k x).row j = if j = k then x else d.row j := by
  split
  · next h => rw [h, Device.row_setRow_same]
  · next h => exact Device.row_setRow_other d k j x h
@[simp] theorem Device.setRow_setRow (d : Device) (k : RowNo) (x y : Row) :
    (d.setRow k x).setRow k y = d.setRow k y := by
  simp only [Device.setRow, tableSet_set]
theorem Device.modRow_eq (d : Device) (k : RowNo) (f : Row → Row) : d.modRow k f = d.setRow k (f (d.row k)) := rfl
@[simp] theorem Device.slots_setRow (d : Device) (k : RowNo) (x : Row) : (d.setRow k x).slots = d.slots := rfl
@[simp] theorem Device.ribbons_setRow (d : Device) (k : RowNo) (x : Row) : (d.setRow k x).ribbons = d.ribbons := rfl
@[simp] theorem Device.segments_setRow (d : Device) (k : RowNo) (x : Row) : (d.setRow k x).segments = d.segments := rfl
@[simp] theorem Device.lines_setRow (d : Device) (k : RowNo) (x : Row) : (d.setRow k x).lines = d.lines := rfl
@[simp] theorem Device.layouts_setRow (d : Device) (k : RowNo) (x : Row) : (d.setRow k x).layouts = d.layouts := rfl
@[simp] theorem Device.terminals_setRow (d : Device) (k : RowNo) (x : Row) : (d.setRow k x).terminals = d.terminals := rfl
@[simp] theorem Device.dealers_setRow (d : Device) (k : RowNo) (x : Row) : (d.setRow k x).dealers = d.dealers := rfl
@[simp] theorem Device.channel_setRow (d : Device) (k : RowNo) (x : Row) : (d.setRow k x).channel = d.channel := rfl
@[simp] theorem Device.notices_setRow (d : Device) (k : RowNo) (x : Row) : (d.setRow k x).notices = d.notices := rfl
@[simp] theorem Device.directory_setRow (d : Device) (k : RowNo) (x : Row) : (d.setRow k x).directory = d.directory := rfl
@[simp] theorem Device.tape_setRow (d : Device) (k : RowNo) (x : Row) : (d.setRow k x).tape = d.tape := rfl
@[simp] theorem Device.watches_setRow (d : Device) (k : RowNo) (x : Row) : (d.setRow k x).watches = d.watches := rfl
@[simp] theorem Device.resetHeld_setRow (d : Device) (k : RowNo) (x : Row) : (d.setRow k x).resetHeld = d.resetHeld := rfl
@[simp] theorem Device.slot_setRow (d : Device) (k : RowNo) (x : Row) (j : Slot) : (d.setRow k x).slot j = d.slot j := rfl
@[simp] theorem Device.ribbon_setRow (d : Device) (k : RowNo) (x : Row) (j : RibbonNo) : (d.setRow k x).ribbon j = d.ribbon j := rfl
@[simp] theorem Device.segment_setRow (d : Device) (k : RowNo) (x : Row) (j : SegNo) : (d.setRow k x).segment j = d.segment j := rfl
@[simp] theorem Device.line_setRow (d : Device) (k : RowNo) (x : Row) (j : SegNo) : (d.setRow k x).line j = d.line j := rfl
@[simp] theorem Device.layout_setRow (d : Device) (k : RowNo) (x : Row) (j : LayoutNo) : (d.setRow k x).layout j = d.layout j := rfl
@[simp] theorem Device.terminal_setRow (d : Device) (k : RowNo) (x : Row) (j : LineNo) : (d.setRow k x).terminal j = d.terminal j := rfl
@[simp] theorem Device.dealer_setRow (d : Device) (k : RowNo) (x : Row) (j : LineNo) : (d.setRow k x).dealer j = d.dealer j := rfl

@[simp] theorem Device.terminal_setTerminal_same (d : Device) (k : LineNo) (x : Terminal) : (d.setTerminal k x).terminal k = x :=
  tableGet_set_same _ _ _ _
theorem Device.terminal_setTerminal_other (d : Device) (k j : LineNo) (x : Terminal) (h : j ≠ k) : (d.setTerminal k x).terminal j = d.terminal j :=
  tableGet_set_other _ _ _ _ _ h
theorem Device.terminal_setTerminal (d : Device) (k j : LineNo) (x : Terminal) : (d.setTerminal k x).terminal j = if j = k then x else d.terminal j := by
  split
  · next h => rw [h, Device.terminal_setTerminal_same]
  · next h => exact Device.terminal_setTerminal_other d k j x h
@[simp] theorem Device.setTerminal_setTerminal (d : Device) (k : LineNo) (x y : Terminal) :
    (d.setTerminal k x).setTerminal k y = d.setTerminal k y := by
  simp only [Device.setTerminal, tableSet_set]
theorem Device.modTerminal_eq (d : Device) (k : LineNo) (f : Terminal → Terminal) : d.modTerminal k f = d.setTerminal k (f (d.terminal k)) := rfl
@[simp] theorem Device.slots_setTerminal (d : Device) (k : LineNo) (x : Terminal) : (d.setTerminal k x).slots = d.slots := rfl
@[simp] theorem Device.ribbons_setTerminal (d : Device) (k : LineNo) (x : Terminal) : (d.setTerminal k x).ribbons = d.ribbons := rfl
@[simp] theorem Device.segments_setTerminal (d : Device) (k : LineNo) (x : Terminal) : (d.setTerminal k x).segments = d.segments := rfl
@[simp] theorem Device.lines_setTerminal (d : Device) (k : LineNo) (x : Terminal) : (d.setTerminal k x).lines = d.lines := rfl
@[simp] theorem Device.layouts_setTerminal (d : Device) (k : LineNo) (x : Terminal) : (d.setTerminal k x).layouts = d.layouts := rfl
@[simp] theorem Device.rows_setTerminal (d : Device) (k : LineNo) (x : Terminal) : (d.setTerminal k x).rows = d.rows := rfl
@[simp] theorem Device.dealers_setTerminal (d : Device) (k : LineNo) (x : Terminal) : (d.setTerminal k x).dealers = d.dealers := rfl
@[simp] theorem Device.channel_setTerminal (d : Device) (k : LineNo) (x : Terminal) : (d.setTerminal k x).channel = d.channel := rfl
@[simp] theorem Device.notices_setTerminal (d : Device) (k : LineNo) (x : Terminal) : (d.setTerminal k x).notices = d.notices := rfl
@[simp] theorem Device.directory_setTerminal (d : Device) (k : LineNo) (x : Terminal) : (d.setTerminal k x).directory = d.directory := rfl
@[simp] theorem Device.tape_setTerminal (d : Device) (k : LineNo) (x : Terminal) : (d.setTerminal k x).tape = d.tape := rfl
@[simp] theorem Device.watches_setTerminal (d : Device) (k : LineNo) (x : Terminal) : (d.setTerminal k x).watches = d.watches := rfl
@[simp] theorem Device.resetHeld_setTerminal (d : Device) (k : LineNo) (x : Terminal) : (d.setTerminal k x).resetHeld = d.resetHeld := rfl
@[simp] theorem Device.slot_setTerminal (d : Device) (k : LineNo) (x : Terminal) (j : Slot) : (d.setTerminal k x).slot j = d.slot j := rfl
@[simp] theorem Device.ribbon_setTerminal (d : Device) (k : LineNo) (x : Terminal) (j : RibbonNo) : (d.setTerminal k x).ribbon j = d.ribbon j := rfl
@[simp] theorem Device.segment_setTerminal (d : Device) (k : LineNo) (x : Terminal) (j : SegNo) : (d.setTerminal k x).segment j = d.segment j := rfl
@[simp] theorem Device.line_setTerminal (d : Device) (k : LineNo) (x : Terminal) (j : SegNo) : (d.setTerminal k x).line j = d.line j := rfl
@[simp] theorem Device.layout_setTerminal (d : Device) (k : LineNo) (x : Terminal) (j : LayoutNo) : (d.setTerminal k x).layout j = d.layout j := rfl
@[simp] theorem Device.row_setTerminal (d : Device) (k : LineNo) (x : Terminal) (j : RowNo) : (d.setTerminal k x).row j = d.row j := rfl
@[simp] theorem Device.dealer_setTerminal (d : Device) (k : LineNo) (x : Terminal) (j : LineNo) : (d.setTerminal k x).dealer j = d.dealer j := rfl

@[simp] theorem Device.dealer_setDealer_same (d : Device) (k : LineNo) (x : Dealer) : (d.setDealer k x).dealer k = x :=
  tableGet_set_same _ _ _ _
theorem Device.dealer_setDealer_other (d : Device) (k j : LineNo) (x : Dealer) (h : j ≠ k) : (d.setDealer k x).dealer j = d.dealer j :=
  tableGet_set_other _ _ _ _ _ h
theorem Device.dealer_setDealer (d : Device) (k j : LineNo) (x : Dealer) : (d.setDealer k x).dealer j = if j = k then x else d.dealer j := by
  split
  · next h => rw [h, Device.dealer_setDealer_same]
  · next h => exact Device.dealer_setDealer_other d k j x h
@[simp] theorem Device.setDealer_setDealer (d : Device) (k : LineNo) (x y : Dealer) :
    (d.setDealer k x).setDealer k y = d.setDealer k y := by
  simp only [Device.setDealer, tableSet_set]
theorem Device.modDealer_eq (d : Device) (k : LineNo) (f : Dealer → Dealer) : d.modDealer k f = d.setDealer k (f (d.dealer k)) := rfl
@[simp] theorem Device.slots_setDealer (d : Device) (k : LineNo) (x : Dealer) : (d.setDealer k x).slots = d.slots := rfl
@[simp] theorem Device.ribbons_setDealer (d : Device) (k : LineNo) (x : Dealer) : (d.setDealer k x).ribbons = d.ribbons := rfl
@[simp] theorem Device.segments_setDealer (d : Device) (k : LineNo) (x : Dealer) : (d.setDealer k x).segments = d.segments := rfl
@[simp] theorem Device.lines_setDealer (d : Device) (k : LineNo) (x : Dealer) : (d.setDealer k x).lines = d.lines := rfl
@[simp] theorem Device.layouts_setDealer (d : Device) (k : LineNo) (x : Dealer) : (d.setDealer k x).layouts = d.layouts := rfl
@[simp] theorem Device.rows_setDealer (d : Device) (k : LineNo) (x : Dealer) : (d.setDealer k x).rows = d.rows := rfl
@[simp] theorem Device.terminals_setDealer (d : Device) (k : LineNo) (x : Dealer) : (d.setDealer k x).terminals = d.terminals := rfl
@[simp] theorem Device.channel_setDealer (d : Device) (k : LineNo) (x : Dealer) : (d.setDealer k x).channel = d.channel := rfl
@[simp] theorem Device.notices_setDealer (d : Device) (k : LineNo) (x : Dealer) : (d.setDealer k x).notices = d.notices := rfl
@[simp] theorem Device.directory_setDealer (d : Device) (k : LineNo) (x : Dealer) : (d.setDealer k x).directory = d.directory := rfl
@[simp] theorem Device.tape_setDealer (d : Device) (k : LineNo) (x : Dealer) : (d.setDealer k x).tape = d.tape := rfl
@[simp] theorem Device.watches_setDealer (d : Device) (k : LineNo) (x : Dealer) : (d.setDealer k x).watches = d.watches := rfl
@[simp] theorem Device.resetHeld_setDealer (d : Device) (k : LineNo) (x : Dealer) : (d.setDealer k x).resetHeld = d.resetHeld := rfl
@[simp] theorem Device.slot_setDealer (d : Device) (k : LineNo) (x : Dealer) (j : Slot) : (d.setDealer k x).slot j = d.slot j := rfl
@[simp] theorem Device.ribbon_setDealer (d : Device) (k : LineNo) (x : Dealer) (j : RibbonNo) : (d.setDealer k x).ribbon j = d.ribbon j := rfl
@[simp] theorem Device.segment_setDealer (d : Device) (k : LineNo) (x : Dealer) (j : SegNo) : (d.setDealer k x).segment j = d.segment j := rfl
@[simp] theorem Device.line_setDealer (d : Device) (k : LineNo) (x : Dealer) (j : SegNo) : (d.setDealer k x).line j = d.line j := rfl
@[simp] theorem Device.layout_setDealer (d : Device) (k : LineNo) (x : Dealer) (j : LayoutNo) : (d.setDealer k x).layout j = d.layout j := rfl
@[simp] theorem Device.row_setDealer (d : Device) (k : LineNo) (x : Dealer) (j : RowNo) : (d.setDealer k x).row j = d.row j := rfl
@[simp] theorem Device.terminal_setDealer (d : Device) (k : LineNo) (x : Dealer) (j : LineNo) : (d.setDealer k x).terminal j = d.terminal j := rfl

@[simp] theorem Device.slots_setChannel (d : Device) (x : Channel) : (d.setChannel x).slots = d.slots := rfl
@[simp] theorem Device.ribbons_setChannel (d : Device) (x : Channel) : (d.setChannel x).ribbons = d.ribbons := rfl
@[simp] theorem Device.segments_setChannel (d : Device) (x : Channel) : (d.setChannel x).segments = d.segments := rfl
@[simp] theorem Device.lines_setChannel (d : Device) (x : Channel) : (d.setChannel x).lines = d.lines := rfl
@[simp] theorem Device.layouts_setChannel (d : Device) (x : Channel) : (d.setChannel x).layouts = d.layouts := rfl
@[simp] theorem Device.rows_setChannel (d : Device) (x : Channel) : (d.setChannel x).rows = d.rows := rfl
@[simp] theorem Device.terminals_setChannel (d : Device) (x : Channel) : (d.setChannel x).terminals = d.terminals := rfl
@[simp] theorem Device.dealers_setChannel (d : Device) (x : Channel) : (d.setChannel x).dealers = d.dealers := rfl
@[simp] theorem Device.channel_setChannel (d : Device) (x : Channel) : (d.setChannel x).channel = x := rfl
@[simp] theorem Device.notices_setChannel (d : Device) (x : Channel) : (d.setChannel x).notices = d.notices := rfl
@[simp] theorem Device.directory_setChannel (d : Device) (x : Channel) : (d.setChannel x).directory = d.directory := rfl
@[simp] theorem Device.tape_setChannel (d : Device) (x : Channel) : (d.setChannel x).tape = d.tape := rfl
@[simp] theorem Device.watches_setChannel (d : Device) (x : Channel) : (d.setChannel x).watches = d.watches := rfl
@[simp] theorem Device.resetHeld_setChannel (d : Device) (x : Channel) : (d.setChannel x).resetHeld = d.resetHeld := rfl
@[simp] theorem Device.slot_setChannel (d : Device) (x : Channel) (j : Slot) : (d.setChannel x).slot j = d.slot j := rfl
@[simp] theorem Device.ribbon_setChannel (d : Device) (x : Channel) (j : RibbonNo) : (d.setChannel x).ribbon j = d.ribbon j := rfl
@[simp] theorem Device.segment_setChannel (d : Device) (x : Channel) (j : SegNo) : (d.setChannel x).segment j = d.segment j := rfl
@[simp] theorem Device.line_setChannel (d : Device) (x : Channel) (j : SegNo) : (d.setChannel x).line j = d.line j := rfl
@[simp] theorem Device.layout_setChannel (d : Device) (x : Channel) (j : LayoutNo) : (d.setChannel x).layout j = d.layout j := rfl
@[simp] theorem Device.row_setChannel (d : Device) (x : Channel) (j : RowNo) : (d.setChannel x).row j = d.row j := rfl
@[simp] theorem Device.terminal_setChannel (d : Device) (x : Channel) (j : LineNo) : (d.setChannel x).terminal j = d.terminal j := rfl
@[simp] theorem Device.dealer_setChannel (d : Device) (x : Channel) (j : LineNo) : (d.setChannel x).dealer j = d.dealer j := rfl

@[simp] theorem Device.slots_setNotices (d : Device) (x : List Notice) : (d.setNotices x).slots = d.slots := rfl
@[simp] theorem Device.ribbons_setNotices (d : Device) (x : List Notice) : (d.setNotices x).ribbons = d.ribbons := rfl
@[simp] theorem Device.segments_setNotices (d : Device) (x : List Notice) : (d.setNotices x).segments = d.segments := rfl
@[simp] theorem Device.lines_setNotices (d : Device) (x : List Notice) : (d.setNotices x).lines = d.lines := rfl
@[simp] theorem Device.layouts_setNotices (d : Device) (x : List Notice) : (d.setNotices x).layouts = d.layouts := rfl
@[simp] theorem Device.rows_setNotices (d : Device) (x : List Notice) : (d.setNotices x).rows = d.rows := rfl
@[simp] theorem Device.terminals_setNotices (d : Device) (x : List Notice) : (d.setNotices x).terminals = d.terminals := rfl
@[simp] theorem Device.dealers_setNotices (d : Device) (x : List Notice) : (d.setNotices x).dealers = d.dealers := rfl
@[simp] theorem Device.channel_setNotices (d : Device) (x : List Notice) : (d.setNotices x).channel = d.channel := rfl
@[simp] theorem Device.notices_setNotices (d : Device) (x : List Notice) : (d.setNotices x).notices = x := rfl
@[simp] theorem Device.directory_setNotices (d : Device) (x : List Notice) : (d.setNotices x).directory = d.directory := rfl
@[simp] theorem Device.tape_setNotices (d : Device) (x : List Notice) : (d.setNotices x).tape = d.tape := rfl
@[simp] theorem Device.watches_setNotices (d : Device) (x : List Notice) : (d.setNotices x).watches = d.watches := rfl
@[simp] theorem Device.resetHeld_setNotices (d : Device) (x : List Notice) : (d.setNotices x).resetHeld = d.resetHeld := rfl
@[simp] theorem Device.slot_setNotices (d : Device) (x : List Notice) (j : Slot) : (d.setNotices x).slot j = d.slot j := rfl
@[simp] theorem Device.ribbon_setNotices (d : Device) (x : List Notice) (j : RibbonNo) : (d.setNotices x).ribbon j = d.ribbon j := rfl
@[simp] theorem Device.segment_setNotices (d : Device) (x : List Notice) (j : SegNo) : (d.setNotices x).segment j = d.segment j := rfl
@[simp] theorem Device.line_setNotices (d : Device) (x : List Notice) (j : SegNo) : (d.setNotices x).line j = d.line j := rfl
@[simp] theorem Device.layout_setNotices (d : Device) (x : List Notice) (j : LayoutNo) : (d.setNotices x).layout j = d.layout j := rfl
@[simp] theorem Device.row_setNotices (d : Device) (x : List Notice) (j : RowNo) : (d.setNotices x).row j = d.row j := rfl
@[simp] theorem Device.terminal_setNotices (d : Device) (x : List Notice) (j : LineNo) : (d.setNotices x).terminal j = d.terminal j := rfl
@[simp] theorem Device.dealer_setNotices (d : Device) (x : List Notice) (j : LineNo) : (d.setNotices x).dealer j = d.dealer j := rfl

@[simp] theorem Device.slots_setDirectory (d : Device) (x : List (Text × Slot)) : (d.setDirectory x).slots = d.slots := rfl
@[simp] theorem Device.ribbons_setDirectory (d : Device) (x : List (Text × Slot)) : (d.setDirectory x).ribbons = d.ribbons := rfl
@[simp] theorem Device.segments_setDirectory (d : Device) (x : List (Text × Slot)) : (d.setDirectory x).segments = d.segments := rfl
@[simp] theorem Device.lines_setDirectory (d : Device) (x : List (Text × Slot)) : (d.setDirectory x).lines = d.lines := rfl
@[simp] theorem Device.layouts_setDirectory (d : Device) (x : List (Text × Slot)) : (d.setDirectory x).layouts = d.layouts := rfl
@[simp] theorem Device.rows_setDirectory (d : Device) (x : List (Text × Slot)) : (d.setDirectory x).rows = d.rows := rfl
@[simp] theorem Device.terminals_setDirectory (d : Device) (x : List (Text × Slot)) : (d.setDirectory x).terminals = d.terminals := rfl
@[simp] theorem Device.dealers_setDirectory (d : Device) (x : List (Text × Slot)) : (d.setDirectory x).dealers = d.dealers := rfl
@[simp] theorem Device.channel_setDirectory (d : Device) (x : List (Text × Slot)) : (d.setDirectory x).channel = d.channel := rfl
@[simp] theorem Device.notices_setDirectory (d : Device) (x : List (Text × Slot)) : (d.setDirectory x).notices = d.notices := rfl
@[simp] theorem Device.directory_setDirectory (d : Device) (x : List (Text × Slot)) : (d.setDirectory x).directory = x := rfl
@[simp] theorem Device.tape_setDirectory (d : Device) (x : List (Text × Slot)) : (d.setDirectory x).tape = d.tape := rfl
@[simp] theorem Device.watches_setDirectory (d : Device) (x : List (Text × Slot)) : (d.setDirectory x).watches = d.watches := rfl
@[simp] theorem Device.resetHeld_setDirectory (d : Device) (x : List (Text × Slot)) : (d.setDirectory x).resetHeld = d.resetHeld := rfl
@[simp] theorem Device.slot_setDirectory (d : Device) (x : List (Text × Slot)) (j : Slot) : (d.setDirectory x).slot j = d.slot j := rfl
@[simp] theorem Device.ribbon_setDirectory (d : Device) (x : List (Text × Slot)) (j : RibbonNo) : (d.setDirectory x).ribbon j = d.ribbon j := rfl
@[simp] theorem Device.segment_setDirectory (d : Device) (x : List (Text × Slot)) (j : SegNo) : (d.setDirectory x).segment j = d.segment j := rfl
@[simp] theorem Device.line_setDirectory (d : Device) (x : List (Text × Slot)) (j : SegNo) : (d.setDirectory x).line j = d.line j := rfl
@[simp] theorem Device.layout_setDirectory (d : Device) (x : List (Text × Slot)) (j : LayoutNo) : (d.setDirectory x).layout j = d.layout j := rfl
@[simp] theorem Device.row_setDirectory (d : Device) (x : List (Text × Slot)) (j : RowNo) : (d.setDirectory x).row j = d.row j := rfl
@[simp] theorem Device.terminal_setDirectory (d : Device) (x : List (Text × Slot)) (j : LineNo) : (d.setDirectory x).terminal j = d.terminal j := rfl
@[simp] theorem Device.dealer_setDirectory (d : Device) (x : List (Text × Slot)) (j : LineNo) : (d.setDirectory x).dealer j = d.dealer j := rfl

@[simp] theorem Device.slots_setTape (d : Device) (x : Tape) : (d.setTape x).slots = d.slots := rfl
@[simp] theorem Device.ribbons_setTape (d : Device) (x : Tape) : (d.setTape x).ribbons = d.ribbons := rfl
@[simp] theorem Device.segments_setTape (d : Device) (x : Tape) : (d.setTape x).segments = d.segments := rfl
@[simp] theorem Device.lines_setTape (d : Device) (x : Tape) : (d.setTape x).lines = d.lines := rfl
@[simp] theorem Device.layouts_setTape (d : Device) (x : Tape) : (d.setTape x).layouts = d.layouts := rfl
@[simp] theorem Device.rows_setTape (d : Device) (x : Tape) : (d.setTape x).rows = d.rows := rfl
@[simp] theorem Device.terminals_setTape (d : Device) (x : Tape) : (d.setTape x).terminals = d.terminals := rfl
@[simp] theorem Device.dealers_setTape (d : Device) (x : Tape) : (d.setTape x).dealers = d.dealers := rfl
@[simp] theorem Device.channel_setTape (d : Device) (x : Tape) : (d.setTape x).channel = d.channel := rfl
@[simp] theorem Device.notices_setTape (d : Device) (x : Tape) : (d.setTape x).notices = d.notices := rfl
@[simp] theorem Device.directory_setTape (d : Device) (x : Tape) : (d.setTape x).directory = d.directory := rfl
@[simp] theorem Device.tape_setTape (d : Device) (x : Tape) : (d.setTape x).tape = x := rfl
@[simp] theorem Device.watches_setTape (d : Device) (x : Tape) : (d.setTape x).watches = d.watches := rfl
@[simp] theorem Device.resetHeld_setTape (d : Device) (x : Tape) : (d.setTape x).resetHeld = d.resetHeld := rfl
@[simp] theorem Device.slot_setTape (d : Device) (x : Tape) (j : Slot) : (d.setTape x).slot j = d.slot j := rfl
@[simp] theorem Device.ribbon_setTape (d : Device) (x : Tape) (j : RibbonNo) : (d.setTape x).ribbon j = d.ribbon j := rfl
@[simp] theorem Device.segment_setTape (d : Device) (x : Tape) (j : SegNo) : (d.setTape x).segment j = d.segment j := rfl
@[simp] theorem Device.line_setTape (d : Device) (x : Tape) (j : SegNo) : (d.setTape x).line j = d.line j := rfl
@[simp] theorem Device.layout_setTape (d : Device) (x : Tape) (j : LayoutNo) : (d.setTape x).layout j = d.layout j := rfl
@[simp] theorem Device.row_setTape (d : Device) (x : Tape) (j : RowNo) : (d.setTape x).row j = d.row j := rfl
@[simp] theorem Device.terminal_setTape (d : Device) (x : Tape) (j : LineNo) : (d.setTape x).terminal j = d.terminal j := rfl
@[simp] theorem Device.dealer_setTape (d : Device) (x : Tape) (j : LineNo) : (d.setTape x).dealer j = d.dealer j := rfl

@[simp] theorem Device.slots_setWatches (d : Device) (x : List Watch) : (d.setWatches x).slots = d.slots := rfl
@[simp] theorem Device.ribbons_setWatches (d : Device) (x : List Watch) : (d.setWatches x).ribbons = d.ribbons := rfl
@[simp] theorem Device.segments_setWatches (d : Device) (x : List Watch) : (d.setWatches x).segments = d.segments := rfl
@[simp] theorem Device.lines_setWatches (d : Device) (x : List Watch) : (d.setWatches x).lines = d.lines := rfl
@[simp] theorem Device.layouts_setWatches (d : Device) (x : List Watch) : (d.setWatches x).layouts = d.layouts := rfl
@[simp] theorem Device.rows_setWatches (d : Device) (x : List Watch) : (d.setWatches x).rows = d.rows := rfl
@[simp] theorem Device.terminals_setWatches (d : Device) (x : List Watch) : (d.setWatches x).terminals = d.terminals := rfl
@[simp] theorem Device.dealers_setWatches (d : Device) (x : List Watch) : (d.setWatches x).dealers = d.dealers := rfl
@[simp] theorem Device.channel_setWatches (d : Device) (x : List Watch) : (d.setWatches x).channel = d.channel := rfl
@[simp] theorem Device.notices_setWatches (d : Device) (x : List Watch) : (d.setWatches x).notices = d.notices := rfl
@[simp] theorem Device.directory_setWatches (d : Device) (x : List Watch) : (d.setWatches x).directory = d.directory := rfl
@[simp] theorem Device.tape_setWatches (d : Device) (x : List Watch) : (d.setWatches x).tape = d.tape := rfl
@[simp] theorem Device.watches_setWatches (d : Device) (x : List Watch) : (d.setWatches x).watches = x := rfl
@[simp] theorem Device.resetHeld_setWatches (d : Device) (x : List Watch) : (d.setWatches x).resetHeld = d.resetHeld := rfl
@[simp] theorem Device.slot_setWatches (d : Device) (x : List Watch) (j : Slot) : (d.setWatches x).slot j = d.slot j := rfl
@[simp] theorem Device.ribbon_setWatches (d : Device) (x : List Watch) (j : RibbonNo) : (d.setWatches x).ribbon j = d.ribbon j := rfl
@[simp] theorem Device.segment_setWatches (d : Device) (x : List Watch) (j : SegNo) : (d.setWatches x).segment j = d.segment j := rfl
@[simp] theorem Device.line_setWatches (d : Device) (x : List Watch) (j : SegNo) : (d.setWatches x).line j = d.line j := rfl
@[simp] theorem Device.layout_setWatches (d : Device) (x : List Watch) (j : LayoutNo) : (d.setWatches x).layout j = d.layout j := rfl
@[simp] theorem Device.row_setWatches (d : Device) (x : List Watch) (j : RowNo) : (d.setWatches x).row j = d.row j := rfl
@[simp] theorem Device.terminal_setWatches (d : Device) (x : List Watch) (j : LineNo) : (d.setWatches x).terminal j = d.terminal j := rfl
@[simp] theorem Device.dealer_setWatches (d : Device) (x : List Watch) (j : LineNo) : (d.setWatches x).dealer j = d.dealer j := rfl

@[simp] theorem Device.slots_setResetHeld (d : Device) (x : Bool) : (d.setResetHeld x).slots = d.slots := rfl
@[simp] theorem Device.ribbons_setResetHeld (d : Device) (x : Bool) : (d.setResetHeld x).ribbons = d.ribbons := rfl
@[simp] theorem Device.segments_setResetHeld (d : Device) (x : Bool) : (d.setResetHeld x).segments = d.segments := rfl
@[simp] theorem Device.lines_setResetHeld (d : Device) (x : Bool) : (d.setResetHeld x).lines = d.lines := rfl
@[simp] theorem Device.layouts_setResetHeld (d : Device) (x : Bool) : (d.setResetHeld x).layouts = d.layouts := rfl
@[simp] theorem Device.rows_setResetHeld (d : Device) (x : Bool) : (d.setResetHeld x).rows = d.rows := rfl
@[simp] theorem Device.terminals_setResetHeld (d : Device) (x : Bool) : (d.setResetHeld x).terminals = d.terminals := rfl
@[simp] theorem Device.dealers_setResetHeld (d : Device) (x : Bool) : (d.setResetHeld x).dealers = d.dealers := rfl
@[simp] theorem Device.channel_setResetHeld (d : Device) (x : Bool) : (d.setResetHeld x).channel = d.channel := rfl
@[simp] theorem Device.notices_setResetHeld (d : Device) (x : Bool) : (d.setResetHeld x).notices = d.notices := rfl
@[simp] theorem Device.directory_setResetHeld (d : Device) (x : Bool) : (d.setResetHeld x).directory = d.directory := rfl
@[simp] theorem Device.tape_setResetHeld (d : Device) (x : Bool) : (d.setResetHeld x).tape = d.tape := rfl
@[simp] theorem Device.watches_setResetHeld (d : Device) (x : Bool) : (d.setResetHeld x).watches = d.watches := rfl
@[simp] theorem Device.resetHeld_setResetHeld (d : Device) (x : Bool) : (d.setResetHeld x).resetHeld = x := rfl
@[simp] theorem Device.slot_setResetHeld (d : Device) (x : Bool) (j : Slot) : (d.setResetHeld x).slot j = d.slot j := rfl
@[simp] theorem Device.ribbon_setResetHeld (d : Device) (x : Bool) (j : RibbonNo) : (d.setResetHeld x).ribbon j = d.ribbon j := rfl
@[simp] theorem Device.segment_setResetHeld (d : Device) (x : Bool) (j : SegNo) : (d.setResetHeld x).segment j = d.segment j := rfl
@[simp] theorem Device.line_setResetHeld (d : Device) (x : Bool) (j : SegNo) : (d.setResetHeld x).line j = d.line j := rfl
@[simp] theorem Device.layout_setResetHeld (d : Device) (x : Bool) (j : LayoutNo) : (d.setResetHeld x).layout j = d.layout j := rfl
@[simp] theorem Device.row_setResetHeld (d : Device) (x : Bool) (j : RowNo) : (d.setResetHeld x).row j = d.row j := rfl
@[simp] theorem Device.terminal_setResetHeld (d : Device) (x : Bool) (j : LineNo) : (d.setResetHeld x).terminal j = d.terminal j := rfl
@[simp] theorem Device.dealer_setResetHeld (d : Device) (x : Bool) (j : LineNo) : (d.setResetHeld x).dealer j = d.dealer j := rfl

/-! The outputs of a terminal line (R131, R141). -/

@[simp] theorem Terminal.serviceOutput_eq_true (x : Terminal) : x.serviceOutput = true ↔ x.state ≠ .disabled := by
  simp [Terminal.serviceOutput]
@[simp] theorem Terminal.onWire_idle {x : Terminal} (h : x.transmitter = none) : x.onWire = none := by
  simp [Terminal.onWire, h]
@[simp] theorem Terminal.onWire_busy {x : Terminal} {y : Sending} (h : x.transmitter = some y) :
    x.onWire = if y.loop then none else some y := by
  cases hl : y.loop <;> simp [Terminal.onWire, h, Option.filter, hl]

end Sys2Proof.Machine
end

