-- ==== Sys2Proof/Laws/Fields.lean ====
section
/-! SUPPORT. Field by field, what is written in a body is read back: numbers of one to four bytes, identifiers, flags and
prices, at the front of a body and behind other fields (R181). -/

namespace Sys2Proof.Machine

theorem byte_toNat {n : Nat} (h : n < 256) : (byte n).toNat = n := by
  simp [byte, Nat.mod_eq_of_lt h]

theorem byteAt_cons (a : Byte) (b : List Byte) : byteAt (a :: b) 0 = a.toNat := rfl

theorem byteAt_succ (a : Byte) (b : List Byte) (k : Nat) : byteAt (a :: b) (k + 1) = byteAt b k := rfl

/-- A field behind others is read as if it stood at the front. -/
theorem byteAt_append (a b : List Byte) (k : Nat) : byteAt (a ++ b) (a.length + k) = byteAt b k := by
  induction a with
  | nil => simp
  | cons x a ih => rw [List.cons_append, List.length_cons, Nat.add_right_comm, byteAt_succ, ih]

theorem wordAt_append (a b : List Byte) (k : Nat) : wordAt (a ++ b) (a.length + k) = wordAt b k := by
  simp only [wordAt, Nat.add_assoc, byteAt_append]

theorem tripleAt_append (a b : List Byte) (k : Nat) : tripleAt (a ++ b) (a.length + k) = tripleAt b k := by
  simp only [tripleAt, Nat.add_assoc, byteAt_append]

theorem longAt_append (a b : List Byte) (k : Nat) : longAt (a ++ b) (a.length + k) = longAt b k := by
  simp only [longAt, tripleAt, Nat.add_assoc, byteAt_append]

theorem wordAt_wordBytes {n : Nat} (h : n < 65536) (b : List Byte) : wordAt (wordBytes n ++ b) 0 = n := by
  simp only [wordAt, wordBytes, List.cons_append, byteAt_cons, byteAt_succ, byte, BitVec.toNat_ofNat]
  omega

theorem tripleAt_tripleBytes {n : Nat} (h : n < 16777216) (b : List Byte) : tripleAt (tripleBytes n ++ b) 0 = n := by
  simp only [tripleAt, tripleBytes, List.cons_append, byteAt_cons, byteAt_succ, byte, BitVec.toNat_ofNat]
  omega

theorem longAt_longBytes {n : Nat} (h : n < 4294967296) (b : List Byte) : longAt (longBytes n ++ b) 0 = n := by
  simp only [longAt, tripleAt, longBytes, List.cons_append, byteAt_cons, byteAt_succ, byte, BitVec.toNat_ofNat]
  omega

theorem idOf_val {n : Nat} (i : Fin n) : idOf n i.val = some i := by
  simp [idOf]

/-- A price at the front of a body. -/
theorem priceAt_priceBytes (p : Price) (h : ∀ q, p = some q → q < 16777216) (b : List Byte) :
    priceAt (priceBytes p ++ b) 0 = some p := by
  cases p with
  | none => rfl
  | some q =>
    have e : tripleAt (0x00 :: (tripleBytes q ++ b)) 1 = q := by
      simpa [tripleAt, byteAt_succ] using tripleAt_tripleBytes (h q rfl) b
    simpa [priceAt, priceBytes, byteAt_cons] using e

end Sys2Proof.Machine
end

