-- ==== Sys2Proof/Laws/Frames.lean ====
section
/-! SUPPORT. What each shared operation can change: one frame lemma for each, built from the frames of the updates, and the
lemmas that put frames together. A later proof cites these and unfolds no operation to learn what it leaves alone. -/

namespace Sys2Proof.Machine

/-! ## Putting frames together -/

theorem ChangesOnly.refl (l : List Part) (d : Device) : ChangesOnly l d d := by
  intro p _
  cases p <;> rfl

theorem Device.agree_trans {a b c : Device} {p : Part} (h : a.agree b p) (k : b.agree c p) : a.agree c p := by
  cases p <;> exact Eq.trans k h

theorem ChangesOnly.trans {l : List Part} {a b c : Device} (h : ChangesOnly l a b) (k : ChangesOnly l b c) :
    ChangesOnly l a c := fun p hp => Device.agree_trans (h p hp) (k p hp)

theorem ChangesOnly.mono {l m : List Part} {a b : Device} (h : ChangesOnly l a b) (s : l ⊆ m) : ChangesOnly m a b :=
  fun p hp => h p (fun q => hp (s q))

/-- Two changes one after another, each within the parts of the whole. -/
theorem ChangesOnly.andThen {l m n : List Part} {a b c : Device} (h : ChangesOnly l a b) (k : ChangesOnly m b c)
    (hl : l ⊆ n) (hm : m ⊆ n) : ChangesOnly n a c := (h.mono hl).trans (k.mono hm)

theorem ChangesOnly.ite {l : List Part} {a b c : Device} {p : Prop} [Decidable p] (h : ChangesOnly l a b)
    (k : ChangesOnly l a c) : ChangesOnly l a (if p then b else c) := by
  split
  · exact h
  · exact k

theorem ChangesOnly.forEach {α : Type} {l : List Part} {f : α → Device → Device} (h : ∀ x d, ChangesOnly l d (f x d))
    (xs : List α) (d : Device) : ChangesOnly l d (forEach xs f d) := by
  induction xs generalizing d with
  | nil => exact .refl l d
  | cons x xs ih => exact (h x d).trans (ih (f x d))

/-! ## The updates -/

theorem setSlot_changes (d : Device) (i : Slot) (x : Record) : ChangesOnly [.slots] d (d.setSlot i x) := by
  intro p hp; cases p <;> first | rfl | simp at hp
theorem setRibbon_changes (d : Device) (r : RibbonNo) (x : Ribbon) : ChangesOnly [.ribbons] d (d.setRibbon r x) := by
  intro p hp; cases p <;> first | rfl | simp at hp
theorem setSegment_changes (d : Device) (g : SegNo) (x : Segment) : ChangesOnly [.segments] d (d.setSegment g x) := by
  intro p hp; cases p <;> first | rfl | simp at hp
theorem setLine_changes (d : Device) (g : SegNo) (x : BoardLine) : ChangesOnly [.lines] d (d.setLine g x) := by
  intro p hp; cases p <;> first | rfl | simp at hp
theorem setLayout_changes (d : Device) (k : LayoutNo) (x : List Field) : ChangesOnly [.layouts] d (d.setLayout k x) := by
  intro p hp; cases p <;> first | rfl | simp at hp
theorem setRow_changes (d : Device) (r : RowNo) (x : Row) : ChangesOnly [.rows] d (d.setRow r x) := by
  intro p hp; cases p <;> first | rfl | simp at hp
theorem setTerminal_changes (d : Device) (t : LineNo) (x : Terminal) :
    ChangesOnly [.terminals] d (d.setTerminal t x) := by
  intro p hp; cases p <;> first | rfl | simp at hp
theorem setDealer_changes (d : Device) (t : LineNo) (x : Dealer) : ChangesOnly [.dealers] d (d.setDealer t x) := by
  intro p hp; cases p <;> first | rfl | simp at hp
theorem setNotices_changes (d : Device) (x : List Notice) : ChangesOnly [.notices] d (d.setNotices x) := by
  intro p hp; cases p <;> first | rfl | simp at hp
theorem setDirectory_changes (d : Device) (x : List (Text × Slot)) : ChangesOnly [.directory] d (d.setDirectory x) := by
  intro p hp; cases p <;> first | rfl | simp at hp
theorem setTape_changes (d : Device) (x : Tape) : ChangesOnly [.tape] d (d.setTape x) := by
  intro p hp; cases p <;> first | rfl | simp at hp
theorem setWatches_changes (d : Device) (x : List Watch) : ChangesOnly [.watches] d (d.setWatches x) := by
  intro p hp; cases p <;> first | rfl | simp at hp
theorem setChannel_changes (d : Device) (x : Channel) :
    ChangesOnly [.link, .reservation, .settle] d (d.setChannel x) := by
  intro p hp; cases p <;> first | rfl | simp at hp
theorem modSettle_changes (d : Device) (f : Settle → Settle) : ChangesOnly [.settle] d (d.modSettle f) := by
  intro p hp; cases p <;> first | rfl | simp at hp
theorem endReservation_changes (d : Device) : ChangesOnly [.reservation] d (endReservation d) := by
  intro p hp; cases p <;> first | rfl | simp at hp
theorem modRow_changes (d : Device) (r : RowNo) (f : Row → Row) : ChangesOnly [.rows] d (d.modRow r f) :=
  setRow_changes d r _
theorem modSegment_changes (d : Device) (g : SegNo) (f : Segment → Segment) :
    ChangesOnly [.segments] d (d.modSegment g f) := setSegment_changes d g _
theorem modLine_changes (d : Device) (g : SegNo) (f : BoardLine → BoardLine) : ChangesOnly [.lines] d (d.modLine g f) :=
  setLine_changes d g _
theorem modRibbon_changes (d : Device) (r : RibbonNo) (f : Ribbon → Ribbon) :
    ChangesOnly [.ribbons] d (d.modRibbon r f) := setRibbon_changes d r _
theorem modTerminal_changes (d : Device) (t : LineNo) (f : Terminal → Terminal) :
    ChangesOnly [.terminals] d (d.modTerminal t f) := setTerminal_changes d t _
theorem modDealer_changes (d : Device) (t : LineNo) (f : Dealer → Dealer) :
    ChangesOnly [.dealers] d (d.modDealer t f) := setDealer_changes d t _
theorem modSlot_changes (d : Device) (i : Slot) (f : Record → Record) : ChangesOnly [.slots] d (d.modSlot i f) :=
  setSlot_changes d i _

/-! ## Notices and the settle record -/

theorem raise_changes (d : Device) (n : Notice) : ChangesOnly [.notices] d (d.raise n) :=
  .ite (.refl _ d) (setNotices_changes d _)

theorem mem_insertNotice (n m : Notice) (l : List Notice) : m ∈ insertNotice n l ↔ m = n ∨ m ∈ l := by
  induction l with
  | nil => simp [insertNotice]
  | cons k l ih =>
    unfold insertNotice
    split
    · simp
    · simp [ih]; tauto

/-- After a raising the flag is set, and every other flag is as it was (R170). -/
theorem mem_raise (d : Device) (n m : Notice) : m ∈ (d.raise n).notices ↔ m = n ∨ m ∈ d.notices := by
  unfold Device.raise
  split
  · next h => exact ⟨.inr, fun k => k.elim (fun e => e ▸ h) id⟩
  · exact mem_insertNotice n m d.notices

theorem clearNotice_changes (d : Device) (n : Notice) : ChangesOnly [.notices] d (d.clearNotice n) :=
  setNotices_changes d _

theorem settleCheck_changes (d : Device) : ChangesOnly [.settle, .notices] d d.settleCheck :=
  .ite ((modSettle_changes d _).andThen (raise_changes _ _) (by simp) (by simp)) (.refl _ d)

theorem settleReport_changes (d : Device) (f : Settle → Settle) : ChangesOnly [.settle, .notices] d (d.settleReport f) :=
  .ite ((modSettle_changes d f).andThen (settleCheck_changes _) (by simp) (by simp)) (.refl _ d)

theorem reportShown_changes (d : Device) : ChangesOnly [.settle, .notices] d d.reportShown := settleReport_changes d _
theorem reportNotShown_changes (d : Device) : ChangesOnly [.settle, .notices] d d.reportNotShown :=
  settleReport_changes d _
theorem reportReached_changes (d : Device) (r : RibbonNo) (id : Nat) :
    ChangesOnly [.settle, .notices] d (d.reportReached r id) := .ite (settleReport_changes d _) (.refl _ d)
theorem reportStopped_changes (d : Device) (r : RibbonNo) : ChangesOnly [.settle, .notices] d (d.reportStopped r) :=
  .ite (settleReport_changes d _) (.refl _ d)

/-! ## Rows and segments -/

theorem enqueueRow_changes (r : RowNo) (d : Device) : ChangesOnly [.rows, .segments] d (enqueueRow r d) := by
  unfold enqueueRow
  split
  · exact .refl _ d
  · exact (modRow_changes d r _).andThen (modSegment_changes _ _ _) (by simp) (by simp)

theorem markRow_changes (r : RowNo) (d : Device) : ChangesOnly [.rows, .segments] d (markRow r d) := by
  unfold markRow
  split
  · exact (modRow_changes d r _).andThen (enqueueRow_changes r _) (by simp) (by simp)
  · exact .refl _ d
  · exact (modRow_changes d r _).mono (by simp)
  · exact (modRow_changes d r _).mono (by simp)
  · exact .refl _ d
  · exact .refl _ d

theorem markRows_changes (l : List RowNo) (d : Device) : ChangesOnly [.rows, .segments] d (markRows l d) :=
  .forEach markRow_changes l d

theorem setStep_changes (r : RowNo) (f : ExerciseRow → ExerciseRow) (g : SegNo) (d : Device) :
    ChangesOnly [.segments] d (setStep r f g d) := modSegment_changes d g _

theorem releasePassed_changes (r : RowNo) (d : Device) : ChangesOnly [.rows, .segments] d (releasePassed r d) :=
  .ite ((modRow_changes d r _).andThen (enqueueRow_changes r _) (by simp) (by simp))
    ((modRow_changes d r _).mono (by simp))

theorem exerciseCheck_changes (g : SegNo) (d : Device) :
    ChangesOnly [.rows, .segments, .lines, .notices] d (exerciseCheck g d) := by
  refine .ite ?_ (.refl _ d)
  have h := ChangesOnly.forEach releasePassed_changes
    ((((d.segment g).exerciseList.filter (fun x => x.step == .passed))).map (·.row)) d
  have h' : ∀ e f, ChangesOnly [.segments, .lines, .notices] e ((e.modSegment g f).modLine g
      (fun l => { l with pollCursor := none }) |>.raise (.segment g)) := fun e f =>
    ((modSegment_changes e g f).andThen (modLine_changes _ g _) (n := [.segments, .lines, .notices])
      (by simp) (by simp)).trans ((raise_changes _ _).mono (by simp))
  exact h.andThen (h' _ _) (by simp) (by simp)

theorem exerciseFail_changes (r : RowNo) (d : Device) :
    ChangesOnly [.rows, .segments, .lines, .notices] d (exerciseFail r d) := by
  unfold exerciseFail
  split
  · exact .refl _ d
  · exact .ite ((setStep_changes r _ _ d).andThen (exerciseCheck_changes _ _) (by simp) (by simp)) (.refl _ d)

theorem dequeueRow_changes (r : RowNo) (d : Device) : ChangesOnly [.segments] d (dequeueRow r d) := by
  unfold dequeueRow
  split
  · exact .refl _ d
  · exact modSegment_changes d _ _

/-- The parts an entry into DOWN or FAULTED reaches (R93). -/
theorem darken_changes (r : RowNo) (s : Display) (c : Cause) (notice : Bool) (d : Device) :
    ChangesOnly [.rows, .segments, .lines, .settle, .notices] d (darken r s c notice d) := by
  have h1 : ChangesOnly [.rows, .segments, .lines, .settle, .notices] d ((dequeueRow r d).modRow r (fun x => darkRow x s c)) :=
    (dequeueRow_changes r d).andThen (modRow_changes _ r _) (by simp) (by simp)
  refine h1.trans (ChangesOnly.trans ?_ ((exerciseFail_changes r _).mono (by simp)))
  refine ChangesOnly.ite (ChangesOnly.trans ?_ ((raise_changes _ _).mono (by simp))) ?_ <;>
    exact .ite ((reportNotShown_changes _).mono (by simp)) (.refl _ _)

theorem enterDown_changes (r : RowNo) (c : Cause) (d : Device) :
    ChangesOnly [.rows, .segments, .lines, .settle, .notices] d (enterDown r c d) := darken_changes r .down c _ d

theorem enterFaulted_changes (r : RowNo) (c : Cause) (cell : Nat) (d : Device) :
    ChangesOnly [.rows, .segments, .lines, .settle, .notices] d (enterFaulted r c cell d) :=
  (modRow_changes d r _).andThen (darken_changes r .faulted c true _) (by simp) (by simp)

theorem startMotion_changes (r : RowNo) (g : SegNo) (est : Nat) (d : Device) :
    ChangesOnly [.rows, .segments] d (startMotion r g est d) :=
  (modSegment_changes d g _).andThen (modRow_changes _ r _) (by simp) (by simp)

theorem payDone_changes (r : RowNo) (d : Device) : ChangesOnly [.rows, .settle, .notices] d (payDone r d) :=
  .ite (.refl _ d)
    (.ite ((modRow_changes d r _).andThen (reportShown_changes _) (by simp) (by simp))
      ((modRow_changes d r _).mono (by simp)))

theorem completeRepaint_changes (r : RowNo) (g : SegNo) (d : Device) :
    ChangesOnly [.rows, .segments, .settle, .notices] d (completeRepaint r g d) := by
  have h : ChangesOnly [.rows, .segments, .settle, .notices] d
      (payDone r (d.modRow r (completedRow (d.segment g).hold))) :=
    (modRow_changes d r _).andThen (payDone_changes r _) (by simp) (by simp)
  exact .ite (h.trans (((modRow_changes _ r _).andThen (enqueueRow_changes r _) (n := [.rows, .segments])
    (by simp) (by simp)).mono (by simp))) h

/-! ## Board lines -/

theorem sendFrame_changes (g : SegNo) (use : LineUse) (r : RowNo) (body : FrameBody) (d : Device) :
    ChangesOnly [.lines] d (sendFrame g use r body d) := modLine_changes d g _

theorem endExchange_changes (g : SegNo) (d : Device) : ChangesOnly [.lines] d (endExchange g d) := modLine_changes d g _

theorem heard_changes (g : SegNo) (f : Frame) (d : Device) : ChangesOnly [.rows] d (heard g f d) :=
  .ite (modRow_changes d _ _) (.refl _ d)

theorem takenSilent_changes (r : RowNo) (d : Device) :
    ChangesOnly [.rows, .segments, .lines, .settle, .notices] d (takenSilent r d) := by
  unfold takenSilent
  split
  · exact enterDown_changes r _ d
  · exact enterDown_changes r _ d
  · exact enterDown_changes r _ d
  · exact .ite (.refl _ d) ((modRow_changes d r _).mono (by simp))
  · exact .refl _ d
  · exact .refl _ d

theorem unansweredPoll_changes (g : SegNo) (f : Frame) (d : Device) :
    ChangesOnly [.rows, .segments, .lines, .settle, .notices] d (unansweredPoll g f d) :=
  .ite (.refl _ d)
    (.ite ((modRow_changes d _ _).andThen (takenSilent_changes _ _) (by simp) (by simp))
      ((modRow_changes d _ _).mono (by simp)))

theorem badAnswerTo_changes (g : SegNo) (f : Frame) (d : Device) :
    ChangesOnly [.lines, .rows, .segments, .settle, .notices] d (badAnswerTo g f d) := by
  unfold badAnswerTo
  split
  · exact (endExchange_changes g d).andThen (unansweredPoll_changes g f _) (by simp) (by simp)
  · exact .ite ((modLine_changes d g _).mono (by simp))
      ((endExchange_changes g d).andThen (enterDown_changes _ _ _) (by simp) (by simp))

/-! ## The tape and the ribbons -/

theorem evaluateDelay_changes (r : RibbonNo) (d : Device) : ChangesOnly [.ribbons, .notices] d (evaluateDelay r d) :=
  .ite (.refl _ d) ((setRibbon_changes d r _).andThen (raise_changes _ _) (by simp) (by simp))

theorem joinRibbon_changes (len : Nat) (r : RibbonNo) (d : Device) :
    ChangesOnly [.ribbons, .notices] d (joinRibbon len r d) :=
  (modRibbon_changes d r _).andThen (evaluateDelay_changes r _) (by simp) (by simp)

theorem appendEntry_changes (b : EntryBody) (d : Device) :
    ChangesOnly [.tape, .ribbons, .notices] d (appendEntry b d) :=
  (setTape_changes d _).andThen (.forEach (joinRibbon_changes _) _ _) (by simp) (by simp)

/-- The parts an offer reaches (R52 to R55, R59). -/
theorem offer_changes (b : EntryBody) (d : Device) : ChangesOnly [.tape, .ribbons, .notices] d (offer b d).1 := by
  unfold offer
  split
  · exact .refl _ d
  · split
    · exact appendEntry_changes b d
    · split
      · exact (setTape_changes d _).andThen (raise_changes _ _) (by simp) (by simp)
      · split
        · exact (appendEntry_changes _ d).andThen (raise_changes _ _) (by simp) (by simp)
        · exact .refl _ d

theorem freeSlot_changes (i : Slot) (d : Device) : ChangesOnly [.slots, .ribbons] d (freeSlot i d) :=
  (setSlot_changes d i _).andThen
    (.forEach (fun r e => .ite (modRibbon_changes e r _) (.refl _ e)) everyRibbon _) (l := [.slots]) (m := [.ribbons])
    (by simp) (by simp)

theorem releaseEntry_changes (x : Entry) (d : Device) : ChangesOnly [.slots, .ribbons] d (releaseEntry x d) := by
  unfold releaseEntry
  split
  · exact .ite (freeSlot_changes _ d) (.refl _ d)
  · exact .refl _ d

/-- The parts a departure of entries reaches (R20, R55, R57). -/
theorem sweepTape_changes (d : Device) : ChangesOnly [.tape, .slots, .ribbons, .notices] d (sweepTape d) := by
  have h : ChangesOnly [.tape, .slots, .ribbons, .notices] d (forEach (d.tape.entries.filter (fun x => x.pending.isEmpty))
      releaseEntry (d.setTape { d.tape with entries := d.tape.entries.filter (fun x => !x.pending.isEmpty) })) :=
    (setTape_changes d _).andThen (.forEach releaseEntry_changes _ _) (by simp) (by simp)
  exact .ite (h.trans ((raise_changes _ _).mono (by simp))) h

theorem leavePending_changes (r : RibbonNo) (id : Nat) (d : Device) : ChangesOnly [.tape] d (leavePending r id d) :=
  setTape_changes d _

theorem leaveEvery_changes (r : RibbonNo) (d : Device) : ChangesOnly [.tape] d (leaveEvery r d) := setTape_changes d _

/-- The parts a ribbon's stop reaches (R56, R65, R81, R82). -/
theorem stopRibbon_changes (r : RibbonNo) (d : Device) :
    ChangesOnly [.tape, .slots, .ribbons, .settle, .notices] d (stopRibbon r d) := by
  have h1 : ChangesOnly [.tape, .slots, .ribbons, .settle, .notices] d (d.modRibbon r stoppedRibbon) :=
    (modRibbon_changes d r _).mono (by simp)
  have h2 : ChangesOnly [.tape, .slots, .ribbons, .settle, .notices] d
      (if (d.ribbon r).level ≠ .normal then (d.modRibbon r stoppedRibbon).raise (.ribbon r)
        else d.modRibbon r stoppedRibbon) := .ite (h1.trans ((raise_changes _ _).mono (by simp))) h1
  exact ((h2.trans ((reportStopped_changes _ r).mono (by simp))).trans ((leaveEvery_changes r _).mono (by simp))).trans
    ((sweepTape_changes _).mono (by simp))

/-! ## Terminal lines and dealers -/

theorem enterItem_changes (t : LineNo) (item : Text) (d : Device) : ChangesOnly [.terminals] d (enterItem t item d) :=
  modTerminal_changes d t _

theorem roomStep_changes (t : LineNo) (d e : Device) (h : roomStep t d = some e) :
    ChangesOnly [.terminals, .dealers] d e := by
  unfold roomStep at h
  dsimp only at h
  repeat' (first
    | (split at h)
    | (cases h; done)
    | (cases h
       first
        | exact (enterItem_changes t _ d).andThen (modDealer_changes _ t _) (by simp) (by simp)
        | exact (enterItem_changes t _ d).andThen (modTerminal_changes _ t _) (by simp) (by simp)))

theorem roomLoop_changes (n : Nat) (t : LineNo) (d : Device) : ChangesOnly [.terminals, .dealers] d (roomLoop n t d) := by
  induction n generalizing d with
  | zero => exact .refl _ d
  | succ n ih =>
    unfold roomLoop
    split
    · next e h => exact (roomStep_changes t d e h).trans (ih e)
    · exact .refl _ d

theorem startCharacter_changes (t : LineNo) (d : Device) : ChangesOnly [.terminals] d (startCharacter t d) := by
  unfold startCharacter
  dsimp only
  split
  · exact setTerminal_changes d t _
  · exact .refl _ d

/-- The parts a room event reaches (R138, R139). -/
theorem roomEvent_changes (t : LineNo) (d : Device) : ChangesOnly [.terminals, .dealers] d (roomEvent t d) :=
  .ite (((roomLoop_changes _ t d).trans ((startCharacter_changes t _).mono (by simp))).trans (roomLoop_changes _ t _))
    (.refl _ d)

theorem offerEcho_changes (t : LineNo) (e : Text) (d : Device) : ChangesOnly [.terminals] d (offerEcho t e d) :=
  .ite (enterItem_changes t e d) (.refl _ d)

theorem oweRedraw_changes (t : LineNo) (d : Device) : ChangesOnly [.terminals, .dealers] d (oweRedraw t d) :=
  (modDealer_changes d t _).andThen (roomEvent_changes t _) (by simp) (by simp)

theorem markPages_changes (i : Slot) (d : Device) : ChangesOnly [.terminals, .dealers] d (markPages i d) :=
  .forEach (fun t e => .ite (.refl _ e) ((modDealer_changes e t _).andThen (roomEvent_changes t _) (by simp) (by simp)))
    everyLine d

theorem listAlert_changes (t : LineNo) (a : Alert) (d : Device) : ChangesOnly [.dealers] d (listAlert t a d) :=
  .ite (modDealer_changes d t _) (.refl _ d)

theorem evaluateWatch_changes (i : Slot) (last : Nat) (t : LineNo) (c : Condition) (d : Device) :
    ChangesOnly [.watches, .dealers] d (evaluateWatch i last t c d) := by
  unfold evaluateWatch
  split
  · exact .refl _ d
  · exact .ite ((setWatches_changes d _).andThen (listAlert_changes t _ _) (by simp) (by simp))
      ((setWatches_changes d _).mono (by simp))

/-- The parts an evaluation of watches reaches (R155, R157). -/
theorem evaluateWatches_changes (i : Slot) (last : Price) (d : Device) :
    ChangesOnly [.watches, .terminals, .dealers] d (evaluateWatches i last d) := by
  unfold evaluateWatches
  split
  · exact .refl _ d
  · exact .forEach (fun t e => .ite
      ((ChangesOnly.forEach (evaluateWatch_changes i _ t) conditionOrder e).andThen (roomEvent_changes t _)
        (by simp) (by simp)) (.refl _ e)) everyLine d

theorem delistWatches_changes (i : Slot) (symbol : Text) (d : Device) :
    ChangesOnly [.watches, .terminals, .dealers] d (delistWatches i symbol d) :=
  .forEach (fun t e => .ite (.refl _ e)
    (((setWatches_changes e _).andThen (modDealer_changes _ t _) (n := [.watches, .dealers]) (by simp) (by simp)).andThen
      (roomEvent_changes t _) (by simp) (by simp))) everyLine d

theorem completeTest_changes (t : LineNo) (d : Device) :
    ChangesOnly [.terminals, .dealers, .notices] d (completeTest t d) := by
  unfold completeTest
  split
  · exact .refl _ d
  · exact ((modTerminal_changes d t _).andThen (raise_changes _ _) (n := [.terminals, .notices]) (by simp) (by simp)).andThen
      (roomEvent_changes t _) (by simp) (by simp)

theorem placeReply_changes (t : LineNo) (reply : Text) (d : Device) :
    ChangesOnly [.terminals, .dealers] d (placeReply t reply d) :=
  (modTerminal_changes d t _).andThen (roomEvent_changes t _) (by simp) (by simp)

/-! ## Records and requests -/

theorem endReservationOn_changes (i : Slot) (d : Device) : ChangesOnly [.reservation] d (endReservationOn i d) :=
  .ite (endReservation_changes d) (.refl _ d)

/-- The parts a change of a record reaches (R7, R9). -/
theorem writeRecord_changes (i : Slot) (x : Record) (d : Device) :
    ChangesOnly [.slots, .reservation] d (writeRecord i x d) :=
  (setSlot_changes d i _).andThen (endReservationOn_changes i _) (by simp) (by simp)

/-- The parts a trade reaches (R12, R14, R15). -/
theorem applyTrade_changes (t : TradeItem) (d : Device) :
    ChangesOnly [.slots, .reservation, .tape, .ribbons, .notices, .rows, .segments, .terminals, .dealers, .watches] d
      (applyTrade t d) := by
  refine ((writeRecord_changes t.slot (tradedRecord t (d.slot t.slot)) d).mono (by simp)).trans ?_
  have h : ∀ e : Device, ChangesOnly
      [.slots, .reservation, .tape, .ribbons, .notices, .rows, .segments, .terminals, .dealers, .watches] e
      (if t.onTape then offerEntry (.print t.slot t.price t.shares) e else e) :=
    fun e => .ite ((offer_changes _ e).mono (by simp)) (.refl _ e)
  have k : ∀ e : Device, ChangesOnly
      [.slots, .reservation, .tape, .ribbons, .notices, .rows, .segments, .terminals, .dealers, .watches] e
      (markPages t.slot (markRows (e.slot t.slot).boundRows e)) :=
    fun e => (markRows_changes _ e).andThen (markPages_changes _ _) (by simp) (by simp)
  exact (h _).trans ((k _).trans (.ite (.refl _ _) ((evaluateWatches_changes _ _ _).mono (by simp))))

/-- A request that the channel does not take changes nothing; one that it takes runs its work on the frame and readies the
reply (R163, R166). -/
theorem request_eq (kind : Byte) (body : List Byte) (work : Device → Device × Answer) (d : Device) :
    request kind body work d =
      if takesRequest kind body d then
        readyReply kind (work (beginWork kind body d)).2 (work (beginWork kind body d)).1
      else d := rfl

theorem beginWork_changes (kind : Byte) (body : List Byte) (d : Device) : ChangesOnly [.link] d (beginWork kind body d) := by
  intro p hp; cases p <;> first | rfl | simp at hp

theorem readyReply_changes (kind : Byte) (a : Answer) (d : Device) : ChangesOnly [.link] d (readyReply kind a d) := by
  intro p hp; cases p <;> first | rfl | simp at hp

/-- A request changes the link and what its work changes. -/
theorem request_changes {l : List Part} (kind : Byte) (body : List Byte) (work : Device → Device × Answer)
    (h : ∀ e, ChangesOnly l e (work e).1) (d : Device) : ChangesOnly (.link :: l) d (request kind body work d) := by
  refine .ite ?_ (.refl _ d)
  exact (((beginWork_changes kind body d).mono (by simp)).trans ((h _).mono (by simp))).trans
    ((readyReply_changes kind _ _).mono (by simp))

end Sys2Proof.Machine
end

