-- ==== Sys2Proof/Laws/PerInstr.lean ====
section
/-! SUPPORT. The families of statements that are made instruction by instruction. `BodyBound`: the body of a well-formed
request fits a frame, so that its count byte is at most 254 (section 9.2). -/

namespace Sys2Proof.Laws.BodyBound

open Machine

/-- The request a well-formed command carries has a body of at most 253 bytes. -/
def Statement (i : Instr) : Prop :=
  i.wellFormed = true → ∀ kind body, i.requestFrame = some (kind, body) → body.length ≤ 253

theorem of_fits {i : Instr} (h : ∀ kind body, i.requestFrame = some (kind, body) → i.wellFormed = true →
    bodyFits body = true) : Statement i := by
  intro hw kind body hf
  exact of_decide_eq_true (h kind body hf hw)

theorem of_none {i : Instr} (h : i.requestFrame = none) : Statement i := by
  intro _ kind body hf
  rw [h] at hf
  cases hf

theorem resetAsserted : Statement .resetAsserted := of_none rfl
theorem resetReleased : Statement .resetReleased := of_none rfl
theorem badCountFrame (count : Byte) : Statement (.badCountFrame count) := of_none rfl
theorem unknownKind (kind : Byte) (body : List Byte) : Statement (.unknownKind kind body) :=
  of_fits (fun _ _ hf hw => by cases hf; simp_all [Instr.wellFormed])
theorem gapTimerExpiry : Statement .gapTimerExpiry := of_none rfl
theorem replyTaken : Statement .replyTaken := of_none rfl
theorem replyTimerExpiry : Statement .replyTimerExpiry := of_none rfl
theorem list (body : List Byte) : Statement (.list body) :=
  of_fits (fun _ _ hf hw => by cases hf; simp_all [Instr.wellFormed])
theorem delist (body : List Byte) : Statement (.delist body) :=
  of_fits (fun _ _ hf hw => by cases hf; simp_all [Instr.wellFormed])
theorem trade (body : List Byte) : Statement (.trade body) :=
  of_fits (fun _ _ hf hw => by cases hf; simp_all [Instr.wellFormed])
theorem tradeBlock (body : List Byte) : Statement (.tradeBlock body) :=
  of_fits (fun _ _ hf hw => by cases hf; simp_all [Instr.wellFormed])
theorem quote (body : List Byte) : Statement (.quote body) :=
  of_fits (fun _ _ hf hw => by cases hf; simp_all [Instr.wellFormed])
theorem setStateOpen (body : List Byte) : Statement (.setStateOpen body) :=
  of_fits (fun _ _ hf hw => by cases hf; simp_all [Instr.wellFormed])
theorem setStateHalt (body : List Byte) : Statement (.setStateHalt body) :=
  of_fits (fun _ _ hf hw => by cases hf; simp_all [Instr.wellFormed])
theorem fetch (body : List Byte) : Statement (.fetch body) :=
  of_fits (fun _ _ hf hw => by cases hf; simp_all [Instr.wellFormed])
theorem amend (body : List Byte) : Statement (.amend body) :=
  of_fits (fun _ _ hf hw => by cases hf; simp_all [Instr.wellFormed])
theorem dayRoll (body : List Byte) : Statement (.dayRoll body) :=
  of_fits (fun _ _ hf hw => by cases hf; simp_all [Instr.wellFormed])
theorem bulletin (body : List Byte) : Statement (.bulletin body) :=
  of_fits (fun _ _ hf hw => by cases hf; simp_all [Instr.wellFormed])
theorem ribbonSetup (body : List Byte) : Statement (.ribbonSetup body) :=
  of_fits (fun _ _ hf hw => by cases hf; simp_all [Instr.wellFormed])
theorem ribbonStart (body : List Byte) : Statement (.ribbonStart body) :=
  of_fits (fun _ _ hf hw => by cases hf; simp_all [Instr.wellFormed])
theorem ribbonStopImmediate (body : List Byte) : Statement (.ribbonStopImmediate body) :=
  of_fits (fun _ _ hf hw => by cases hf; simp_all [Instr.wellFormed])
theorem ribbonStopDrain (body : List Byte) : Statement (.ribbonStopDrain body) :=
  of_fits (fun _ _ hf hw => by cases hf; simp_all [Instr.wellFormed])
theorem align (body : List Byte) : Statement (.align body) :=
  of_fits (fun _ _ hf hw => by cases hf; simp_all [Instr.wellFormed])
theorem segmentSetup (body : List Byte) : Statement (.segmentSetup body) :=
  of_fits (fun _ _ hf hw => by cases hf; simp_all [Instr.wellFormed])
theorem layout (body : List Byte) : Statement (.layout body) :=
  of_fits (fun _ _ hf hw => by cases hf; simp_all [Instr.wellFormed])
theorem bind (body : List Byte) : Statement (.bind body) :=
  of_fits (fun _ _ hf hw => by cases hf; simp_all [Instr.wellFormed])
theorem unbind (body : List Byte) : Statement (.unbind body) :=
  of_fits (fun _ _ hf hw => by cases hf; simp_all [Instr.wellFormed])
theorem rowClear (body : List Byte) : Statement (.rowClear body) :=
  of_fits (fun _ _ hf hw => by cases hf; simp_all [Instr.wellFormed])
theorem rowSetup (body : List Byte) : Statement (.rowSetup body) :=
  of_fits (fun _ _ hf hw => by cases hf; simp_all [Instr.wellFormed])
theorem exercise (body : List Byte) : Statement (.exercise body) :=
  of_fits (fun _ _ hf hw => by cases hf; simp_all [Instr.wellFormed])
theorem lineSetup (body : List Byte) : Statement (.lineSetup body) :=
  of_fits (fun _ _ hf hw => by cases hf; simp_all [Instr.wellFormed])
theorem terminalText (body : List Byte) : Statement (.terminalText body) :=
  of_fits (fun _ _ hf hw => by cases hf; simp_all [Instr.wellFormed])
theorem lineTest (body : List Byte) : Statement (.lineTest body) :=
  of_fits (fun _ _ hf hw => by cases hf; simp_all [Instr.wellFormed])
theorem collect (body : List Byte) : Statement (.collect body) :=
  of_fits (fun _ _ hf hw => by cases hf; simp_all [Instr.wellFormed])
theorem settle (body : List Byte) : Statement (.settle body) :=
  of_fits (fun _ _ hf hw => by cases hf; simp_all [Instr.wellFormed])
theorem restart (body : List Byte) : Statement (.restart body) :=
  of_fits (fun _ _ hf hw => by cases hf; simp_all [Instr.wellFormed])
theorem pacingEvent (r : RibbonNo) : Statement (.pacingEvent r) := of_none rfl
theorem characterEvent (r : RibbonNo) : Statement (.characterEvent r) := of_none rfl
theorem repaintStart (g : SegNo) : Statement (.repaintStart g) := of_none rfl
theorem lampChange (g : SegNo) : Statement (.lampChange g) := of_none rfl
theorem completionPoll (g : SegNo) : Statement (.completionPoll g) := of_none rfl
theorem readinessPoll (g : SegNo) : Statement (.readinessPoll g) := of_none rfl
theorem echoRequest (g : SegNo) : Statement (.echoRequest g) := of_none rfl
theorem patternFrameSend (g : SegNo) : Statement (.patternFrameSend g) := of_none rfl
theorem boardFrameSent (g : SegNo) : Statement (.boardFrameSent g) := of_none rfl
theorem ack (g : SegNo) (addr sum : Byte) (spoiled : Bool) : Statement (.ack g addr sum spoiled) := of_none rfl
theorem nak (g : SegNo) (addr sum : Byte) (spoiled : Bool) : Statement (.nak g addr sum spoiled) := of_none rfl
theorem status (g : SegNo) (addr state sum : Byte) (spoiled : Bool) : Statement (.status g addr state sum spoiled) := of_none rfl
theorem echo (g : SegNo) (addr : Byte) (sensed : List Byte) (sum : Byte) (spoiled : Bool) : Statement (.echo g addr sensed sum spoiled) := of_none rfl
theorem badAnswer (g : SegNo) (first : Byte) : Statement (.badAnswer g first) := of_none rfl
theorem answerTimerExpiry (g : SegNo) : Statement (.answerTimerExpiry g) := of_none rfl
theorem stallTimerExpiry (r : RowNo) : Statement (.stallTimerExpiry r) := of_none rfl
theorem holdTimerExpiry (r : RowNo) : Statement (.holdTimerExpiry r) := of_none rfl
theorem pollWaitExpiry (r : RowNo) : Statement (.pollWaitExpiry r) := of_none rfl
theorem goodCharacter (t : RxPoint) (c : Byte) : Statement (.goodCharacter t c) := of_none rfl
theorem breakReceived (t : RxPoint) : Statement (.breakReceived t) := of_none rfl
theorem lineError (t : RxPoint) (kind : RxError) : Statement (.lineError t kind) := of_none rfl
theorem linePresentRise (t : LineNo) : Statement (.linePresentRise t) := of_none rfl
theorem linePresentFall (t : LineNo) : Statement (.linePresentFall t) := of_none rfl
theorem terminalCharacterSent (t : LineNo) : Statement (.terminalCharacterSent t) := of_none rfl
theorem waitTimerExpiry (t : LineNo) : Statement (.waitTimerExpiry t) := of_none rfl
theorem dealerQuote (t : LineNo) (rest : List Byte) : Statement (.dealerQuote t rest) := of_none rfl
theorem setAWatch (t : LineNo) (rest : List Byte) : Statement (.setAWatch t rest) := of_none rfl
theorem removeWatches (t : LineNo) (rest : List Byte) : Statement (.removeWatches t rest) := of_none rfl
theorem setThePage (t : LineNo) (rest : Option (List Byte)) : Statement (.setThePage t rest) := of_none rfl
theorem forwardAText (t : LineNo) (text : List Byte) : Statement (.forwardAText t text) := of_none rfl
theorem unknownCommand (t : LineNo) (line : List Byte) : Statement (.unknownCommand t line) := of_none rfl
theorem requestByteWritten (b : Byte) : Statement (.requestByteWritten b) := of_none rfl
theorem replyByteTaken : Statement .replyByteTaken := of_none rfl
theorem wireReturnsToMark (t : LineNo) : Statement (.wireReturnsToMark t) := of_none rfl

end Sys2Proof.Laws.BodyBound
end

