-- ==== Sys2Proof/Tests/Slice0.lean ====
section
/-! SUPPORT. Tests: the checks of `WellFormed` refuse an ill-formed term each, the worked examples of the manual, small
steps on small states, and a witness for the hypotheses of each statement for the provers. -/

namespace Sys2Proof.Tests
open Sys2Proof.Machine

-- One theorem after another: so many kernel evaluations at once would need a thread each.
set_option Elab.async false

/-- A text as the manual spells it. -/
def say (s : String) : Text := txt s.toList

/-! ## WellFormed refuses -/

theorem test_wellFormed_refuses_a_good_count : (Instr.badCountFrame 1).wellFormed = false := by decide +kernel
theorem test_wellFormed_refuses_a_known_kind : (Instr.unknownKind 0x01 []).wellFormed = false := by decide +kernel
theorem test_wellFormed_refuses_a_long_body :
    (Instr.unknownKind 0x7F (List.replicate 254 0)).wellFormed = false ∧
    (Instr.list (List.replicate 254 0)).wellFormed = false := by decide +kernel
theorem test_wellFormed_refuses_the_other_action :
    (Instr.setStateOpen [0, 17, 2]).wellFormed = false ∧ (Instr.setStateHalt [0, 17, 1]).wellFormed = false ∧
    (Instr.setStateOpen [0, 17, 1]).wellFormed = true := by decide +kernel
theorem test_wellFormed_refuses_the_other_mode :
    (Instr.ribbonStopImmediate [0, 2]).wellFormed = false ∧ (Instr.ribbonStopDrain [0, 1]).wellFormed = false ∧
    (Instr.ribbonStopDrain [0, 2]).wellFormed = true := by decide +kernel
theorem test_wellFormed_refuses_a_short_echo :
    (Instr.echo 0 3 (List.replicate 31 0) 0 false).wellFormed = false := by decide +kernel
theorem test_wellFormed_refuses_an_answer_kind : (Instr.badAnswer 0 0x06).wellFormed = false := by decide +kernel
theorem test_wellFormed_refuses_an_empty_line : (Instr.unknownCommand 0 []).wellFormed = false := by decide +kernel
theorem test_wellFormed_refuses_a_long_line :
    (Instr.dealerQuote 0 (List.replicate 39 0x41)).wellFormed = false := by decide +kernel
theorem test_wellFormed_refuses_an_unprintable_line : (Instr.forwardAText 0 [0x07]).wellFormed = false := by decide +kernel

/-! ## The price formatter: the worked cases of chapter 2 -/

theorem test_rounding_at_a_glance :
    [(96, 3), (96, 2), (96, 1), (16, 3), (48, 3), (250, 3), (240, 3), (208, 3)].map
      (fun p => fractionText (10752 + p.1) p.2) =
    ["42 3/8", "42 1/2", "42 1/2", "42", "42 1/4", "43", "43", "42 3/4"].map say := by decide +kernel
theorem test_narrowed_price :
    [5, 6, 8].map (priceField (some 10860) 6) = ["   42", "42 3/8", "42 27/64"].map say := by decide +kernel
theorem test_whole_rounding_and_fill :
    [priceField (some 10880) 1 2, priceField (some 11136) 1 2, priceField (some 3160320) 3 4, priceField none 3 7,
      priceField (some 16777215) 8 13, priceField (some 16777215) 8 4] =
    ["42", "44", "----", "       ", "65535 255/256", "----"].map say := by decide +kernel
theorem test_changes_in_narrow_fields :
    [6, 5, 4, 1].map (signedChange 12 6) = [" +3/64", "+3/64", "  +0", "-"].map say ∧
    signedChange (-1000) 5 5 = say "   -4" := by decide +kernel
theorem test_volume_table :
    [9, 5, 4, 3, 2].map (volumeField 1234567) = ["    12345", "12345", " 12K", "12K", "--"].map say ∧
    [9, 5, 4].map (volumeField 999999999) = ["  9999999", "9999K", "----"].map say ∧
    [3, 2].map (volumeField 150000) = [" 1K", "1K"].map say ∧ volumeField 99 2 = say " 0" := by decide +kernel
theorem test_symbol_fields :
    symbolField true (say "ABC.B") 6 = say "ABC B " ∧ symbolField false (say "ABCDE.F") 5 = say "ABCDE" := by
  decide +kernel
theorem test_typed_prices :
    ["42", "42 3/8", "42 6/16", "3/8", "0", "65535 255/256", "042", "03/08", "0 1/2", "42 5/16"].map
      (fun t => readPrice (say t)) =
    [10752, 10848, 10848, 96, 0, 16777215, 10752, 96, 128, 10832].map some := by decide +kernel
theorem test_typed_prices_refused :
    ["65536", "42 3/7", "42 8/8", "42 0/8", "42 3/512", "42  3/8", "42.375", "+42", "123456", ""].map
      (fun t => readPrice (say t)) = List.replicate 10 none := by decide +kernel

/-! ## Lengths, times and patterns -/

/-- Two instruments of the opening rotation (section 11.1), which give the ribbon's worked lengths. -/
def xyz : Record :=
  { Record.free with
    state := .trading, symbol := say "XYZ", e := 3, group := 2, close := 10848, last := some 10880, high := some 10880,
    low := some 10848, volume := 8000, tradeCount := 16, tick := .up, revision := 17 }
def abc : Record := { Record.free with state := .listed, symbol := say "ABC", e := 3, group := 2, close := 4416 }

/-- The store of section 11.1: XYZ in slot 17 and ABC in slot 40. -/
def store : Device :=
  ((Device.powerOn.setSlot 17 xyz).setSlot 40 abc).setDirectory [(say "ABC", 40), (say "XYZ", 17)]

theorem test_normal_lengths :
    [EntryBody.print 17 10848 500, .state 17 .openWord, .corr 17 10912, .print 17 10752 100].map (normalLength store) =
    [15, 11, 18, 9] := by decide +kernel
theorem test_late_levels :
    [(22, Level.normal), (446, .normal), (461, .normal), (480, .abbreviated), (240, .abbreviated),
      (225, .abbreviated)].map (fun p => evaluatedLevel { Ribbon.powerOn with backlog := p.1, level := p.2 }) =
    [.normal, .normal, .abbreviated, .abbreviated, .abbreviated, .normal] := by decide +kernel
theorem test_abbreviated_prints_keep_or_drop_the_symbol :
    composeEntry store .abbreviated none (.print 17 10848 500) = say "XYZ 42 3/8" ∧
    composeEntry store .abbreviated (some 17) (.print 17 10848 500) = say "42 3/8" := by decide +kernel
theorem test_stall_times : [120, 240, 1290, 2590].map stallTime = [380, 560, 2135, 4085] := by decide +kernel
theorem test_pattern_of_the_worked_example :
    (exercisePattern 0x1234 5).cells.take 3 = [28, 2, 28] := by decide +kernel


/-! ## Small steps -/

/-- What a command leaves of a device; no command of the 7240 stops. -/
def after (c : Instr) (d : Device) : Device :=
  match exec c ⟨d, []⟩ with
  | .next t => t.device
  | _ => d

/-- What a list of commands, one after another, leaves of a device. -/
def afterAll (l : List Instr) (d : Device) : Device := l.foldl (fun d c => after c d) d

/-- The reply of a command. -/
def replyOf (c : Instr) (d : Device) : List Byte := (after c d).channel.reply.bytes

/-- The bad print of section 11.2: slot 17 at 43 1/2, reserved. -/
def badPrint : Device :=
  (store.setSlot 17 { xyz with
    last := some 11136, high := some 11136, low := some 10816, volume := 12300, revision := 40 }).setChannel
    { Channel.powerOn with reservation := some 17 }

def lowTrade : Instr := .trade (tradeItemBody ⟨17, 10912, 200, true, false⟩)

theorem test_reset_lines :
    (after .resetAsserted store).busy = true ∧ (after .resetAsserted (store.raise .tape)).attention = false ∧
    (store.raise .tape).attention = true := by decide +kernel
theorem test_reset_released_clears_the_store : (after .resetReleased store).slot 17 = Record.free := by decide +kernel
theorem test_bad_count_is_answered : replyOf (.badCountFrame 0) store = [0x02, 0x80, 0x02] := by decide +kernel
theorem test_unknown_kind_is_answered : replyOf (.unknownKind 0x55 [1, 2]) store = [0x02, 0xD5, 0x01] := by decide +kernel
theorem test_bytes_of_a_restart_frame :
    (afterAll [.requestByteWritten 0x01, .requestByteWritten 0x42] store).channel.reply.bytes = [0x02, 0xC2, 0x00] := by
  decide +kernel
theorem test_last_byte_of_a_reply_frees_the_channel :
    let read (n : Nat) : Device := store.setChannel
      { Channel.powerOn with state := .replying, reply := ⟨[2, 0x80, 2], n, none, false⟩, replyTimer := .running 1000 }
    (after .replyByteTaken (read 1)).channel.state = .replying ∧ (after .replyByteTaken (read 2)).channel.state = .idle := by
  decide +kernel
theorem test_list_writes_the_record :
    ((after (.list (listBody ⟨300, say "QRS", 2, 9, 2688⟩)) store).slot 300).state = .listed ∧
    replyOf (.list (listBody ⟨17, say "QRS", 2, 9, 2688⟩)) store = [0x02, 0x81, 0x04] ∧
    replyOf (.list (listBody ⟨300, say "XYZ", 2, 9, 2688⟩)) store = [0x02, 0x81, 0x05] := by decide +kernel
theorem test_trade_of_section_11_2 :
    let x := (after lowTrade badPrint).slot 17
    (x.last, x.high, x.volume, x.tick, x.revision) = (some 10912, some 11136, 12500, .down, 41) ∧
    (after lowTrade badPrint).channel.reservation = none ∧ replyOf lowTrade badPrint = [0x04, 0x83, 0x00, 0, 41] := by
  decide +kernel
theorem test_late_trade_moves_no_price :
    let x := (after (.trade (tradeItemBody ⟨17, 12000, 100, false, true⟩)) store).slot 17
    (x.last, x.high, x.tick, x.volume, x.tradeCount) = (some 10880, some 10880, .up, 8100, 17) := by decide +kernel
theorem test_amend_without_the_reservation_is_refused :
    replyOf (.amend (amendBody ⟨17, true, some (some 10880), some (some 10880), none, some 12000, none⟩)) store =
      [0x02, 0x88, 0x08] := by decide +kernel
theorem test_second_amend_of_section_11_2 :
    let d := badPrint.modSlot 17 (fun x => { x with last := some 10912, volume := 12500, tick := .down, revision := 41 })
    let x := (after (.amend (amendBody ⟨17, true, none, some (some 10912), none, some 12200, none⟩)) d).slot 17
    (x.last, x.high, x.volume, x.tick, x.revision) = (some 10912, some 10912, 12200, .down, 42) := by decide +kernel
theorem test_amend_first_of_section_11_2 :
    let x := (after (.amend (amendBody ⟨17, true, some (some 10880), some (some 10880), none, some 12000, none⟩))
      badPrint).slot 17
    (x.last, x.high, x.volume, x.tick, x.revision) = (some 10880, some 10880, 12000, .down, 41) := by decide +kernel
theorem test_trade_block_keeps_what_it_applied :
    replyOf (.tradeBlock (tradeBlockBody [⟨17, 10848, 500, true, false⟩, ⟨40, 4416, 500, true, false⟩])) store =
      [0x03, 0x84, 0x07, 1] := by decide +kernel
theorem test_quote_writes_a_crossed_pair :
    let x := (after (.quote (quoteBody ⟨17, some 10900, some 10800⟩)) store).slot 17
    (x.bid, x.ask, x.revision) = (some 10900, some 10800, 18) := by decide +kernel
theorem test_open_and_halt :
    ((after (.setStateOpen (setStateBody (40, .openWord))) store).slot 40).state = .trading ∧
    ((after (.setStateHalt (setStateBody (17, .haltWord))) store).slot 17).state = .halted ∧
    replyOf (.setStateHalt (setStateBody (40, .haltWord))) store = [0x02, 0x86, 0x07] := by decide +kernel
theorem test_fetch_by_symbol_finds_the_slot :
    (replyOf (.fetch (fetchBody (.symbol (say "ABC"), false))) store).take 6 = [48, 0x87, 0x00, 0, 40, 1] := by
  decide +kernel
theorem test_delist_frees_an_unnamed_slot :
    (after (.delist (slotBody 17)) store).slot 17 = Record.free ∧ lookup (after (.delist (slotBody 17)) store) (say "XYZ") =
      none := by decide +kernel

/-- The tape of section 11.3 in small: E5 pending on ribbon 1, E8 on ribbons 0 and 1. -/
def tape : Device :=
  ((store.setTape ⟨[⟨5, .print 17 10848 300, 15, [1]⟩, ⟨8, .print 17 10880 100, 13, [0, 1]⟩], 9⟩).setRibbon 0
    { Ribbon.powerOn with state := .running, groupMask := 4, backlog := 13, acc := 958500 }).setRibbon 1
    { Ribbon.powerOn with state := .running, groupMask := 4, backlog := 28 }

theorem test_delist_with_prints_on_tape :
    ((after (.delist (slotBody 17)) tape).slot 17).state = .delisting ∧
    replyOf (.delist (slotBody 17)) tape = [0x03, 0x82, 0x00, 4] := by decide +kernel
theorem test_trade_joins_the_tape :
    (after lowTrade tape).tape.entries.map (fun y => (y.normalLength, y.pending)) = [(15, [1]), (13, [0, 1]), (15, [0, 1])] ∧
    ((after lowTrade tape).ribbon 1).backlog = 43 := by decide +kernel
theorem test_bulletin_is_appended_or_not_wanted :
    replyOf (.bulletin (bulletinBody (1, say "HELLO"))) tape = [0x05, 0x90, 0x00, 0, 0, 3] ∧
    replyOf (.bulletin (bulletinBody (4, say "HELLO"))) tape = [0x05, 0x90, 0x00, 2, 0, 2] := by decide +kernel
theorem test_character_event_begins_the_entry :
    let x := (after (.characterEvent 0) tape).ribbon 0
    (x.acc, x.backlog, x.current, x.onLine, x.pos) = (0, 0, some 8, some 0x58, 1) := by decide +kernel
theorem test_pacing_event_adds_the_rate : ((after (.pacingEvent 1) tape).ribbon 1).acc = 1500 := by decide +kernel
theorem test_ribbon_setup_clamps_the_rates :
    replyOf (.ribbonSetup (ribbonSetupBody ⟨2, none, some 3, some 100, some 9000⟩)) tape =
      [0x09, 0x91, 0x00, 0xFF, 0xFF, 3, 0x01, 0xF4, 0x0F, 0xA0] := by decide +kernel
theorem test_ribbon_start_and_align :
    ((after (.ribbonStart [2]) (tape.modRibbon 2 (fun x => { x with lockGroup := 3 }))).ribbon 2).state = .primed ∧
    ((after (.align [3]) (tape.modRibbon 2 (fun x => { x with state := .primed, lockGroup := 3 }))).ribbon 2).state =
      .running := by decide +kernel
theorem test_ribbon_stop_releases_its_entries :
    replyOf (.ribbonStopImmediate (ribbonStopBody (1, .immediate))) tape = [0x05, 0x93, 0x00, 0, 0, 1] ∧
    ((after (.ribbonStopDrain (ribbonStopBody (1, .drain))) tape).ribbon 1).state = .draining := by decide +kernel

/-- The layout and the picture of section 11.1: SYMBOL 0-5, LAST 6-13, CHANGE 14-20, VOLUME 21-27. -/
def floorLayout : List Field := [⟨.symbol, 0, 6⟩, ⟨.last, 6, 8⟩, ⟨.change, 14, 7⟩, ⟨.volume, 21, 7⟩]
def openPicture : Image :=
  ⟨(say "XYZ     42 3/8             0    ").map drumPosition, lampsOff⟩

/-- The board of section 11.1 with row 0 bound to XYZ and marked after both blocks. -/
def board : Device :=
  (((store.setLayout 0 floorLayout).setSegment 0
    { Segment.powerOn with state := .active, motionLimit := 2, queue := [0] }).setRow 0
    { Row.powerOn with
      rowUnit := some ⟨0, 3⟩, binding := some 17, display := .queued, shown := some openPicture, shownSlot := some 17 }).modSlot
    17 (fun x => { x with boundRows := [0] })

/-- A row moving towards the picture of its record, and its completion poll awaiting its answer. -/
def sentImage : Image := composeImage board (board.segment 0) (board.row 0)
def movingBoard : Device :=
  ((board.modSegment 0 (fun x => { x with queue := [] })).modRow 0 (fun x => { x with
    display := .moving, sent := some ⟨sentImage, 1290⟩, newFresh := true, stallTimer := .running 2135,
    motionOrder := some 0 })).setLine 0 ⟨some ⟨.completionPoll, 0, 3, .poll⟩, 0, .running 40, none, some 0⟩

/-- The same row with its image in hand, sent so many times again. -/
def sendingBoard (retry : Nat) : Device :=
  ((board.modSegment 0 (fun x => { x with queue := [] })).modRow 0 (fun x => { x with
    display := .sending, sent := some ⟨sentImage, 1290⟩, newFresh := true })).setLine 0
    ⟨some ⟨.repaint, 0, 3, .image sentImage⟩, retry, .running 40, none, none⟩

theorem test_second_image_of_row_0 :
    let x := (after (.repaintStart 0) board).row 0
    x.sent.map (·.image) =
      some ⟨(say "XYZ     42 1/2   +1/8     80    ").map drumPosition, ⟨true, false, true⟩⟩ ∧
    x.sent.map (·.estimate) = some 1290 := by decide +kernel
theorem test_slowest_cell_of_row_0 :
    slowestCell (some openPicture) (composeImage board (board.segment 0) (board.row 0)) = 19 := by decide +kernel
theorem test_accepted_image_starts_the_timers :
    let x := (after (.ack 0 3 9 false) (sendingBoard 1)).row 0
    (x.display, x.stallTimer, x.pollWait) = (.moving, .running 2135, .running 50) := by decide +kernel
theorem test_completion_makes_the_row_clean :
    let x := (after (.status 0 3 1 87 false) movingBoard).row 0
    (x.display, x.holdTimer, x.stallTimer) = (.clean, .running 10, .stopped) := by decide +kernel
theorem test_stalled_row_reports_its_slowest_cell :
    let x := (after (.stallTimerExpiry 0) movingBoard).row 0
    (x.display, x.cause, x.faultCell) = (.faulted, .stalled, 19) := by decide +kernel
theorem test_late_answer_of_a_stalled_row_leaves_its_missed_count :
    let d := after (.stallTimerExpiry 0) (movingBoard.modRow 0 (fun x => { x with missed := 2 }))
    ((after (.status 0 3 1 87 false) d).row 0) = d.row 0 ∧ ((after (.status 0 3 1 87 false) d).line 0).frame = none := by
  decide +kernel
theorem test_new_fresh_is_set_whatever_the_hold :
    let x := (after (.repaintStart 0) (board.modSegment 0 (fun x => { x with hold := 0 }))).row 0
    x.newFresh = true ∧ x.sent.map (·.image.lamps.fresh) = some false := by decide +kernel
theorem test_silent_row_after_three_sends :
    ((after (.answerTimerExpiry 0) (sendingBoard 1)).line 0).retry = 2 ∧
    ((after (.nak 0 3 24 false) (sendingBoard 2)).row 0).cause = .silent ∧
    ((after (.badAnswer 0 0x41) (sendingBoard 2)).row 0).display = .down := by decide +kernel
theorem test_completion_poll_counts_a_missed_answer :
    ((after (.answerTimerExpiry 0) movingBoard).row 0).missed = 1 := by decide +kernel
theorem test_frame_on_the_line :
    frameBytes ⟨.completionPoll, 0, 3, .poll⟩ = [0x50, 3, 0x53] := by decide +kernel
theorem test_row_setup_refused_while_in_service :
    replyOf (.rowSetup (rowSetupBody (0, some ⟨0, 4⟩))) board = [0x02, 0xA5, 0x07] ∧
    replyOf (.rowSetup (rowSetupBody (1, some ⟨0, 3⟩))) board = [0x02, 0xA5, 0x05] := by decide +kernel
theorem test_bind_and_unbind :
    (after (.bind (bindBody (0, 40, 0))) board).slot 40 = { abc with boundRows := [0] } ∧
    ((after (.unbind [0]) board).slot 17).boundRows = [] := by decide +kernel
theorem test_row_clear_needs_a_fault : replyOf (.rowClear [0]) board = [0x02, 0xA4, 0x07] := by decide +kernel
theorem test_layout_marks_its_rows :
    (replyOf (.layout (layoutBody (0, floorLayout))) board) = [0x04, 0xA1, 0x00, 1, 0] := by decide +kernel
theorem test_segment_setup_clamps :
    replyOf (.segmentSetup (segmentSetupBody ⟨1, some 5, some 255, some 9, some 61, none⟩)) board =
      [0x07, 0xA0, 0x00, 15, 250, 8, 60, 0] := by decide +kernel
theorem test_exercise_lists_the_row :
    ((after (.exercise (exerciseBody (0, 0x1234))) board).segment 0).exerciseList = [⟨0, .waiting, 0⟩] := by
  decide +kernel
theorem test_empty_exercise_ends_at_once :
    let d := after (.exercise (exerciseBody (0, 0x1234))) ((board.modRow 0 (fun x => { x with display := .down })).modLine 0
      (fun l => { l with pollCursor := some 3 }))
    ((d.segment 0).state, (d.line 0).pollCursor, d.notices) = (.active, none, [.segment 0]) := by decide +kernel

/-- The exercise of that row at its echo. -/
def echoBoard : Device :=
  ((board.modSegment 0 (fun x => { x with
    state := .exercise, queue := [], seed := 0x1234, exerciseList := [⟨0, .echoing, 1290⟩] })).modRow 0 (fun x => { x with
      display := .clean })).setLine 0 ⟨some ⟨.echoRequest, 0, 3, .echoRequest⟩, 0, .running 120, none, some 0⟩

/-- An echo of unit 3 with its right sum. -/
def echoed (cells : List Nat) : Instr :=
  .echo 0 3 (cells.map byte) (frameSum (0x65 :: 3 :: cells.map byte)) false

theorem test_exercise_passes :
    let d := after (echoed (exercisePattern 0x1234 0).cells) (echoBoard.modLine 0 (fun l => { l with pollCursor := some 3 }))
    ((d.segment 0).state, (d.segment 0).result, (d.row 0).display) = (.active, ⟨1, 1, 0⟩, .queued) ∧
    ((d.line 0).frame, (d.line 0).pollCursor, (d.line 0).completionCursor) = (none, none, some 0) := by decide +kernel
theorem test_exercise_finds_a_stuck_cell :
    let x := (after (echoed ((exercisePattern 0x1234 0).cells.set 7 39)) echoBoard).row 0
    (x.display, x.cause, x.faultCell) = (.faulted, .mismatch, 7) := by decide +kernel
theorem test_lamp_change_and_readiness_poll :
    let lit := board.modRow 0 (fun x => { x with display := .clean, lampOffOwed := true }) |>.modSegment 0
      (fun x => { x with queue := [] })
    ((after (.lampChange 0) lit).line 0).frame.map frameBytes = some [0x4C, 3, 0, 0x4F] ∧
    (after (.readinessPoll 0) lit) = lit ∧
    ((after (.readinessPoll 0) (lit.modRow 0 (fun x => { x with lampOffOwed := false }))).line 0).pollCursor = some 3 := by
  decide +kernel
theorem test_abandoned_frame_and_reply :
    (afterAll [.requestByteWritten 3, .gapTimerExpiry] store).channel.framesAbandoned = 1 ∧
    (afterAll [.badCountFrame 0, .replyTimerExpiry] store).notices = [.channel] := by decide +kernel
theorem test_hold_expiry_owes_a_lamp_change :
    ((after (.holdTimerExpiry 0) (board.modRow 0 (fun x => { x with display := .clean, holdTimer := .running 10 }))).row
      0).lampOffOwed = true := by decide +kernel

/-- The three watches of one slot on an ACTIVE line: ABOVE and BELOW 42 1/2, ANY. -/
def watched : Device :=
  (store.setTerminal 4 { Terminal.powerOn with state := .active, present := true }).setWatches
    [⟨4, 17, .any, none, .armed⟩, ⟨4, 17, .below, some 10880, .armed⟩, ⟨4, 17, .above, some 10880, .fired⟩]

theorem test_evaluation_of_three_watches :
    let d := evaluateWatches 17 (some 10848) (watched.modTerminal 4 (fun x => { x with state := .loopback }))
    d.watches.map (·.state) = [.armed, .fired, .armed] ∧
    (d.dealer 4).alerts = [.watch 17 .below, .watch 17 .any] := by decide +kernel
theorem test_quote_reply_is_79_characters :
    (quoteText xyz).length = 79 ∧ (quoteText xyz).drop 75 = say " TRD" := by decide +kernel
theorem test_watch_commands :
    ((after (.setAWatch 4 (say "ABC >= 43")) watched).watches.getLast?) = some ⟨4, 40, .above, some 11008, .armed⟩ ∧
    (after (.removeWatches 4 (say "XYZ *")) watched).watches.map (·.cond) = [.below, .above] := by decide +kernel
theorem test_page_and_forward :
    ((after (.setThePage 4 (some (say "XYZ ABC"))) watched).dealer 4).entry 1 = some 40 ∧
    ((after (.forwardAText 4 (say "HI")) watched).dealer 4).forward = say "HI" := by decide +kernel
theorem test_refused_lines_answer_on_the_line :
    ((after (.unknownCommand 4 (say "Z")) watched).terminal 4).queue.length = 11 ∧
    ((after (.dealerQuote 4 (say "NOPE")) watched).terminal 4).queue.length = 11 := by decide +kernel
theorem test_characters_are_echoed :
    let typed := watched.modTerminal 4 (fun x => { x with input := [0x51, 0x20] })
    let x := (after (.goodCharacter ⟨4, .wire⟩ 0x08) typed).terminal 4
    (x.input, x.transmitter.map (·.char), x.queue) = ([0x51], some 0x08, [0x20, 0x08]) := by decide +kernel
theorem test_line_error_and_break :
    ((after (.lineError ⟨4, .wire⟩ .parity) watched).terminal 4).errored = true ∧
    ((after (.breakReceived ⟨4, .wire⟩) watched).terminal 4).receiver = .afterBreak ∧
    ((afterAll [.breakReceived ⟨4, .wire⟩, .wireReturnsToMark 4] watched).terminal 4).receiver = .idle := by decide +kernel
theorem test_line_presence :
    ((after (.linePresentFall 4) watched).terminal 4).state = .absent ∧
    ((afterAll [.linePresentFall 4, .linePresentRise 4] watched).terminal 4).state = .active ∧
    (after (.linePresentFall 4) watched).attention = true := by decide +kernel
theorem test_line_setup_reports_the_settings :
    replyOf (.lineSetup (lineSetupBody ⟨4, some .b9600, some .odd7, none⟩)) watched =
      [0x07, 0xB0, 0x00, 0x25, 0x80, 1, 2, 1] := by decide +kernel
theorem test_terminal_text_goes_out :
    let d := after (.terminalText (textBody (4, say "HI"))) watched
    (d.terminal 4).transmitter.map (·.char) = some 0x10 ∧
    ((after (.terminalCharacterSent 4) d).terminal 4).transmitter.map (·.char) = some 0x56 := by decide +kernel
theorem test_line_test_matches :
    ((afterAll [.lineTest (textBody (4, say "A")), .terminalCharacterSent 4, .goodCharacter ⟨4, .loop⟩ 0x41] watched).terminal
      4).testResult = .matched ∧
    ((afterAll [.lineTest (textBody (4, say "A")), .terminalCharacterSent 4, .waitTimerExpiry 4] watched).terminal
      4).testResult = .mismatch 0 ⟨false, false, false, true⟩ := by decide +kernel
theorem test_late_test_character_is_discarded :
    let d := afterAll [.lineTest (textBody (4, say "A")), .terminalCharacterSent 4, .waitTimerExpiry 4] watched
    (d.terminal 4).state = .active ∧ after (.goodCharacter ⟨4, .loop⟩ 0x41) d = d := by decide +kernel
theorem test_service_output_and_wire_in_a_test :
    let x := (after (.lineTest (textBody (4, say "A"))) watched).terminal 4
    x.transmitter.isSome = true ∧ x.onWire = none ∧ x.serviceOutput = true ∧ (watched.terminal 5).serviceOutput = false := by
  decide +kernel
theorem test_parity_bits_of_a_character :
    charWire .even7 0x41 = [false, true, false, false, false, false, false, true, false, true] ∧
    judge .odd7 false (dataBits 7 0x41) [false] true = .parity := by decide +kernel
theorem test_collect_reads_the_lowest_notice :
    replyOf (.collect []) ((store.raise .tape).raise (.segment 2)) =
      [0x0C, 0xC0, 0x00, 2, 2, 0, 30, 120, 4, 10, 0, 0, 0] ∧
    replyOf (.collect []) store = [0x03, 0xC0, 0x00, 0] := by decide +kernel
theorem test_settle_counts_the_board :
    replyOf (.settle []) board = [0x06, 0xC1, 0x00, 0, 1, 0, 0] ∧
    replyOf (.settle []) tape = [0x06, 0xC1, 0x00, 0, 0, 2, 0] := by decide +kernel
theorem test_restart_keeps_the_store :
    (after (.restart []) board).slot 17 = board.slot 17 ∧ ((after (.restart []) board).row 0).display = .down := by
  decide +kernel
theorem test_day_roll_closes_at_last :
    let x := (after (.dayRoll []) store).slot 17
    (x.state, x.close, x.last, x.volume, x.tick) = (.listed, 10880, none, 0, .none) := by decide +kernel

/-! ## Witnesses: states and operands that meet the hypotheses of each statement -/

/-! ### The queue, reset and the handshake -/

/-- The store with its channel receiving, and replying. -/
def receiving (bytes : List Byte) : Device :=
  store.setChannel { Channel.powerOn with state := .receiving, assembly := bytes, gapTimer := .running 100 }
def replying (bytes : List Byte) (taken : Nat) (n : Option Notice) (text : Bool) : Device :=
  store.setChannel { Channel.powerOn with state := .replying, reply := ⟨bytes, taken, n, text⟩, replyTimer := .running 1000 }

theorem witness_ResetHoldsAndReleasesThePart :
    (store.setResetHeld true).resetHeld = true ∧ (Instr.collect []).ofChannel = true ∧
    (Instr.replyByteTaken).ofChannel = true := by decide +kernel
theorem witness_WrittenBytesBuildTheRequest :
    (store.resetHeld = false ∧ store.channel.state = .idle ∧ (1 : Byte) ≠ 0 ∧ (254 : Byte) ≠ 255) ∧
    ((receiving [2]).channel.state = .receiving ∧ (receiving [2]).channel.assembly = 2 :: [] ∧
      ([] : List Byte).length + 1 < (2 : Byte).toNat) ∧
    ((receiving [1]).channel.state = .receiving ∧
      (receiving [1]).channel.assembly ++ [0x42] = byte (([] : List Byte).length + 1) :: 0x42 :: []) ∧
    (receiving [254, 0x7F]).channel.assembly ++ List.replicate 253 0 =
      byte ((List.replicate 253 (0 : Byte)).length + 1) :: 0x7F :: List.replicate 253 0 ∧
    (replying [2, 0x80, 2] 0 none false).channel.state = .replying := by decide +kernel
theorem witness_FrameByBytesIsTheCommand :
    ∃ s : State, s.device.resetHeld = false ∧ s.device.channel.state = .idle ∧ (slotBody 17).length ≤ 253 ∧
      s.pending = (byte ((slotBody 17).length + 1) :: 0x02 :: slotBody 17).map .requestByteWritten ++ [.gapTimerExpiry] :=
  ⟨⟨store, (3 :: 0x02 :: slotBody 17).map .requestByteWritten ++ [.gapTimerExpiry]⟩, by decide +kernel⟩
theorem witness_ChannelTimersAbandonAndCount :
    ((receiving [3]).resetHeld = false ∧ (receiving [3]).channel.state = .receiving ∧
      (receiving [3]).channel.gapTimer = .running 100) ∧
    (store.channel.state ≠ .receiving ∧ store.channel.gapTimer = .stopped) ∧
    ((replying [2, 0xC0, 0] 1 (some .channel) false).channel.state = .replying ∧
      (replying [2, 0xC0, 0] 1 (some .channel) false).channel.replyTimer = .running 1000) := by decide +kernel
theorem witness_TakenReplyFreesTheChannel :
    let d := replying [2, 0x80, 2] 1 none false
    let e := replying [2, 0x80, 2] 2 (some (.terminal 4)) true
    (d.resetHeld = false ∧ d.channel.state = .replying ∧ d.channel.reply.taken + 1 < d.channel.reply.bytes.length) ∧
    e.channel.state = .replying ∧ ¬ e.channel.reply.taken + 1 < e.channel.reply.bytes.length := by decide +kernel

/-! ### The common checks -/

theorem witness_CommonChecksReadTheFrameAlone :
    (requestKinds.contains 0x0A = false ∧ takesRequest 0x0A [1] store = true) ∧
    ((Instr.delist [0]).wellFormed = true ∧ (Instr.delist [0]).requestFrame = some (0x02, [0]) ∧
      requestKinds.contains 0x02 = true ∧
      takesRequest 0x02 [0] store = true ∧ commonRefusal 0x02 [0] = some .badLength) ∧
    ((Instr.delist [8, 0]).wellFormed = true ∧ (Instr.delist [8, 0]).requestFrame = some (0x02, [8, 0]) ∧
      takesRequest 0x02 [8, 0] store = true ∧
      commonRefusal 0x02 [8, 0] = some .badField) := by decide +kernel
theorem witness_RefusedRequestChangesNothing :
    ∃ (c : Instr) (s t : State), c.requestFrame = some (0x02, slotBody 5) ∧ exec c s = .next t ∧
      t.device.channel.reply.bytes[2]? = some 0x07 ∧ (0x07 : Byte) ≠ 0x00 ∧
      ((0x02 : Byte) = 0x04 → t.device.channel.reply.bytes[3]? = some 0) :=
  ⟨.delist (slotBody 5), ⟨store, []⟩, _, by decide +kernel, rfl, by decide +kernel, by decide +kernel, by decide +kernel⟩
theorem witness_RefusedRequestChangesNothing_block :
    ∃ (c : Instr) (s t : State), c.requestFrame = some (0x04, tradeItemBody ⟨40, 1, 1, true, false⟩) ∧
      exec c s = .next t ∧ t.device.channel.reply.bytes[2]? = some 0x07 ∧ t.device.channel.reply.bytes[3]? = some 0 :=
  ⟨.tradeBlock (tradeItemBody ⟨40, 1, 1, true, false⟩), ⟨store, []⟩, _, by decide +kernel, rfl, by decide +kernel,
    by decide +kernel⟩

/-! ### The quotation store -/

/-- XYZ halted in slot 18, with its symbol in no directory pair: a state for the tests of SET-STATE alone. -/
def halted : Device := store.setSlot 18 { xyz with state := .halted }

def qrs : List Byte := listBody ⟨300, say "QRS", 2, 9, 2688⟩
def sale (i : Slot) : TradeItem := ⟨i, 10912, 200, true, false⟩

theorem witness_ListWritesTheRecord :
    takesRequest 0x01 qrs store = true ∧ readList qrs = .ok ⟨300, say "QRS", 2, 9, 2688⟩ ∧
    (store.slot 300).state = .free ∧ lookup store (say "QRS") = none := by decide +kernel
theorem witness_MarketRequestsRefusedByState :
    (readList (listBody ⟨17, say "QRS", 2, 9, 0⟩) = .ok ⟨17, say "QRS", 2, 9, 0⟩ ∧ (store.slot 17).state ≠ .free) ∧
    (readList (listBody ⟨0, say "XYZ", 2, 9, 0⟩) = .ok ⟨0, say "XYZ", 2, 9, 0⟩ ∧ (store.slot 0).state = .free ∧
      lookup store (say "XYZ") ≠ none) ∧
    (takesRequest 0x03 (tradeItemBody (sale 40)) store = true ∧ readTrade (tradeItemBody (sale 40)) = .ok (sale 40) ∧
      (store.slot 40).state ≠ .trading) ∧
    (takesRequest 0x05 (quoteBody ⟨2047, none, none⟩) store = true ∧
      readQuote (quoteBody ⟨2047, none, none⟩) = .ok ⟨2047, none, none⟩ ∧ isListed (store.slot 2047).state = false) ∧
    (takesRequest 0x06 (setStateBody (17, .openWord)) store = true ∧
      readSetState (setStateBody (17, .openWord)) = .ok (17, .openWord) ∧ (store.slot 17).state ≠ .listed ∧
      (store.slot 17).state ≠ .halted) ∧
    (readSetState (setStateBody (40, .haltWord)) = .ok (40, .haltWord) ∧ (store.slot 40).state ≠ .trading) ∧
    (takesRequest 0x02 (slotBody 5) store = true ∧ readSlot (slotBody 5) = .ok 5 ∧ isListed (store.slot 5).state = false) ∧
    (takesRequest 0x07 (fetchBody (.slot 5, true)) store = true ∧
      readFetch (fetchBody (.slot 5, true)) = .ok (.slot 5, true)) := by decide +kernel
theorem witness_TickFollowsTheTable :
    ((10848 : Nat) < 10880 ∧ (10816 : Nat) < 10848) ∧
    (takesRequest 0x03 (tradeItemBody (sale 17)) store = true ∧ readTrade (tradeItemBody (sale 17)) = .ok (sale 17) ∧
      (store.slot 17).state = .trading ∧ (sale 17).late = false) ∧
    (let f : AmendFields := ⟨17, true, some (some 10880), some (some 10880), none, some 12000, none⟩
     takesRequest 0x08 (amendBody f) badPrint = true ∧ readAmend (amendBody f) = .ok f ∧ f.last = some (some 10880) ∧
      (badPrint.slot 17).last ≠ some 10880 ∧ (replyOf (.amend (amendBody f)) badPrint)[2]? = some 0x00) := by
  decide +kernel
theorem witness_TradeChangesRecordAndHandsOn :
    takesRequest 0x03 (tradeItemBody (sale 17)) badPrint = true ∧
    readTrade (tradeItemBody (sale 17)) = .ok (sale 17) ∧ (badPrint.slot 17).state = .trading := by decide +kernel
theorem witness_TradeBlockStopsAtTheFirstRefusedItem :
    takesRequest 0x04 (tradeBlockBody [sale 17, sale 40]) store = true ∧
    readTradeBlock (tradeBlockBody [sale 17, sale 40]) = .ok [sale 17, sale 40] ∧
    (takesRequest 0x03 (tradeItemBody (sale 17)) store = true ∧ readTrade (tradeItemBody (sale 17)) = .ok (sale 17) ∧
      (store.slot 17).state = .trading) := by decide +kernel
theorem witness_QuoteAndSetStateChangeTheRecord :
    (takesRequest 0x05 (quoteBody ⟨17, some 1, none⟩) store = true ∧
      readQuote (quoteBody ⟨17, some 1, none⟩) = .ok ⟨17, some 1, none⟩ ∧ isListed (store.slot 17).state = true) ∧
    (takesRequest 0x06 (setStateBody (40, .openWord)) store = true ∧
      readSetState (setStateBody (40, .openWord)) = .ok (40, .openWord) ∧ (store.slot 40).state = .listed) ∧
    (takesRequest 0x06 (setStateBody (18, .openWord)) halted = true ∧
      readSetState (setStateBody (18, .openWord)) = .ok (18, .openWord) ∧ (halted.slot 18).state = .halted) ∧
    (readSetState (setStateBody (17, .haltWord)) = .ok (17, .haltWord) ∧ (store.slot 17).state = .trading) := by
  decide +kernel

/-- XYZ with all that a DELIST takes away: a bound row, a watch, a page entry, and a TERMINAL line under test. -/
def followed : Device :=
  ((((store.setSlot 17 { xyz with boundRows := [0] }).setRow 0
    { Row.powerOn with rowUnit := some ⟨0, 3⟩, binding := some 17, cause := .unknown }).setWatches
    [⟨4, 17, .above, some 10880, .armed⟩]).setDealer 4 { Dealer.powerOn with page := [(2, some 17)] }).setTerminal 4
    { Terminal.powerOn with state := .loopback, present := true, test := some ⟨.active, [0x41], [], 1, .stopped⟩ }

theorem witness_DelistWithdrawsTheInstrument :
    takesRequest 0x02 (slotBody 17) followed = true ∧ readSlot (slotBody 17) = .ok 17 ∧
    isListed (followed.slot 17).state = true ∧ (followed.terminal 4).state = .loopback ∧
    (∃ w ∈ followed.watches, w.terminal = 4 ∧ w.slot = 17) ∧ (0 : RowNo) ∈ (followed.slot 17).boundRows := by
  decide +kernel
theorem followed_sound : WatchesSound followed := by
  refine ⟨by decide +kernel, by decide +kernel, by decide +kernel, by decide +kernel, by decide +kernel, fun t => ?_⟩
  have ha : ∀ t, (followed.dealer t).alerts = [] := by decide +kernel
  rw [ha]
  exact ⟨.nil, by decide, fun _ _ h => nomatch h⟩
theorem witness_DelistWithdrawsTheInstrument_alerts :
    WatchesSound followed ∧ (followed.terminal 4).takesNoItem ∧ (followed.dealer 4).entry 2 = some 17 ∧
    (watched.terminal 4).state = .active ∧
    Terminal.takesNoItem { watched.terminal 4 with
      queue := List.replicate 508 0x41, transmitter := some ⟨0x41, .even7, .b1200, false⟩ } :=
  ⟨followed_sound, .inl (by decide +kernel), by decide +kernel, by decide +kernel, .inr (by decide +kernel)⟩
theorem witness_FetchReportsTheRecord :
    (takesRequest 0x07 (fetchBody (.slot 17, true)) store = true ∧
      readFetch (fetchBody (.slot 17, true)) = .ok (.slot 17, true) ∧ isListed (store.slot 17).state = true) ∧
    (takesRequest 0x07 (fetchBody (.symbol (say "QRS"), false)) store = true ∧
      readFetch (fetchBody (.symbol (say "QRS"), false)) = .ok (.symbol (say "QRS"), false) ∧
      lookup store (say "QRS") = none) := by decide +kernel

/-- A correction that keeps R2, and one that breaks it. -/
def amended (high : Price) : AmendFields := ⟨17, true, some (some 10880), some high, none, some 12000, none⟩

theorem witness_AmendNeedsTheReservation :
    takesRequest 0x08 (amendBody (amended (some 10880))) badPrint = true ∧
    readAmend (amendBody (amended (some 10880))) = .ok (amended (some 10880)) ∧
    badPrint.channel.reservation = some 17 ∧ store.channel.reservation ≠ some 17 ∧
    (badPrint.slot 17).tradeCount ≤ 65535 ∧
    RecordSound { badPrint.slot 17 with
      last := some 10880, high := some 10880, volume := 12000, tick := .down, revision := 41 } := by
  refine ⟨by decide +kernel, by decide +kernel, by decide +kernel, by decide +kernel, by decide +kernel, ?_⟩
  exact ⟨.inr ⟨10880, 10880, 10816, by decide +kernel⟩, by decide +kernel, by decide +kernel⟩
theorem witness_AmendNeedsTheReservation_unsound :
    readAmend (amendBody (amended none)) = .ok (amended none) ∧
    ¬ RecordSound { badPrint.slot 17 with last := some 10880, high := none, volume := 12000, tick := .down, revision := 41 } := by
  refine ⟨by decide +kernel, ?_⟩
  rintro ⟨⟨h, _⟩ | ⟨_, _, _, _, h, _⟩, _⟩ <;> simp at h
theorem witness_DayRollRollsEveryListedSlot :
    takesRequest 0x09 [] followed = true ∧ isListed (followed.slot 17).state = true ∧
    (0 : RowNo) ∈ (followed.slot 17).boundRows ∧ (followed.terminal 4).state ≠ .active ∧
    (followed.dealer 4).entry 2 = some 17 := by decide +kernel

theorem xyz_sound : RecordSound xyz :=
  ⟨.inr ⟨10880, 10880, 10848, by decide +kernel⟩, by decide +kernel, by decide +kernel⟩
theorem slot_store (i : Slot) : store.slot i = if i = 40 then abc else if i = 17 then xyz else Record.free := by
  simp only [store, Device.slot_setDirectory, Device.slot_setSlot]
  rfl
theorem witness_EveryStepKeepsRecordsSound :
    (∃ t, step ⟨store, [.trade (tradeItemBody (sale 17))]⟩ = .next t) ∧ RecordsSound store := by
  refine ⟨⟨_, rfl⟩, fun i => ?_⟩
  rw [slot_store]
  split
  · exact ⟨.inl ⟨rfl, rfl, rfl⟩, by decide, by decide⟩
  · split
    · exact xyz_sound
    · exact ⟨.inl ⟨rfl, rfl, rfl⟩, by decide, by decide⟩
theorem directory_store : DirectorySound store := by
  refine ⟨by decide +kernel, fun x i => ?_⟩
  rw [slot_store]
  show (x, i) ∈ [(say "ABC", (40 : Slot)), (say "XYZ", 17)] ↔ _
  by_cases h40 : i = 40
  · subst h40
    simp [isListed, abc, eq_comm]
  · by_cases h17 : i = 17
    · subst h17
      simp [isListed, xyz, eq_comm]
    · simp [h40, h17, isListed, Record.free]
theorem slot_followed (i : Slot) : followed.slot i = if i = 17 then { xyz with boundRows := [0] } else store.slot i := by
  simp only [followed, Device.slot_setTerminal, Device.slot_setDealer, Device.slot_setWatches, Device.slot_setRow,
    Device.slot_setSlot]
theorem row_followed (r : RowNo) : (followed.row r).binding = if r = 0 then some 17 else none := by
  revert r
  decide +kernel
theorem entry_followed (l : LineNo) (p : PageNo) :
    (followed.dealer l).entry p = if l = 4 ∧ p = 2 then some 17 else none := by
  revert l p
  decide +kernel
theorem witness_EveryStepKeepsDirectorySound :
    (∃ t, step ⟨followed, [.list qrs]⟩ = .next t) ∧ DirectorySound followed ∧ ReservationSound followed ∧
    BindingsSound followed ∧ ReferencesSound followed := by
  have h17 : isListed (followed.slot 17).state = true := by decide +kernel
  refine ⟨⟨_, rfl⟩, ⟨by decide +kernel, fun x i => ?_⟩, fun i h => (nomatch h), fun i => ?_, (fun _ h => (nomatch h)),
    (fun r i h => ?_), (fun r i h => ?_), by decide +kernel, fun l p i h => ?_⟩
  · rw [show followed.directory = store.directory from rfl, directory_store.2 x i, slot_followed]
    split
    · next h => subst h; exact Iff.rfl
    · exact Iff.rfl
  · simp only [row_followed, slot_followed, slot_store]
    split
    · next h => subst h; exact ⟨by decide, by decide, fun r => by simp⟩
    · next h => split_ifs <;> exact ⟨by decide, by decide, fun r => by
        split_ifs <;> simp [abc, Record.free, Ne.symm h]⟩
  · have hr : ∀ r, (followed.ribbon r).lastShown = none := by decide +kernel
    rw [hr] at h
    exact nomatch h
  · rw [row_followed] at h
    split at h <;> simp at h
    exact h ▸ h17
  · rw [entry_followed] at h
    split at h <;> simp at h
    exact h ▸ h17
theorem witness_ReservationGuardsTheRevision :
    (∃ t, step ⟨badPrint, [.fetch (fetchBody (.slot 40, false))]⟩ = .next t ∧ t.device.channel.reservation = some 17) ∧
    ReservationSound badPrint ∧ badPrint.channel.reservation = some 17 := by
  refine ⟨⟨_, rfl, by decide +kernel⟩, fun i h => ?_, by decide +kernel⟩
  obtain rfl : (17 : Slot) = i := Option.some.inj h
  decide +kernel

/-! ### The formatter and the tape -/

theorem witness_FittedTextsFillTheirFields :
    (1 : Nat) ≤ 32 ∧ (fractionText 10880 1).length = 6 ∧ (digits (wholeRounding 10880)).length = 2 ∧
    ({ xyz with state := .halted }.state = .halted ∧ 4 ≤ 4) ∧ (abc.state = .listed ∧ abc.last = none) ∧
    (xyz.state ≠ .listed ∧ xyz.state ≠ .halted ∧ xyz.last = some 10880 ∧ 10880 ≠ xyz.close ∧
      { xyz with close := 10880 }.last = some { xyz with close := 10880 }.close) ∧
    (∃ k, 1 ≤ k ∧ k ≤ xyz.e ∧ (fractionText (10880 - xyz.close) k).length ≤ 4 ∧
      ∀ j, k < j → j ≤ xyz.e → 4 < (fractionText (10880 - xyz.close) j).length) ∧
    (1 ≤ 1 ∧ ¬ (digits (wholeRounding (10880 - xyz.close))).length ≤ 0) := by
  refine ⟨by decide, by decide +kernel, by decide +kernel, by decide +kernel, by decide +kernel, by decide +kernel,
    ⟨xyz.e, by decide +kernel, by decide +kernel, by decide +kernel, fun j h h' => absurd h' (by omega)⟩, by decide +kernel⟩
theorem witness_WrittenPriceReadsBack :
    ((16777215 : Nat) ≤ 16777215 ∧ (8 : Nat) ≤ 8 ∧ 256 / 2 ^ 8 ∣ 16777215) ∧ ((0 : Nat) ≤ 16777215 ∧ 256 / 2 ^ 1 ∣ 0) := by
  decide +kernel

/-- A tape of n prints for ribbon 0, and the same with a GAP behind them. -/
def prints (n : Nat) : List Entry := (List.range n).map (fun k => ⟨k, .print 17 10848 300, 15, [0]⟩)
def tapeOf (l : List Entry) : Device := tape.setTape ⟨l, 600⟩

theorem witness_OfferPlacesTheEntry :
    (EntryBody.print 17 10848 300).isGap = false ∧
    everyRibbon.filter (fun r => (store.ribbon r).state == .running && (store.ribbon r).groupMask.getLsbD 2) = [] ∧
    everyRibbon.filter (fun r => (tape.ribbon r).state == .running && (tape.ribbon r).groupMask.getLsbD 2) ≠ [] ∧
    (tape.slot 17).group = 2 ∧
    (tapeOf (prints 510)).tape.entries.length ≤ 510 ∧
    ((tapeOf (prints 511)).tape.entries.length = 511 ∧ tailIsGap (tapeOf (prints 511)).tape.entries = false) ∧
    (511 ≤ (tapeOf (prints 510 ++ [⟨511, .gap 65535, 11, [0]⟩])).tape.entries.length ∧
      511 ≤ (tapeOf (prints 511 ++ [⟨511, .gap 1, 11, [0]⟩])).tape.entries.length) := by decide +kernel
theorem witness_LateLevelFollowsTheTable :
    let x (n : Nat) (l : Level) : Ribbon := { Ribbon.powerOn with backlog := n, level := l }
    let delay (y : Ribbon) : Nat := y.backlog * 100 / y.normalRate
    [x 1350 .normal, x 1349 .digits, x 690 .abbreviated, x 689 .digits, x 450 .normal, x 449 .abbreviated, x 240 .normal,
      x 239 .digits].map delay = [90, 89, 46, 45, 30, 29, 16, 15] := by decide +kernel

/-- A DELISTING slot whose last print has just left every pending set, a GAP beside it. -/
def spent : Device :=
  (tape.setTape ⟨[⟨5, .print 17 10848 300, 15, []⟩, ⟨6, .gap 2, 11, []⟩, ⟨8, .bulletin 1 (say "HI"), 5, [0]⟩], 9⟩).modSlot 17
    (fun x => { x with state := .delisting })
/-- The same with ribbon 1's last-shown slot the one that goes, and ribbon 0's one that stays. -/
def remembered : Device :=
  (spent.modRibbon 1 (fun x => { x with lastShown := some 17 })).modRibbon 0 (fun x => { x with lastShown := some 40 })

theorem witness_DepartedEntriesReleaseTheirSlots :
    let gone := spent.tape.entries.filter (fun x => x.pending.isEmpty)
    let kept := spent.tape.entries.filter (fun x => !x.pending.isEmpty)
    ((spent.slot 17).state = .delisting ∧ gone.any (fun x => x.body.slot? == some 17) = true ∧
      kept.any (fun x => x.body.slot? == some 17) = false) ∧
    gone.any (fun x => x.body.isGap) = true ∧ kept.any (fun x => x.body.isGap) = false ∧
    (remembered.ribbon 1).lastShown = some 17 ∧ (remembered.ribbon 0).lastShown = some 40 ∧
    (remembered.slot 40).state ≠ .delisting ∧ (remembered.ribbon 3).lastShown = none := by decide +kernel
theorem test_release_forgets_the_last_shown_slot :
    ((sweepTape remembered).ribbon 1).lastShown = none ∧ ((sweepTape remembered).ribbon 0).lastShown = some 40 := by
  decide +kernel
theorem witness_BulletinIsOffered :
    takesRequest 0x10 (bulletinBody (15, say "HI")) tape = true ∧
    readBulletin (bulletinBody (15, say "HI")) = .ok (15, say "HI") := by decide +kernel

/-! ### The ribbons -/

/-- The tape with ribbon 2 PRIMED in lock group 3. -/
def primed : Device := tape.setRibbon 2 { Ribbon.powerOn with state := .primed, lockGroup := 3, acc := 958500 }

theorem witness_RibbonsAreSetUpAndStarted :
    (takesRequest 0x11 (ribbonSetupBody ⟨0, some 4, none, some 499, some 4001⟩) tape = true ∧
      readRibbonSetup (ribbonSetupBody ⟨0, some 4, none, some 499, some 4001⟩) =
        .ok ⟨0, some 4, none, some 499, some 4001⟩) ∧
    (takesRequest 0x12 [3] tape = true ∧ readRibbon [3] = .ok 3 ∧ (tape.ribbon 3).state = .stopped ∧
      (tape.ribbon 0).state ≠ .stopped) ∧
    (takesRequest 0x14 [3] primed = true ∧ readAlign [3] = .ok 3 ∧ (primed.ribbon 2).state = .primed ∧
      (primed.ribbon 2).lockGroup = 3) := by decide +kernel
theorem witness_RibbonStopsOrDrains :
    (takesRequest 0x13 (ribbonStopBody (3, .drain)) primed = true ∧
      readRibbonStop (ribbonStopBody (3, .drain)) = .ok (3, .drain) ∧ (primed.ribbon 3).state = .stopped) ∧
    (readRibbonStop (ribbonStopBody (1, .drain)) = .ok (1, .drain) ∧ (primed.ribbon 1).state = .running ∧
      (primed.ribbon 1).backlog ≠ 0) ∧
    (readRibbonStop (ribbonStopBody (1, .immediate)) = .ok (1, .immediate) ∧ (primed.ribbon 1).state ≠ .stopped) ∧
    (readRibbonStop (ribbonStopBody (2, .drain)) = .ok (2, .drain) ∧ (primed.ribbon 2).state = .primed) := by
  decide +kernel

/-- Ribbon 0 due for a character event, in a phase at a place. -/
def turning (st : RibbonState) (phase : Phase) (text : Text) (pos : Nat) (backlog : Nat) : Device :=
  tape.modRibbon 0 (fun x => { x with
    state := st, phase := phase, text := text, pos := pos, backlog := backlog, current := some 8, acc := 958500 })

theorem witness_CharacterEventActsByPhase :
    let due (d : Device) : Prop := (d.ribbon 0).state ≠ .stopped ∧ 960000 ≤ (d.ribbon 0).acc + (d.ribbon 0).normalRate
    ((tape.ribbon 3).state = .stopped) ∧
    ((tape.ribbon 1).state ≠ .stopped ∧ (tape.ribbon 1).acc + (tape.ribbon 1).normalRate < 960000) ∧
    ((primed.ribbon 2).state = .primed ∧ 960000 ≤ (primed.ribbon 2).acc + (primed.ribbon 2).normalRate) ∧
    (due (tapeOf []) ∧ ((tapeOf []).ribbon 0).phase = .idle ∧
      ∀ y ∈ (tapeOf []).tape.entries, (0 : RibbonNo) ∈ y.pending → ((tapeOf []).ribbon 0).current = some y.id) ∧
    (due (turning .running .marker (say "XY") 5 0) ∧ due (turning .running .marker (say "XY") 6 0)) ∧
    (due (turning .running .text (say "XY") 0 0) ∧ 0 + 1 < (say "XY").length) ∧
    (due (turning .running .separator [] 1 0) ∧ due (turning .running .separator [] 2 0)) ∧
    (due (turning .running .text (say "XY") 1 0) ∧ ((turning .running .text (say "XY") 1 0).ribbon 0).current = some 8 ∧
      1 + 1 = (say "XY").length) ∧
    (due (turning .draining .text (say "XY") 1 15) ∧ ((turning .draining .text (say "XY") 1 15).ribbon 0).backlog ≠ 0) ∧
    (due (turning .draining .text (say "XY") 1 0) ∧ ((turning .draining .text (say "XY") 1 0).ribbon 0).backlog = 0) := by
  decide +kernel
theorem witness_BeginningAnEntryComposesItsText :
    ((tape.ribbon 0).state = .running ∧ 960000 ≤ (tape.ribbon 0).acc + (tape.ribbon 0).normalRate ∧
      (tape.ribbon 0).phase = .idle ∧ (tape.ribbon 0).current ≠ some 8 ∧
      (∃ older newer, tape.tape.entries = older ++ ⟨8, .print 17 10880 100, 13, [0, 1]⟩ :: newer ∧
        ∀ z ∈ older, (0 : RibbonNo) ∈ z.pending → (tape.ribbon 0).current = some z.id) ∧
      2 ≤ ((tape.slot 17).symbol ++ [0x20] ++ fractionText 10880 3).length) ∧
    ((tapeOf [⟨9, .bulletin 1 (say "!"), 4, [0]⟩]).tape.entries = [] ++ ⟨9, .bulletin 1 (say "!"), 4, [0]⟩ :: [] ∧
      (say "!").length = 1) := by
  refine ⟨⟨by decide +kernel, by decide +kernel, by decide +kernel, by decide +kernel,
    ⟨[⟨5, .print 17 10848 300, 15, [1]⟩], [], by decide +kernel, by decide +kernel⟩, by decide +kernel⟩, by decide +kernel⟩
theorem test_one_character_is_finished_in_its_event :
    ((after (.characterEvent 0) (tapeOf [⟨9, .bulletin 1 (say "!"), 4, [0]⟩])).tape.entries = []) := by decide +kernel
theorem witness_EveryStepKeepsTheTapeSound :
    (∃ t, step ⟨tape, [.characterEvent 0]⟩ = .next t) ∧ TapeSound tape := by
  have hg : ∀ x ∈ tape.tape.entries, x.body.isGap = false := by decide +kernel
  refine ⟨⟨_, rfl⟩, by decide +kernel, by decide +kernel, by decide +kernel, fun x hx n h => ?_, by decide +kernel,
    by decide +kernel, by decide +kernel⟩
  have := hg x hx
  rw [h] at this
  simp [EntryBody.isGap] at this
theorem witness_RibbonsInStepStayInStep :
    let d := (tape.setTape ⟨[⟨8, .print 17 10880 100, 13, [0, 1]⟩], 9⟩).setRibbon 1 (tape.ribbon 0)
    (0 : RibbonNo) ≠ 1 ∧ d.ribbon 0 = d.ribbon 1 ∧ (d.ribbon 0).state = .running ∧
    (∀ y ∈ d.tape.entries, (0 : RibbonNo) ∈ y.pending ↔ (1 : RibbonNo) ∈ y.pending) ∧
    selects d 0 (.print 17 10880 100) = selects d 1 (.print 17 10880 100) := by decide +kernel

/-! ### The board -/

/-- A floor with segment 0, row 0 and line 0 as given; row 0 sits on unit 3. -/
def live : Segment := { Segment.powerOn with state := .active, motionLimit := 2, motionCounter := 0xFFFF }
def shownRow : Row :=
  { Row.powerOn with
    rowUnit := some ⟨0, 3⟩, binding := some 17, display := .clean, shown := some openPicture, shownSlot := some 17 }
def floor (g : Segment) (x : Row) (l : BoardLine) : Device :=
  (((board.setSegment 0 g).setRow 0 x).setLine 0 l)

/-- A line with a frame in hand, its answer awaited. -/
def awaiting (f : Frame) (retry : Nat) : BoardLine := ⟨some f, retry, .running 40, none, none⟩
def imageFrame : Frame := ⟨.repaint, 0, 3, .image openPicture⟩
def pollFrame (u : LineUse) : Frame := ⟨u, 0, 3, .poll⟩
def sendingRow : Row := { shownRow with display := .sending, sent := some ⟨openPicture, 120⟩ }
def movingRow : Row :=
  { sendingRow with
    display := .moving, stallTimer := .running 380, pollWait := .running 50, motionOrder := some 0xFFFE, missed := 2 }

/-- A segment in EXERCISE whose one row is at a step. -/
def drill (y : ExerciseStep) : Segment :=
  { live with state := .exercise, seed := 0x1234, exerciseList := [⟨0, y, 1290⟩] }

theorem witness_MarksAndDarkRows :
    ((floor live shownRow BoardLine.powerOn).row 0).display = .clean ∧ shownRow.rowUnit = some ⟨0, 3⟩ ∧
    sendingRow.display = .sending ∧ movingRow.display = .moving ∧ (board.row 0).display = .queued ∧
    (((floor live movingRow BoardLine.powerOn).row 0).rowUnit = some ⟨0, 3⟩ ∧
      ((floor live movingRow BoardLine.powerOn).segment 0).state ≠ .exercise) := by decide +kernel
theorem witness_ComposedImageShowsTheRecord :
    let d := board
    fieldsDisjoint (d.layout (d.row 0).layout) = true ∧
    (∀ f ∈ d.layout (d.row 0).layout, 1 ≤ f.width ∧ f.start + f.width ≤ 32) ∧ (d.row 0).binding = some 17 ∧
    (d.row 1).binding = none ∧ (28 < 32 ∧ ∀ f ∈ d.layout (d.row 0).layout, 28 < f.start ∨ f.start + f.width ≤ 28) := by
  decide +kernel
theorem witness_RepaintStartsAtTheFrontOfTheQueue :
    let moving (d : Device) : Nat :=
      (everyRow.filter (fun q => (d.row q).onSegment 0 && (d.row q).display == .moving)).length
    ((board.segment 0).state = .active ∧ (board.line 0).frame = none ∧ moving board < (board.segment 0).motionLimit ∧
      (board.segment 0).queue = 0 :: []) ∧
    ¬ moving (floor { live with motionLimit := 1, queue := [1] } movingRow BoardLine.powerOn) < 1 := by decide +kernel
theorem witness_FreeLineTakesItsFirstUse :
    ((board.segment 1).state = .disabled ∧ ((floor live sendingRow (awaiting imageFrame 0)).line 0).frame ≠ none) ∧
    ((board.line 0).frame = none ∧ lineChoice board 0 = some (.repaint, 0)) ∧
    lineChoice (floor live { movingRow with pollWait := .running 50 } BoardLine.powerOn) 0 = none := by decide +kernel
theorem witness_LineUsesSendTheirFrames :
    (lineChoice (floor live { shownRow with lampOffOwed := true } BoardLine.powerOn) 0 = some (.lampChange, 0) ∧
      shownRow.shown = some openPicture) ∧
    lineChoice (floor live { movingRow with pollWait := .due } BoardLine.powerOn) 0 = some (.completionPoll, 0) ∧
    lineChoice (floor live shownRow BoardLine.powerOn) 0 = some (.readinessPoll, 0) ∧
    lineChoice (floor (drill .echoing) shownRow BoardLine.powerOn) 0 = some (.echoRequest, 0) ∧
    lineChoice (floor (drill .waiting) shownRow BoardLine.powerOn) 0 = some (.pattern, 0) ∧
    (∃ f, ((after (.repaintStart 0) board).line 0).frame = some f ∧
      ((after (.repaintStart 0) board).line 0).answerTimer = .stopped) := by
  refine ⟨by decide +kernel, by decide +kernel, by decide +kernel, by decide +kernel, by decide +kernel, _, rfl, ?_⟩
  decide +kernel
theorem witness_BadAnswersAreResentOrCounted :
    (answersOn (.badAnswer 0 0x41) = some 0 ∧ answersOn (.nak 0 3 24 false) = some 0 ∧
      answersOn (.answerTimerExpiry 0) = some 0 ∧ answersOn (.ack 0 3 9 true) = some 0) ∧
    (awaiting imageFrame 1).answerTimer = .running 40 ∧ goodAnswer (.ack 0 3 9 true) imageFrame = false ∧
    imageFrame.body ≠ .poll ∧ (awaiting imageFrame 1).retry < 2 ∧ 2 ≤ (awaiting imageFrame 2).retry ∧
    ((pollFrame .completionPoll).body = .poll ∧
      ((floor live movingRow (awaiting (pollFrame .completionPoll) 0)).row 0).rowUnit = some ⟨0, 3⟩ ∧
      min (movingRow.missed + 1) 3 = 3 ∧ movingRow.display = .moving ∧ min (shownRow.missed + 1) 3 < 3) := by
  decide +kernel
theorem witness_AcceptedFramesMoveTheRow :
    (goodAnswer (.ack 0 3 9 false) imageFrame = true ∧ sendingRow.display = .sending ∧
      sendingRow.sent = some ⟨openPicture, 120⟩ ∧
      ((floor live sendingRow (awaiting imageFrame 0)).row 0).rowUnit = some ⟨0, imageFrame.address⟩) ∧
    (goodAnswer (.ack 0 3 9 false) ⟨.pattern, 0, 3, .image (exercisePattern 0x1234 0)⟩ = true ∧
      ((drill .patternSent).exerciseList.map (·.row)).Nodup ∧ ⟨0, .patternSent, 1290⟩ ∈ (drill .patternSent).exerciseList) ∧
    goodAnswer (.ack 0 3 9 false) ⟨.lampChange, 0, 3, .lamps lampsOff⟩ = true := by decide +kernel
theorem witness_StatusActsByTheTables :
    let poll := awaiting (pollFrame .completionPoll) 0
    (∀ k : Fin 4, goodAnswer (.status 0 3 (byte k.val) (0x53 + 3 + byte k.val) false) (pollFrame .completionPoll) = true) ∧
    ((byte 3).getLsbD 0 = true ∧ (byte 3).getLsbD 1 = true ∧ (byte 1).getLsbD 1 = false ∧ (byte 2).getLsbD 0 = false) ∧
    ({ shownRow with rowUnit := some ⟨0, 4⟩ }.rowUnit ≠ some ⟨0, (pollFrame .completionPoll).address⟩) ∧
    (((floor live movingRow poll).row 0).display = .moving ∧ ((floor live shownRow poll).row 0).display = .clean) ∧
    (((floor (drill .turning) shownRow poll).row 0).display ≠ .moving ∧
      exerciseStep (floor (drill .turning) shownRow poll) 0 = some .turning) ∧
    ({ shownRow with display := .down, cause := .silent }.cause ≠ .segmentOff) := by decide +kernel

/-- The good echo of a pattern. -/
def patternEcho : List Byte := (exercisePattern 0x1234 0).cells.map byte
def echoFrame : Frame := ⟨.echoRequest, 0, 3, .echoRequest⟩

/-- The same exercise with a second row that still waits. -/
def longDrill : Segment := { drill .echoing with exerciseList := [⟨0, .echoing, 1290⟩, ⟨1, .waiting, 0⟩] }

theorem floor_segment (g : Segment) (x : Row) (l : BoardLine) (h : SegNo) :
    (floor g x l).segment h = if h = 0 then g else board.segment h := by
  simp [floor, Device.segment_setSegment]
theorem floor_frame (g : Segment) (x : Row) (l : BoardLine) (h : SegNo) :
    ((floor g x l).line h).frame = if h = 0 then l.frame else none := by
  have hb : ∀ h : SegNo, (board.line h).frame = none := by decide +kernel
  simp only [floor, Device.line_setLine]
  split
  · rfl
  · simpa using hb h

/-- Every clause of the condition on the lines but the one on the frame in hand is decided by trying every object. -/
theorem lines_sound {g : Segment} {x : Row} {l : BoardLine}
    (hd : ∀ h : SegNo, let d := floor g x l
      let e := (d.segment h).exerciseList
      ((d.segment h).state = .disabled → (d.line h).frame = none) ∧ (e ≠ [] → (d.segment h).state = .exercise) ∧
      (e.map (·.row)).Pairwise (· < ·) ∧
      (∀ y ∈ e, (d.row y.row).onSegment h = true ∧ (y.step = .patternSent ∨ y.step = .turning ∨ y.step = .echoing →
        (d.row y.row).display = .clean ∨ (d.row y.row).display = .queued)))
    (hf : ∀ f, l.frame = some f → FrameSound (floor g x l) 0 f)
    (hs : ∀ h : SegNo, ∀ r : RowNo, ((floor g x l).row r).onSegment h = true → ((floor g x l).row r).display = .sending →
      ((floor g x l).line h).frame = some imageFrame ∧ r = 0)
    (hp : ∀ h : SegNo, ∀ y ∈ ((floor g x l).segment h).exerciseList, y.step ≠ .patternSent) : LinesSound (floor g x l) := by
  intro h
  obtain ⟨h1, h2, h3, h4⟩ := hd h
  refine ⟨h1, h2, h3, h4, fun f hh => ?_, fun r hr hr' => ?_, fun y hy hy' => absurd hy' (hp h y hy)⟩
  · rw [floor_frame] at hh
    split at hh
    · subst h
      exact hf f hh
    · cases hh
  · obtain ⟨a, b⟩ := hs h r hr hr'
    exact ⟨imageFrame, a, rfl, b.symm⟩

theorem witness_ExerciseListsComparesAndEnds :
    (takesRequest 0x26 (exerciseBody (0, 0x1234)) board = true ∧
      readExercise (exerciseBody (0, 0x1234)) = .ok (0, 0x1234) ∧ (board.segment 0).state = .active ∧
      (board.segment 1).state ≠ .active) ∧
    (patternEcho.length = 32 ∧
      goodAnswer (.echo 0 3 patternEcho (frameSum (0x65 :: 3 :: patternEcho)) false) echoFrame = true ∧
      ((floor longDrill shownRow (awaiting echoFrame 0)).row echoFrame.row).rowUnit = some ⟨0, echoFrame.address⟩ ∧
      exerciseStep (floor longDrill shownRow (awaiting echoFrame 0)) 0 = some .echoing ∧
      echoFrame.use = .echoRequest ∧ (exercisePattern 0x1234 0).cells = patternEcho.map (·.toNat) ∧
      (longDrill.exerciseList.map (fun z => if z.row = 0 then { z with step := .passed } else z)).all
        (fun z => z.step == .passed || z.step == .failed) = false) ∧
    ((∀ j, j < 31 → (exercisePattern 0x1234 0).cells[j]? = (patternEcho.set 31 0xFF)[j]?.map (·.toNat)) ∧
      (exercisePattern 0x1234 0).cells[31]? ≠ (patternEcho.set 31 0xFF)[31]?.map (·.toNat)) := by decide +kernel
theorem witness_ExerciseListsComparesAndEnds_end :
    LinesSound (floor (drill .passed) shownRow BoardLine.powerOn) ∧
    ((floor (drill .passed) shownRow BoardLine.powerOn).segment 0).state = .exercise ∧
    exerciseOver (drill .passed).exerciseList = true :=
  ⟨lines_sound (by decide +kernel) (by simp [BoardLine.powerOn]) (by decide +kernel) (by decide +kernel),
    by decide +kernel, by decide +kernel⟩
theorem witness_ExerciseListsComparesAndEnds_echo :
    LinesSound (floor (drill .echoing) shownRow (awaiting echoFrame 2)) ∧
    exerciseStep (floor (drill .echoing) shownRow (awaiting echoFrame 2)) 0 = some .echoing ∧
    answersOn (.nak 0 3 24 false) = some 0 ∧ goodAnswer (.nak 0 3 24 false) echoFrame = false ∧ echoFrame.body ≠ .poll ∧
    2 ≤ ((floor (drill .echoing) shownRow (awaiting echoFrame 2)).line 0).retry := by
  refine ⟨lines_sound (by decide +kernel) (fun f h => ?_) (by decide +kernel) (by decide +kernel), by decide +kernel⟩
  obtain rfl : echoFrame = f := Option.some.inj h
  simp only [FrameSound, echoFrame]
  decide +kernel
theorem witness_ExerciseListsComparesAndEnds_poll :
    let x : Row := { shownRow with missed := 2, stallTimer := .running 2135 }
    let d := floor (drill .turning) x (awaiting (pollFrame .completionPoll) 0)
    LinesSound d ∧ (d.segment 0).state = .exercise ∧ (d.row 0).stallTimer = .running 2135 ∧
    exerciseStep d 0 = some .turning ∧ 2 ≤ (d.row 0).missed ∧ (d.row 0).display = .clean ∧
    goodAnswer (.status 0 3 0 0x56 false) (pollFrame .completionPoll) = true ∧ (0 : Byte).getLsbD 0 = false := by
  refine ⟨lines_sound (by decide +kernel) (fun f h => ?_) (by decide +kernel) (by decide +kernel), by decide +kernel⟩
  obtain rfl : pollFrame .completionPoll = f := Option.some.inj h
  trivial
theorem witness_RowTimersExpire :
    (movingRow.stallTimer = .running 380 ∧ movingRow.rowUnit = some ⟨0, 3⟩ ∧ movingRow.display = .moving ∧
      movingRow.sent = some ⟨openPicture, 120⟩) ∧
    (let x := { shownRow with stallTimer := .running 2135, holdTimer := .running 10, pollWait := .running 50 }
     ((floor (drill .turning) x BoardLine.powerOn).row 0).stallTimer = .running 2135 ∧ x.display ≠ .moving ∧
      exerciseStep (floor (drill .turning) x BoardLine.powerOn) 0 = some .turning ∧ x.holdTimer = .running 10 ∧
      x.pollWait = .running 50) ∧
    shownRow.stallTimer = .stopped ∧ shownRow.holdTimer = .stopped ∧ shownRow.pollWait = .stopped := by decide +kernel
theorem witness_SegmentSetupWritesAndSwitches :
    let f (g : SegNo) (limit : Option Nat) (enable : Option Bool) : SegmentFields := ⟨g, some 60, some 50, limit, none, enable⟩
    (∀ b : Bool, readSegmentSetup (segmentSetupBody (f 0 (some 0) (some b))) = .ok (f 0 (some 0) (some b)) ∧
      takesRequest 0x20 (segmentSetupBody (f 0 (some 0) (some b))) board = true) ∧
    motionLoad (floor { live with motionLimit := 3 } movingRow BoardLine.powerOn) 0 = 1 ∧
    ((floor (drill .waiting) shownRow BoardLine.powerOn).segment 0).state = .exercise ∧
    ((board.segment 0).state = .active ∧ motionLoad board 0 = 0) ∧ (board.segment 1).state = .disabled := by decide +kernel
theorem witness_RowRequestsWriteTheirRow :
    (takesRequest 0x21 (layoutBody (0, floorLayout)) board = true ∧
      readLayout (layoutBody (0, floorLayout)) = .ok (0, floorLayout)) ∧
    (takesRequest 0x22 (bindBody (255, 17, 7)) board = true ∧ readBind (bindBody (255, 17, 7)) = .ok (255, 17, 7) ∧
      isListed (board.slot 17).state = true ∧ isListed (board.slot 5).state = false ∧
      ((board.slot 17).boundRows.length = 1 ∧
        4 ≤ ((board.modSlot 17 (fun x => { x with boundRows := [0, 1, 2, 3] })).slot 17).boundRows.length)) ∧
    (takesRequest 0x23 [0] board = true ∧ readRow [0] = .ok 0 ∧ (board.row 0).display ≠ .faulted) ∧
    (((floor live { shownRow with display := .faulted } BoardLine.powerOn).row 0).display = .faulted ∧
      takesRequest 0x24 [0] (floor live { shownRow with display := .faulted } BoardLine.powerOn) = true) ∧
    (takesRequest 0x25 (rowSetupBody (0, some ⟨1, 31⟩)) board = true ∧
      readRowSetup (rowSetupBody (0, some ⟨1, 31⟩)) = .ok (0, some ⟨1, 31⟩) ∧
      (board.row 0).rowUnit.any (fun w => (board.segment w.segment).state == .disabled) = false ∧
      (board.row 9).display = .down ∧ readRowSetup (rowSetupBody (9, none)) = .ok (9, none) ∧
      ∃ q : RowNo, q ≠ 9 ∧ (board.row q).rowUnit = some ⟨0, 3⟩) := by
  refine ⟨by decide +kernel, by decide +kernel, by decide +kernel, by decide +kernel, by decide +kernel, by decide +kernel,
    by decide +kernel, by decide +kernel, by decide +kernel, 0, by decide +kernel⟩

/-- The floor while row 0's image is in hand. -/
def sendingFloor : Device := floor live sendingRow (awaiting imageFrame 0)

theorem sendingFloor_lines : LinesSound sendingFloor := by
  refine lines_sound (by decide +kernel) (fun f h => ?_) (by decide +kernel) (by decide +kernel)
  obtain rfl : imageFrame = f := Option.some.inj h
  simp only [FrameSound, imageFrame]
  decide +kernel
theorem sendingFloor_queues : QueuesSound sendingFloor := by
  unfold QueuesSound
  decide +kernel
theorem witness_EveryStepKeepsTheQueuesSound :
    (∃ t, step ⟨sendingFloor, [.ack 0 3 9 false]⟩ = .next t) ∧ QueuesSound sendingFloor ∧ LinesSound sendingFloor :=
  ⟨⟨_, rfl⟩, sendingFloor_queues, sendingFloor_lines⟩
theorem witness_EveryStepKeepsTheMotionLimit :
    (∃ t, step ⟨sendingFloor, [.ack 0 3 9 false]⟩ = .next t ∧ motionLoad t.device 0 = 1) ∧ QueuesSound sendingFloor ∧
    LinesSound sendingFloor ∧ MotionSound sendingFloor := by
  refine ⟨⟨_, rfl, by decide +kernel⟩, sendingFloor_queues, sendingFloor_lines, ?_⟩
  unfold MotionSound
  decide +kernel

/-! ### Terminal lines and dealers -/

/-- Line 4 in each state, with what a clause needs on it. -/
def lineFour (x : Terminal) : Device := watched.setTerminal 4 x
def upTerm : Terminal := { Terminal.powerOn with state := .active, present := true }
def setup : LineFields := ⟨4, some .b9600, some .none8, some true⟩

theorem witness_LinesFollowSetupAndPresence :
    (∀ b : Bool, takesRequest 0x30 (lineSetupBody { setup with enable := some b }) watched = true ∧
      readLineSetup (lineSetupBody { setup with enable := some b }) = .ok { setup with enable := some b }) ∧
    (followed.terminal 4).state = .loopback ∧ (watched.terminal 4).state = .active ∧
    ((lineFour Terminal.powerOn).terminal 4).state = .disabled ∧ ((lineFour Terminal.powerOn).terminal 4).present = false ∧
    ((lineFour { Terminal.powerOn with present := true }).terminal 4).present = true ∧
    ((lineFour { Terminal.powerOn with state := .absent }).terminal 4).state = .absent ∧
    ((lineFour { upTerm with state := .loopback, present := false }).terminal 4).state = .loopback := by decide +kernel
theorem witness_ReceivedCharactersActByTheirValue :
    let full : Terminal := { upTerm with input := List.replicate 40 0x41 }
    ((watched.terminal 4).state = .active ∧ (watched.terminal 4).receiver ≠ .afterBreak ∧ (0x7E : Byte).toNat ≤ 127 ∧
      (watched.terminal 4).input.length < 40) ∧
    ((lineFour full).terminal 4).input.length = 40 ∧ full.input ≠ [] ∧ upTerm.input = [] ∧
    ({ full with errored := true }.errored = true ∧ full.reply = none ∧ { full with reply := some [0x41] }.reply ≠ none) ∧
    ({ upTerm with format := .none8 }.format = .none8 ∧ 0x7F < (0x80 : Byte).toNat ∧ (0x1F : Byte).toNat < 0x20) ∧
    { upTerm with receiver := .afterBreak }.receiver = .afterBreak ∧
    ({ upTerm with queue := List.replicate 511 0 }.queue.length + ([0x41] : Text).length ≤ 512 ∧
      ¬ { upTerm with queue := List.replicate 512 0 }.queue.length + ([0x41] : Text).length ≤ 512) := by decide +kernel

/-- Dealer 4 as each priority finds it. -/
def dealing (x : Terminal) (y : Dealer) : Device := (lineFour x).setDealer 4 y

theorem witness_ItemsEnterByPriority :
    ((dealing upTerm { Dealer.powerOn with redrawOwed := true }).dealer 4).redrawOwed = true ∧
    (((dealing { upTerm with reply := some (say "SENT") } Dealer.powerOn).dealer 4).redrawOwed = false ∧
      ((dealing { upTerm with reply := some (say "SENT") } Dealer.powerOn).terminal 4).reply = some (say "SENT")) ∧
    ((dealing { upTerm with hostText := some (say "HI") } Dealer.powerOn).terminal 4).hostText = some (say "HI") ∧
    ((dealing upTerm { Dealer.powerOn with alerts := [.watch 17 .any], ringNext := 19, ringNewest := some 18 }).dealer
      4).alerts = .watch 17 .any :: [] ∧
    (((dealing upTerm { Dealer.powerOn with marks := [(7, true)] }).dealer 4).marked 7 = true ∧
      ∀ q : PageNo, q < 7 → ((dealing upTerm { Dealer.powerOn with marks := [(7, true)] }).dealer 4).marked q = false) ∧
    (∀ p, ((dealing upTerm Dealer.powerOn).dealer 4).marked p = false) ∧
    (512 - { upTerm with queue := List.replicate 417 0 }.queue.length < 96 ∧
      96 ≤ 512 - { upTerm with queue := List.replicate 416 0 }.queue.length) := by decide +kernel
theorem witness_TextsAndTestsUseTheLine :
    let busy : Terminal := { upTerm with transmitter := some ⟨0x41, .even7, .b1200, false⟩ }
    let tested (text : Text) (got : List Received) (started : Nat) (wait : Timer) : Terminal :=
      { busy with state := .loopback, test := some ⟨.active, text, got, started, wait⟩ }
    (takesRequest 0x31 (textBody (4, say "HI")) watched = true ∧ readTerminalText (textBody (4, say "HI")) = .ok (4, say "HI") ∧
      (watched.terminal 4).state = .active ∧ (watched.terminal 4).hostText = none ∧
      { upTerm with hostText := some [0x41] }.hostText ≠ none ∧ (watched.terminal 4).transmitter = none) ∧
    (busy.transmitter ≠ none ∧ { busy with state := .absent }.state = .absent) ∧
    (∃ test, (tested (say "AB") [] 1 .stopped).test = some test ∧ test.text[test.started]? = some 0x42) ∧
    (∃ test, (tested (say "AB") [] 2 .stopped).test = some test ∧ test.text.length ≤ test.started ∧ test.wait = .stopped) ∧
    (takesRequest 0x32 (textBody (4, [0x80])) watched = true ∧ readLineTest (textBody (4, [0x80])) = .ok (4, [0x80]) ∧
      ¬ (upTerm.format = .none8 ∨ ∀ c ∈ ([0x80] : Text), c.toNat ≤ 127) ∧
      (upTerm.format = .none8 ∨ ∀ c ∈ ([0x7F] : Text), c.toNat ≤ 127)) ∧
    (∃ test, (tested (say "AB") [] 2 (.running 100)).test = some test ∧ test.wait = .running 100 ∧
      test.received.length + 1 < test.text.length) ∧
    (∃ test, (tested (say "AB") [.good 0x41] 2 .stopped).test = some test ∧ test.text.length ≤ test.received.length + 1) := by
  refine ⟨by decide +kernel, by decide +kernel, ⟨_, rfl, by decide +kernel⟩, ⟨_, rfl, by decide +kernel⟩,
    by decide +kernel, ⟨_, rfl, by decide +kernel⟩, ⟨_, rfl, by decide +kernel⟩⟩

/-- A line that line 4 can submit. -/
def submits (line : Text) : Bool :=
  (watched.terminal 4).state == .active && (watched.terminal 4).reply == none && line != [] && line.length ≤ 40 &&
    line.all (fun c => 0x20 ≤ c.toNat && c.toNat ≤ 0x7E)

theorem witness_DealerCommandsChangeAndAnswer :
    (submits (say "Q XYZ") = true ∧ symbolOk (say "XYZ") = true ∧ lookup watched (say "XYZ") = some 17 ∧
      symbolOk (say "X1") = false ∧ lookup watched (say "QRS") = none) ∧
    (submits (say "W ABC >= 42 3/8") = true ∧ blank ∉ say "ABC" ∧
      say "ABC >= 42 3/8" = say "ABC" ++ [0x20] ++ conditionSign .above ++ [0x20] ++ say "42 3/8" ∧
      readPrice (say "42 3/8") = some 10848 ∧ readPrice (say "42 3/7") = none ∧
      (¬ ∃ w ∈ watched.watches, w.terminal = 4 ∧ w.slot = 40 ∧ w.cond = .above) ∧
      (∃ w ∈ watched.watches, w.terminal = 4 ∧ w.slot = 17 ∧ w.cond = .any) ∧
      ¬ 8 ≤ (watched.watches.filter (fun w => w.terminal = 4)).length ∧
      8 ≤ ((List.replicate 8 (⟨4, 40, .any, none, .armed⟩ : Watch)).filter (fun w => w.terminal = 4)).length) ∧
    (submits (say "W XYZ") = true ∧ readWatchLine (say "XYZ") = none) ∧
    (submits (say "X XYZ <=") = true ∧ say "XYZ <=" = say "XYZ" ++ [0x20] ++ conditionSign .below ∧
      watched.watches.filter (fun w => w.terminal == 4 && w.slot == 17 && w.cond == .below) ≠ [] ∧
      watched.watches.filter (fun w => w.terminal == 4 && w.slot == 40) = [] ∧
      submits (say "X XYZ > 3") = true ∧ readRemoveLine (say "XYZ > 3") = none) ∧
    (submits (pageLine none) = true ∧ submits (pageLine (some (say "A B C D E F G H"))) = true ∧
      (parts (say "A B C D E F G H")).length = 8 ∧ (parts (say "A B C D E F G H")).all symbolOk = true ∧
      (parts (say "XYZ ABC")).map (lookup watched) = [(17 : Slot), 40].map some ∧
      8 < (parts (say "A B C D E F G H I")).length ∧ ∃ y ∈ parts (say "XYZ QRS"), lookup watched y = none) ∧
    (submits (say ">HI") = true ∧ (watched.dealer 4).forward = [] ∧ (followed.setDealer 4
      { Dealer.powerOn with forward := say "HI" } |>.dealer 4).forward ≠ [] ∧ submits (say ">") = true ∧
      doubleBlank (say "A  B") = true) ∧
    (submits (say "Z") = true ∧ (0x5A : Byte) ∉ [(0x51 : Byte), 0x57, 0x58, 0x50, 0x3E] ∧
      (interpretLine 4 (say "Q nope") watched).2 = say "?CMD" ∧ submits (say "Q nope") = true) ∧
    (submits (List.replicate 40 0x41) = true ∧ submits (List.replicate 41 0x41) = false ∧
      ["W XYZ *", "X XYZ", "P", ">HI"].all (fun y => !submittable store 4 (say y)) = true ∧
      (interpretLine 4 (say "Q XYZ") watched).2 ≠ say "?CMD") := by
  refine ⟨by decide +kernel, by decide +kernel, by decide +kernel, by decide +kernel, ?_, by decide +kernel,
    by decide +kernel, by decide +kernel⟩
  refine ⟨by decide +kernel, by decide +kernel, by decide +kernel, by decide +kernel, by decide +kernel, by decide +kernel, ?_⟩
  exact ⟨say "QRS", by decide +kernel, by decide +kernel⟩

theorem test_page_command_replies_before_its_page_lines :
    (((after (.setThePage 4 none) watched).terminal 4).queue.take 10) = say "VAPAGE SET" := by decide +kernel

/-- The watches with an alert that waits. -/
def alerting : Device := watched.setDealer 4 { Dealer.powerOn with alerts := [.watch 17 .any, .ended (say "QRS")] }

theorem alerting_sound : WatchesSound alerting := by
  refine ⟨by decide +kernel, by decide +kernel, by decide +kernel, by decide +kernel, by decide +kernel, fun t => ?_⟩
  refine ⟨by revert t; decide +kernel, by revert t; decide +kernel, fun i c h => ?_⟩
  have ht : t = 4 := by
    by_contra hn
    have hd : alerting.dealer t = watched.dealer t := by simp [alerting, Device.dealer_setDealer, hn]
    have hw : ∀ t, (watched.dealer t).alerts = [] := by decide +kernel
    rw [hd, hw] at h
    cases h
  subst ht
  have ha : (alerting.dealer 4).alerts = [.watch 17 .any, .ended (say "QRS")] := by decide +kernel
  rw [ha] at h
  simp only [List.mem_cons, Alert.watch.injEq, List.not_mem_nil, or_false, reduceCtorEq] at h
  obtain ⟨rfl, rfl⟩ := h
  decide +kernel
theorem witness_EvaluationFiresAndRearmsWatches :
    WatchesSound alerting ∧ (alerting.terminal 4).state = .active ∧ (alerting.terminal 5).state = .disabled ∧
    (followed.terminal 4).state = .loopback :=
  ⟨alerting_sound, by decide +kernel⟩
theorem witness_EveryStepKeepsWatchesAndScreensSound :
    (∃ t, step ⟨alerting, [.setAWatch 4 (say "ABC *")]⟩ = .next t ∧ t.device.watches.length = 4) ∧
    WatchesSound alerting ∧ ScreensSound alerting ∧ NoticesSound ((alerting.raise (.terminal 4)).raise .tape) ∧
    TablesSound alerting := by
  refine ⟨⟨_, rfl, by decide +kernel⟩, alerting_sound, ?_, ?_, ?_⟩
  · unfold ScreensSound
    decide +kernel
  · unfold NoticesSound
    decide +kernel
  · unfold TablesSound
    decide +kernel

/-! ### Notices, settling, RESTART and the bodies -/

theorem witness_CollectTakesTheFirstNotice :
    let d := (alerting.raise (.terminal 4)).raise .tape
    takesRequest 0x40 [] d = true ∧ alerting.notices = [] ∧ d.notices = [.tape, .terminal 4] := by decide +kernel
theorem witness_SettleCountsWhatIsOwed :
    let open_ := (after (.settle []) tape).channel.settle
    takesRequest 0x41 [] board = true ∧ board.channel.settle.outstanding = false ∧ open_.outstanding = true ∧
    (1, 8) ∈ open_.unsettled := by decide +kernel
theorem witness_RestartKeepsTheSettings :
    takesRequest 0x42 [] spent = true ∧ (spent.slot 17).state = .delisting ∧
    (board.row 0).rowUnit.any (fun u => (board.segment u.segment).state != .disabled) = true := by decide +kernel
theorem witness_RequestBodiesReadBack :
    (symbolOk (say "ABCDE.F") = true ∧ (1 : Nat) ≤ 8 ∧ (16777215 : Nat) ≤ 16777215) ∧
    ((List.replicate 16 (sale 17)).length ≤ 16 ∧ ∀ f ∈ List.replicate 16 (sale 17),
      f.price ≤ 16777215 ∧ 1 ≤ f.shares ∧ f.shares ≤ 9999999) ∧
    (1 ≤ (15 : Byte).toNat ∧ (15 : Byte).toNat ≤ 15 ∧ (List.replicate 60 (0x7E : Byte)).length ≤ 60 ∧
      (List.replicate 60 (0x7E : Byte)).all printable = true) ∧
    (fieldsDisjoint floorLayout = true ∧ ∀ x ∈ floorLayout, 1 ≤ x.width ∧ x.start + x.width ≤ 32) ∧ (3 : Fin 4) ≠ 0 := by
  decide +kernel
theorem test_bytes_of_an_absent_price_are_not_read :
    readQuote [0, 17, 1, 9, 9, 9, 0, 0, 0, 1] = .ok ⟨17, none, some 1⟩ ∧
    readQuote [0, 17, 2, 0, 0, 0, 0, 0, 0, 1] = .error .badField := by decide +kernel

end Sys2Proof.Tests
end

section
/-! PROOFS. The quotation store: the record a TRADE or an AMEND leaves in its slot, and the tick in it (R13). -/

namespace Sys2Proof.Machine

/-! ## Reading a record through the shared operations -/

/-- An operation that does not list the slots among its parts keeps every record. -/
theorem ChangesOnly.slot_eq {l : List Part} {a b : Device} (h : ChangesOnly l a b) (hl : Part.slots ∉ l) (i : Slot) :
    b.slot i = a.slot i := by
  have hs : b.slots = a.slots := h .slots hl
  simp only [Device.slot, hs]

theorem slot_writeRecord_same (i : Slot) (x : Record) (d : Device) :
    (writeRecord i x d).slot i = { x with revision := x.revision + 1 } :=
  ((endReservationOn_changes i _).slot_eq (by simp) i).trans (Device.slot_setSlot_same d i _)

@[simp] theorem slot_beginWork (kind : Byte) (body : List Byte) (d : Device) (i : Slot) :
    (beginWork kind body d).slot i = d.slot i := rfl

@[simp] theorem slot_readyReply (kind : Byte) (a : Answer) (d : Device) (i : Slot) :
    (readyReply kind a d).slot i = d.slot i := rfl

/-! ## Requests that the channel takes -/

theorem request_of_taken {kind : Byte} {body : List Byte} {d : Device} (h : takesRequest kind body d = true)
    (work : Device → Device × Answer) :
    request kind body work d =
      readyReply kind (work (beginWork kind body d)).2 (work (beginWork kind body d)).1 := by
  rw [request_eq, if_pos h]

/-- The status stands behind the count and the reply kind (R167). -/
theorem readyReply_status (kind : Byte) (a : Answer) (d : Device) :
    (readyReply kind a d).channel.reply.bytes[2]? = some a.status.code := rfl

theorem Status.code_eq_zero_iff (s : Status) : s.code = 0x00 ↔ s = .accepted := by
  cases s <;> decide

/-! ## The record after a trade (R12, R14, R15) -/

/-- The parts the hand-offs of a trade or of an AMEND can reach (R15, R24). -/
def handOffParts : List Part := [.tape, .ribbons, .notices, .rows, .segments, .terminals, .dealers, .watches]

theorem offer_markRows_markPages_changes {d e : Device} (h : ChangesOnly [.tape, .ribbons, .notices] d e) (l : List RowNo)
    (i : Slot) : ChangesOnly handOffParts d (markPages i (markRows l e)) :=
  (h.andThen (markRows_changes l e) (by simp [handOffParts]) (by simp [handOffParts])).trans
    ((markPages_changes i _).mono (by simp [handOffParts]))

theorem handOffs_evaluateWatches_changes {d e : Device} (h : ChangesOnly handOffParts d e) (i : Slot) (last : Price) :
    ChangesOnly handOffParts d (evaluateWatches i last e) :=
  h.trans ((evaluateWatches_changes i last e).mono (by simp [handOffParts]))

theorem tradeHandOffs_changes (t : TradeItem) (d : Device) : ChangesOnly handOffParts d (tradeHandOffs t d) := by
  unfold tradeHandOffs
  extract_lets d1 d2
  have hprint : ChangesOnly [.tape, .ribbons, .notices] d d1 := .ite (offer_changes _ d) (.refl _ d)
  have hmarked : ChangesOnly handOffParts d d2 := offer_markRows_markPages_changes hprint _ t.slot
  exact .ite hmarked (handOffs_evaluateWatches_changes hmarked _ _)

theorem slot_applyTrade (t : TradeItem) (d : Device) :
    (applyTrade t d).slot t.slot =
      { tradedRecord t (d.slot t.slot) with revision := (tradedRecord t (d.slot t.slot)).revision + 1 } :=
  ((tradeHandOffs_changes t _).slot_eq (by simp [handOffParts]) t.slot).trans (slot_writeRecord_same _ _ d)

theorem tradeOne_of_trading {t : TradeItem} {d : Device} (h : (d.slot t.slot).state = .trading) :
    (tradeOne t d).1 = applyTrade t d := by
  simp [tradeOne, h]

theorem tradedRecord_tick {t : TradeItem} (h : t.late = false) (x : Record) :
    (tradedRecord t x).tick = newTick x.last x.tick t.price := by
  simp [tradedRecord, h]

theorem exec_trade (body : List Byte) (s : State) :
    exec (.trade body) s = .next { s with device := request kindTrade body (workTrade body) s.device } := rfl

/-- What a whole TRADE request comes to in the slot it names (R7, R12). -/
theorem slot_after_trade {body : List Byte} {d : Device} {f : TradeItem}
    (htakes : takesRequest kindTrade body d = true) (hread : readTrade body = .ok f)
    (hstate : (d.slot f.slot).state = .trading) :
    (request kindTrade body (workTrade body) d).slot f.slot =
      { tradedRecord f (d.slot f.slot) with revision := (tradedRecord f (d.slot f.slot)).revision + 1 } := by
  have hwork : workTrade body = tradeOne f := by
    funext e
    simp [workTrade, onFields, hread]
  rw [request_of_taken htakes, hwork, slot_readyReply, tradeOne_of_trading (by simpa using hstate), slot_applyTrade,
    slot_beginWork]

/-! ## The record after an AMEND (R23, R24) -/

theorem amendHandOffs_changes (f : AmendFields) (before after : Record) (d : Device) :
    ChangesOnly handOffParts d (amendHandOffs f before after d) := by
  unfold amendHandOffs
  extract_lets d1 d2
  have hcorr : ChangesOnly [.tape, .ribbons, .notices] d d1 := by
    unfold d1
    split
    · exact offer_changes _ d
    · exact .refl _ d
  have hmarked : ChangesOnly handOffParts d d2 := offer_markRows_markPages_changes hcorr _ f.slot
  exact .ite (handOffs_evaluateWatches_changes hmarked _ _) hmarked

/-- An AMEND is accepted only past the checks of reservation and record, where it writes the amended record; its hand-offs
reach no record (R7, R23, R24). -/
theorem slot_amendSlot_of_accepted {f : AmendFields} {d : Device} (h : (amendSlot f d).2.status = .accepted) :
    (amendSlot f d).1.slot f.slot =
      { amendedRecord f (d.slot f.slot) with revision := (amendedRecord f (d.slot f.slot)).revision + 1 } := by
  unfold amendSlot at h ⊢
  dsimp only at h ⊢
  split at h
  · cases h
  · next hreserved =>
    split at h
    · cases h
    · next hsound =>
      rw [if_neg hreserved, if_neg hsound]
      exact ((amendHandOffs_changes f _ _ _).slot_eq (by simp [handOffParts]) f.slot).trans
        (slot_writeRecord_same _ _ _)

theorem amendedRecord_tick {f : AmendFields} {x : Record} {p : Nat} (hgiven : f.last = some (some p))
    (hchanged : x.last ≠ some p) : (amendedRecord f x).tick = newTick x.last x.tick p := by
  simp [amendedRecord, hgiven, hchanged.symm]

theorem exec_amend (body : List Byte) (s : State) :
    exec (.amend body) s = .next { s with device := request kindAmend body (workAmend body) s.device } := rfl

/-- What a whole AMEND request comes to in the slot it names, acceptance read off the reply (R7, R24). -/
theorem slot_after_amend {body : List Byte} {d : Device} {f : AmendFields}
    (htakes : takesRequest kindAmend body d = true) (hread : readAmend body = .ok f)
    (hstatus : (request kindAmend body (workAmend body) d).channel.reply.bytes[2]? = some 0x00) :
    (request kindAmend body (workAmend body) d).slot f.slot =
      { amendedRecord f (d.slot f.slot) with revision := (amendedRecord f (d.slot f.slot)).revision + 1 } := by
  have hwork : workAmend body = amendSlot f := by
    funext e
    simp [workAmend, hread]
  rw [request_of_taken htakes, hwork, readyReply_status, Option.some.injEq, Status.code_eq_zero_iff] at hstatus
  rw [request_of_taken htakes, hwork, slot_readyReply, slot_amendSlot_of_accepted hstatus, slot_beginWork]

/-! ## The tick (R13) -/

theorem newTick_absent (tick : Tick) (price : Nat) : newTick none tick price = .none := rfl

theorem newTick_of_rise {last price : Nat} (h : last < price) (tick : Tick) : newTick (some last) tick price = .up := by
  simp [newTick, h]

theorem newTick_of_fall {last price : Nat} (h : price < last) (tick : Tick) :
    newTick (some last) tick price = .down := by
  simp [newTick, h, h.not_gt]

/-- The tick at an equal price keeps the direction of the tick held before. -/
theorem newTick_of_equal (price : Nat) (tick : Tick) :
    newTick (some price) tick price =
      match tick with
      | .up | .zeroUp => .zeroUp
      | .down | .zeroDown => .zeroDown
      | .none => .none := by
  cases tick <;> simp [newTick]

/-- Settles O11: the table by the three ways two prices compare, the two requests by the record each leaves in its slot. -/
theorem tickFollowsTheTable : Obligations.TickFollowsTheTable := by
  refine ⟨fun last price tick => ⟨newTick_absent tick price, (newTick_of_rise · tick), (newTick_of_fall · tick),
    ?_, ?_, ?_⟩, ?_, ?_⟩
  · rintro rfl (rfl | rfl) <;> exact newTick_of_equal price _
  · rintro rfl (rfl | rfl) <;> exact newTick_of_equal price _
  · rintro rfl rfl
    exact newTick_of_equal price _
  · intro s body f htakes hread hstate hregular
    refine ⟨_, exec_trade body s, ?_⟩
    rw [slot_after_trade htakes hread hstate]
    exact tradedRecord_tick hregular _
  · intro s t body f p htakes hread hgiven hchanged hexec hstatus
    rw [exec_amend] at hexec
    cases hexec
    rw [slot_after_amend htakes hread hstatus]
    exact amendedRecord_tick hgiven hchanged

end Sys2Proof.Machine
end

section
/-! PROOFS. The price formatter: the finest text that fits, the texts of the fields and their widths, and the fraction text
at one denominator (chapter 2). -/

namespace Sys2Proof.Machine

/-! ## Widths (R38, R45) -/

@[simp] theorem length_blanks (n : Nat) : (blanks n).length = n := List.length_replicate

@[simp] theorem length_fill (w : Nat) : (fill w).length = w := List.length_replicate

theorem length_rightJustify {w : Nat} {t : Text} (h : t.length ≤ w) : (rightJustify w t).length = w := by
  simp [rightJustify, h]

theorem length_leftJustify {w : Nat} {t : Text} (h : t.length ≤ w) : (leftJustify w t).length = w := by
  simp [leftJustify, h]

/-! ## Fitting (R34, R35) -/

/-- D = 2^k is the finest of the denominators 2 to 2^e at which the text fits in w characters. -/
def FinestFit (p e w k : Nat) : Prop :=
  1 ≤ k ∧ k ≤ e ∧ (fractionText p k).length ≤ w ∧ ∀ j, k < j → j ≤ e → w < (fractionText p j).length

/-- At none of the denominators 2 to 2^e does the text fit in w characters. -/
def NoFractionFits (p e w : Nat) : Prop := ∀ k, 1 ≤ k → k ≤ e → w < (fractionText p k).length

/-- The text that fitting answers with: the finest fraction text that fits, else the whole points. -/
def FittedText (p e w : Nat) (t : Text) : Prop :=
  (∃ k, 1 ≤ k ∧ k ≤ e ∧ (fractionText p k).length ≤ w ∧
      (∀ j, k < j → j ≤ e → w < (fractionText p j).length) ∧ t = fractionText p k) ∨
    (NoFractionFits p e w ∧ t = digits (wholeRounding p) ∧ t.length ≤ w)

theorem fittedText_iff {p e w : Nat} {t : Text} :
    FittedText p e w t ↔
      (∃ k, FinestFit p e w k ∧ t = fractionText p k) ∨
        (NoFractionFits p e w ∧ t = digits (wholeRounding p) ∧ t.length ≤ w) := by
  simp only [FittedText, FinestFit, and_assoc]

theorem finestFit_succ_of_fits {p e w : Nat} (h : (fractionText p (e + 1)).length ≤ w) : FinestFit p (e + 1) w (e + 1) :=
  ⟨by omega, le_rfl, h, fun _ hj hj' => absurd hj' hj.not_ge⟩

/-- A denominator at which the text is too long is passed over. -/
theorem FinestFit.succ {p e w k : Nat} (hk : FinestFit p e w k) (h : w < (fractionText p (e + 1)).length) :
    FinestFit p (e + 1) w k := by
  obtain ⟨hpos, hle, hfits, hfinest⟩ := hk
  refine ⟨hpos, by omega, hfits, fun j hj hj' => ?_⟩
  obtain rfl | hlt := hj'.eq_or_lt
  · exact h
  · exact hfinest j hj (by omega)

theorem NoFractionFits.succ {p e w : Nat} (hno : NoFractionFits p e w) (h : w < (fractionText p (e + 1)).length) :
    NoFractionFits p (e + 1) w := by
  intro k hk hk'
  obtain rfl | hlt := hk'.eq_or_lt
  · exact h
  · exact hno k hk (by omega)

/-- What trying the denominators downward can answer. -/
theorem fitFraction_cases (p w e : Nat) :
    (∃ k, FinestFit p e w k ∧ fitFraction p w e = some (fractionText p k)) ∨
      (NoFractionFits p e w ∧ fitFraction p w e = none) := by
  induction e with
  | zero => exact .inr ⟨fun k hk hk' => absurd hk' (by omega), rfl⟩
  | succ e ih =>
    by_cases h : (fractionText p (e + 1)).length ≤ w
    · exact .inl ⟨e + 1, finestFit_succ_of_fits h, if_pos h⟩
    · have hskip : fitFraction p w (e + 1) = fitFraction p w e := if_neg h
      rw [hskip]
      exact ih.imp (fun ⟨k, hk, heq⟩ => ⟨k, hk.succ (not_le.mp h), heq⟩)
        (fun ⟨hno, heq⟩ => ⟨hno.succ (not_le.mp h), heq⟩)

/-- What fitting can answer: a fraction text, the whole points, or nothing. -/
theorem fitPrice_cases (p e w : Nat) :
    (∃ k, FinestFit p e w k ∧ fitPrice p e w = some (fractionText p k)) ∨
      (NoFractionFits p e w ∧
        fitPrice p e w =
          if (digits (wholeRounding p)).length ≤ w then some (digits (wholeRounding p)) else none) := by
  obtain ⟨k, hk, heq⟩ | ⟨hno, heq⟩ := fitFraction_cases p w e
  · exact .inl ⟨k, hk, by rw [fitPrice, heq]⟩
  · exact .inr ⟨hno, by rw [fitPrice, heq]⟩

/-- No two denominators are both the finest that fits. -/
theorem FinestFit.unique {p e w k l : Nat} (hk : FinestFit p e w k) (hl : FinestFit p e w l) : k = l := by
  obtain ⟨-, hke, hkfits, hkfinest⟩ := hk
  obtain ⟨-, hle, hlfits, hlfinest⟩ := hl
  obtain h | h | h := lt_trichotomy k l
  · exact absurd hlfits (hkfinest l h hle).not_ge
  · exact h
  · exact absurd hkfits (hlfinest k h hke).not_ge

theorem NoFractionFits.not_finestFit {p e w k : Nat} (h : NoFractionFits p e w) : ¬ FinestFit p e w k :=
  fun ⟨hpos, hle, hfits, _⟩ => (h k hpos hle).not_ge hfits

theorem fitPrice_eq_some_iff {p e w : Nat} {t : Text} : fitPrice p e w = some t ↔ FittedText p e w t := by
  rw [fittedText_iff]
  obtain ⟨k, hk, heq⟩ | ⟨hno, heq⟩ := fitPrice_cases p e w
  · rw [heq, Option.some_inj]
    constructor
    · rintro rfl
      exact .inl ⟨k, hk, rfl⟩
    · rintro (⟨l, hl, rfl⟩ | ⟨hno, -⟩)
      · rw [hk.unique hl]
      · exact absurd hk hno.not_finestFit
  · rw [heq, Option.ite_none_right_eq_some, Option.some_inj]
    constructor
    · rintro ⟨hlen, rfl⟩
      exact .inr ⟨hno, rfl, hlen⟩
    · rintro (⟨l, hl, -⟩ | ⟨-, rfl, hlen⟩)
      · exact absurd hl hno.not_finestFit
      · exact ⟨hlen, rfl⟩

theorem length_le_of_fitPrice {p e w : Nat} {t : Text} (h : fitPrice p e w = some t) : t.length ≤ w := by
  obtain ⟨k, -, -, hfits, -, rfl⟩ | ⟨-, -, hlen⟩ := fitPrice_eq_some_iff.mp h
  · exact hfits
  · exact hlen

/-! ## A fitted PRICE request (R34 to R36) -/

theorem priceField_of_fit {p e w : Nat} {t : Text} (h : fitPrice p e w = some t) :
    priceField (some p) e w = rightJustify w t := by
  simp only [priceField, h]

theorem priceField_of_no_fit {p e w : Nat} (h : fitPrice p e w = none) : priceField (some p) e w = fill w := by
  simp only [priceField, h]

/-- The three answers to a request for a price that is present. -/
theorem priceField_cases (p e w : Nat) :
    (∃ k, FinestFit p e w k ∧ priceField (some p) e w = rightJustify w (fractionText p k)) ∨
      (NoFractionFits p e w ∧
        priceField (some p) e w =
          if (digits (wholeRounding p)).length ≤ w then rightJustify w (digits (wholeRounding p)) else fill w) := by
  obtain ⟨k, hk, heq⟩ | ⟨hno, heq⟩ := fitPrice_cases p e w
  · exact .inl ⟨k, hk, priceField_of_fit heq⟩
  · refine .inr ⟨hno, ?_⟩
    split_ifs with hlen
    · exact priceField_of_fit (heq.trans (if_pos hlen))
    · exact priceField_of_no_fit (heq.trans (if_neg hlen))

theorem length_priceField (p : Price) (e w : Nat) : (priceField p e w).length = w := by
  cases p with
  | none => exact length_blanks w
  | some p =>
    cases h : fitPrice p e w with
    | none => rw [priceField_of_no_fit h, length_fill]
    | some t => rw [priceField_of_fit h, length_rightJustify (length_le_of_fitPrice h)]

/-! ## The field LAST (R39) -/

theorem lastShownPrice_eq (x : Record) :
    lastShownPrice x = if x.state = .listed then some x.close else some (x.last.getD x.close) := by
  unfold lastShownPrice
  cases x.last <;> rfl

/-! ## The field CHANGE (R41, R42) -/

theorem signedChange_of_fit {c : Int} {e w : Nat} {t : Text} (hw : 1 ≤ w) (h : fitPrice c.natAbs e (w - 1) = some t) :
    signedChange c e w = rightJustify w ((if 0 < c then ch '+' else ch '-') :: t) := by
  simp only [signedChange, h, if_neg (Nat.ne_of_gt hw)]

theorem signedChange_of_no_fit {c : Int} {e w : Nat} (h : fitPrice c.natAbs e (w - 1) = none) :
    signedChange c e w = fill w := by
  simp only [signedChange, h]

theorem length_signedChange (c : Int) (e : Nat) {w : Nat} (hw : 1 ≤ w) : (signedChange c e w).length = w := by
  cases h : fitPrice c.natAbs e (w - 1) with
  | none => rw [signedChange_of_no_fit h, length_fill]
  | some t =>
    have hlen := length_le_of_fitPrice h
    rw [signedChange_of_fit hw h, length_rightJustify]
    rw [List.length_cons]
    omega

theorem changeField_of_halted {x : Record} {w : Nat} (h : x.state = .halted ∧ 4 ≤ w) :
    changeField x w = rightJustify w (txt ['H', 'A', 'L', 'T']) := if_pos h

theorem changeField_of_listed {x : Record} {w : Nat} (h : ¬(x.state = .halted ∧ 4 ≤ w)) (hl : x.state = .listed) :
    changeField x w = blanks w := by
  rw [changeField, if_neg h, if_pos hl]

theorem changeField_of_no_last {x : Record} {w : Nat} (h : ¬(x.state = .halted ∧ 4 ≤ w)) (hl : x.last = none) :
    changeField x w = blanks w := by
  simp only [changeField, if_neg h, hl, ite_self]

theorem changeField_of_unchanged {x : Record} {w : Nat} (h : ¬(x.state = .halted ∧ 4 ≤ w)) (hs : x.state ≠ .listed)
    (hl : x.last = some x.close) :
    changeField x w = rightJustify w (if 4 ≤ w then txt ['U', 'N', 'C', 'H'] else txt ['0']) := by
  simp only [changeField, if_neg h, if_neg hs, hl, sub_self, if_true]

theorem changeField_of_changed {x : Record} {w last : Nat} (h : ¬(x.state = .halted ∧ 4 ≤ w)) (hs : x.state ≠ .listed)
    (hl : x.last = some last) (hne : last ≠ x.close) :
    changeField x w = signedChange ((last : Int) - x.close) x.e w := by
  have hc : (last : Int) - x.close ≠ 0 := by omega
  simp only [changeField, if_neg h, if_neg hs, hl, if_neg hc]

/-- The sizes of the word and of the figure 0 that show an unchanged price (R41). -/
theorem length_unchanged {w : Nat} (hw : 1 ≤ w) :
    (if 4 ≤ w then txt ['U', 'N', 'C', 'H'] else txt ['0']).length ≤ w := by
  split_ifs with h
  · exact h
  · exact hw

theorem length_changeField (x : Record) {w : Nat} (hw : 1 ≤ w) : (changeField x w).length = w := by
  by_cases hword : x.state = .halted ∧ 4 ≤ w
  · rw [changeField_of_halted hword, length_rightJustify hword.2]
  by_cases hlisted : x.state = .listed
  · rw [changeField_of_listed hword hlisted, length_blanks]
  cases hlast : x.last with
  | none => rw [changeField_of_no_last hword hlast, length_blanks]
  | some last =>
    by_cases hclose : last = x.close
    · rw [changeField_of_unchanged hword hlisted (hclose ▸ hlast), length_rightJustify (length_unchanged hw)]
    · rw [changeField_of_changed hword hlisted hlast hclose, length_signedChange _ _ hw]

/-- The magnitude of a change in whole numbers, and the sign before it (R42). -/
theorem natAbs_change (last close : Nat) :
    ((last : Int) - close).natAbs = if close < last then last - close else close - last := by
  split_ifs <;> omega

theorem sign_change (last close : Nat) :
    (if 0 < (last : Int) - close then ch '+' else ch '-') = if close < last then 0x2B else 0x2D :=
  if_congr (by omega) rfl rfl

/-- R42: the sign stands before what is fitted in one character less, or the fill stands alone. -/
theorem changeField_signed {x : Record} {w last : Nat} (hw : 1 ≤ w) (h : ¬(x.state = .halted ∧ 4 ≤ w))
    (hs : x.state ≠ .listed) (hl : x.last = some last) (hne : last ≠ x.close) :
    let m := if x.close < last then last - x.close else x.close - last
    (∀ t, FittedText m x.e (w - 1) t →
      changeField x w = rightJustify w ((if x.close < last then 0x2B else 0x2D) :: t)) ∧
    ((∀ t, ¬ FittedText m x.e (w - 1) t) → changeField x w = fill w) := by
  rw [changeField_of_changed h hs hl hne, ← natAbs_change, ← sign_change]
  simp only [← fitPrice_eq_some_iff]
  exact ⟨fun t ht => signedChange_of_fit hw ht,
    fun hno => signedChange_of_no_fit (Option.eq_none_iff_forall_ne_some.mpr hno)⟩

/-! ## The fields VOLUME and SYMBOL (R43, R44) -/

theorem volumeField_eq (volume w : Nat) :
    volumeField volume w =
      if (digits (volume / 100)).length ≤ w then rightJustify w (digits (volume / 100))
      else if (digits (volume / 100 / 1000)).length + 1 ≤ w then rightJustify w (digits (volume / 100 / 1000) ++ [0x4B])
      else fill w := by
  simp only [volumeField, List.length_append, List.length_singleton]
  rfl

theorem length_volumeField (volume w : Nat) : (volumeField volume w).length = w := by
  simp only [volumeField]
  split_ifs with hlots hthousands
  · exact length_rightJustify hlots
  · exact length_rightJustify hthousands
  · exact length_fill w

theorem length_symbolField (board : Bool) (s : Text) (w : Nat) : (symbolField board s w).length = w :=
  length_leftJustify (List.length_take_le _ _)

/-- Every fitted text is exactly as long as its field is wide (R38, R45). -/
theorem length_fieldText (x : Record) (board : Bool) (k : FieldKind) {w : Nat} (hw : 1 ≤ w) :
    (fieldText x board k w).length = w := by
  cases k with
  | symbol => exact length_symbolField board x.symbol w
  | change => exact length_changeField x hw
  | volume => exact length_volumeField x.volume w
  | last | bid | ask | high | low => exact length_priceField _ _ w

/-! ## The numerator (R31) -/

theorem numerator_of_below_half {f k : Nat} (h : 2 * (f % (256 / 2 ^ k)) < 256 / 2 ^ k) :
    numerator f k = f / (256 / 2 ^ k) := if_pos h

theorem numerator_of_above_half {f k : Nat} (h : 256 / 2 ^ k < 2 * (f % (256 / 2 ^ k))) :
    numerator f k = f / (256 / 2 ^ k) + 1 := by
  simp only [numerator, if_neg h.not_gt, if_neg h.ne']

theorem numerator_of_half {f k : Nat} (h : 2 * (f % (256 / 2 ^ k)) = 256 / 2 ^ k) :
    numerator f k % 2 = 0 ∧
      (numerator f k = f / (256 / 2 ^ k) ∨ numerator f k = f / (256 / 2 ^ k) + 1) := by
  simp only [numerator, h, lt_irrefl, if_false, if_true]
  split_ifs <;> omega

theorem numerator_le_succ_div (f k : Nat) : numerator f k ≤ f / (256 / 2 ^ k) + 1 := by
  obtain h | h | h := lt_trichotomy (2 * (f % (256 / 2 ^ k))) (256 / 2 ^ k)
  · rw [numerator_of_below_half h]
    omega
  · obtain ⟨-, h | h⟩ := numerator_of_half h <;> omega
  · rw [numerator_of_above_half h]

/-- A fractional part rounds to at most a whole point. -/
theorem numerator_le {f k : Nat} (hf : f < 256) (hk : k ≤ 8) : numerator f k ≤ 2 ^ k := by
  have hmul : 256 / 2 ^ k * 2 ^ k = 256 := Nat.div_mul_cancel (pow_dvd_pow 2 hk)
  have hdiv : f / (256 / 2 ^ k) < 2 ^ k := Nat.div_lt_of_lt_mul (hmul.symm ▸ hf)
  exact (numerator_le_succ_div f k).trans hdiv

/-- A price of whole points has the numerator 0, at every denominator. -/
theorem numerator_zero (k : Nat) : numerator 0 k = 0 := by
  simp only [numerator, Nat.zero_div, Nat.zero_mod]
  generalize 256 / 2 ^ k = q
  split_ifs <;> omega

/-! ## Reduction (R32) -/

theorem reduce_zero (k : Nat) : reduce 0 k = (0, k) := by
  cases k <;> simp [reduce]

/-- Halving ends in lowest terms, without a change of the value. -/
theorem reduce_lowest_terms {n k : Nat} (h : n < 2 ^ k) :
    (reduce n k).2 ≤ k ∧ n = (reduce n k).1 * 2 ^ (k - (reduce n k).2) ∧
      ((reduce n k).1 = 0 ∨ (reduce n k).1 % 2 = 1) := by
  induction k generalizing n with
  | zero => exact ⟨le_rfl, by simp [reduce], .inl (Nat.lt_one_iff.mp h)⟩
  | succ k ih =>
    by_cases heven : n ≠ 0 ∧ n % 2 = 0
    · have hstep : reduce n (k + 1) = reduce (n / 2) k := if_pos heven
      obtain ⟨hle, hvalue, hodd⟩ := ih (n := n / 2) (by rw [pow_succ] at h; omega)
      rw [hstep]
      refine ⟨by omega, ?_, hodd⟩
      calc n = n / 2 * 2 := by omega
        _ = (reduce (n / 2) k).1 * 2 ^ (k - (reduce (n / 2) k).2) * 2 := by rw [← hvalue]
        _ = (reduce (n / 2) k).1 * 2 ^ (k + 1 - (reduce (n / 2) k).2) := by
          rw [Nat.succ_sub hle, pow_succ, mul_assoc]
    · have hstop : reduce n (k + 1) = (n, k + 1) := if_neg heven
      rw [hstop]
      exact ⟨le_rfl, by simp, by omega⟩

/-! ## The fraction text (R33) -/

/-- The three forms, with the characters written as codes. -/
theorem fractionForm_eq (w n k : Nat) :
    fractionForm w n k =
      if n = 0 then digits w
      else if w = 0 then digits n ++ [0x2F] ++ digits (2 ^ k)
      else digits w ++ [0x20] ++ digits n ++ [0x2F] ++ digits (2 ^ k) := by
  simp only [List.append_assoc]
  rfl

theorem slash_mem_fractionForm {n : Nat} (w : Nat) (h : n ≠ 0) (k : Nat) : 0x2F ∈ fractionForm w n k := by
  rw [fractionForm_eq, if_neg h]
  split_ifs <;> simp

theorem fractionText_of_carry {p k : Nat} (h : numerator (p % 256) k = 2 ^ k) :
    fractionText p k = digits (p / 256 + 1) := if_pos h

theorem fractionText_of_no_carry {p k : Nat} (h : numerator (p % 256) k ≠ 2 ^ k) :
    fractionText p k =
      fractionForm (p / 256) (reduce (numerator (p % 256) k) k).1 (reduce (numerator (p % 256) k) k).2 := if_neg h

theorem fractionText_of_no_fraction {p k : Nat} (h : numerator (p % 256) k = 0) :
    fractionText p k = digits (p / 256) := by
  rw [fractionText_of_no_carry (h ▸ (Nat.two_pow_pos k).ne), h, reduce_zero]
  rfl

/-! ## Whole points (R35) -/

theorem wholeRounding_of_below_half {p : Nat} (h : p % 256 < 128) : wholeRounding p = p / 256 := if_pos h

theorem wholeRounding_of_above_half {p : Nat} (h : 128 < p % 256) : wholeRounding p = p / 256 + 1 := by
  simp only [wholeRounding, if_neg h.not_gt, if_pos h]

theorem wholeRounding_of_half {p : Nat} (h : p % 256 = 128) :
    wholeRounding p = if p / 256 % 2 = 0 then p / 256 else p / 256 + 1 := by
  simp only [wholeRounding, h, lt_irrefl, if_false]

/-- The numerators at D = 2: the quarters next to a whole point go to that point. -/
theorem numerator_one {f : Nat} (hf : f < 256) :
    numerator f 1 = if f ≤ 64 then 0 else if f < 192 then 1 else 2 := by
  simp only [numerator, show 256 / 2 ^ 1 = 128 from rfl]
  split_ifs <;> omega

/-- At D = 2 a text without a fraction shows the whole points to which the price rounds. -/
theorem fractionText_one_of_no_slash {p : Nat} (h : 0x2F ∉ fractionText p 1) :
    fractionText p 1 = digits (wholeRounding p) := by
  have hn := numerator_one (Nat.mod_lt p (by omega : 0 < 256))
  split_ifs at hn with hlow hhigh
  · rw [fractionText_of_no_fraction hn, wholeRounding_of_below_half (by omega)]
  · rw [fractionText_of_no_carry (by omega), hn] at h
    exact absurd (slash_mem_fractionForm _ (by decide) _) h
  · rw [fractionText_of_carry hn, wholeRounding_of_above_half (by omega)]

/-- R31 to R33 at one denominator. -/
theorem fractionText_spec (p : Nat) {k : Nat} (hk : k ≤ 8) :
    ∃ n whole m j : Nat,
      n = numerator (p % 256) k ∧
      (n = 2 ^ k → whole = p / 256 + 1 ∧ m = 0) ∧
      (n ≠ 2 ^ k → n < 2 ^ k ∧ whole = p / 256 ∧ j ≤ k ∧ n = m * 2 ^ (k - j) ∧ (m = 0 ∨ m % 2 = 1)) ∧
      fractionText p k = fractionForm whole m j := by
  by_cases hcarry : numerator (p % 256) k = 2 ^ k
  · exact ⟨_, p / 256 + 1, 0, k, rfl, fun _ => ⟨rfl, rfl⟩, fun h => absurd hcarry h, fractionText_of_carry hcarry⟩
  · have hlt : numerator (p % 256) k < 2 ^ k :=
      lt_of_le_of_ne (numerator_le (Nat.mod_lt p (by omega)) hk) hcarry
    exact ⟨_, p / 256, _, _, rfl, fun h => absurd h hcarry, fun _ => ⟨hlt, rfl, reduce_lowest_terms hlt⟩,
      fractionText_of_no_carry hcarry⟩

/-- The price 0 is written "0" at every denominator, so it fits every field. -/
theorem priceField_zero {e w : Nat} (he : 1 ≤ e) (hw : 1 ≤ w) : priceField (some 0) e w = rightJustify w [0x30] := by
  have htext (k : Nat) : fractionText 0 k = [0x30] := fractionText_of_no_fraction (numerator_zero k)
  obtain ⟨k, -, heq⟩ | ⟨hno, -⟩ := priceField_cases 0 e w
  · rw [heq, htext]
  · have hlong := hno 1 le_rfl he
    rw [htext] at hlong
    exact absurd hw hlong.not_ge

/-- Settles O23: the widths field by field, the fields' texts case by case, the fraction text by whether its numerator
carries, and fitting by whether some denominator fits. -/
theorem fittedTextsFillTheirFields : Obligations.FittedTextsFillTheirFields := by
  refine ⟨fun x board k w => length_fieldText x board k, ?_, ?_, ?_⟩
  · intro x board w hw
    refine ⟨congrArg (priceField · x.e w) (lastShownPrice_eq x), rfl, rfl, rfl, rfl, changeField_of_halted, ?_,
      changeField_of_unchanged, ?_, ?_, rfl⟩
    · rintro hword (hlisted | hlast)
      · exact changeField_of_listed hword hlisted
      · exact changeField_of_no_last hword hlast
    · exact fun last => changeField_signed hw
    · exact volumeField_eq x.volume w
  · intro p k _ hk
    obtain ⟨n, whole, m, j, rfl, hcarry, hno, htext⟩ := fractionText_spec p hk
    exact ⟨_, whole, m, j, numerator_of_below_half, numerator_of_above_half, numerator_of_half, hcarry, hno,
      htext.trans (fractionForm_eq whole m j)⟩
  · intro p e w
    refine ⟨wholeRounding_of_below_half, wholeRounding_of_above_half, wholeRounding_of_half,
      fractionText_one_of_no_slash, rfl, priceField_zero, ?_⟩
    obtain ⟨k, ⟨hpos, hle, hfits, hfinest⟩, heq⟩ | hno := priceField_cases p e w
    · exact .inl ⟨k, hpos, hle, hfits, hfinest, heq⟩
    · exact .inr hno

end Sys2Proof.Machine
end

section
/-! PROOFS. The exercise pattern (R123): the 15-bit register as arithmetic on its value, and the cells drawn from it. -/

namespace Sys2Proof.Machine

/-! ## One step of the register -/

/-- One step of the register on its value: doubled in 15 bits, with bit 14 xor bit 13 at bit 0 (R123). -/
def shiftedValue (v : Nat) : Nat := (2 * v + (v / 16384 + v / 8192) % 2) % 32768

/-- Shifting in a bit: the shift leaves bit 0 clear, so the or is an addition. -/
theorem toNat_shiftLeft_one_or (v b : BitVec 15) (hb : b.toNat < 2) :
    ((v <<< 1) ||| b).toNat = (2 * v.toNat + b.toNat) % 32768 := by
  have hclear : (v <<< 1).toNat = 2 * (v.toNat % 16384) := by
    rw [BitVec.toNat_shiftLeft, Nat.shiftLeft_eq]
    omega
  have hor : 2 * (v.toNat % 16384) ||| b.toNat = 2 * (v.toNat % 16384) + b.toNat :=
    (Nat.two_pow_add_eq_or_of_lt (i := 1) hb _).symm
  rw [BitVec.toNat_or, hclear, hor]
  omega

/-- The new bit is the parity of bits 14 and 13. -/
theorem toNat_newBit (v : BitVec 15) :
    (if v.getLsbD 14 ^^ v.getLsbD 13 then 1 else 0 : BitVec 15).toNat = (v.toNat / 16384 + v.toNat / 8192) % 2 := by
  have h14 : v.getLsbD 14 = decide (v.toNat / 16384 % 2 = 1) := Nat.testBit_eq_decide_div_mod_eq
  have h13 : v.getLsbD 13 = decide (v.toNat / 8192 % 2 = 1) := Nat.testBit_eq_decide_div_mod_eq
  rw [h14, h13]
  by_cases hhigh : v.toNat / 16384 % 2 = 1 <;> by_cases hlow : v.toNat / 8192 % 2 = 1 <;>
    simp [hhigh, hlow] <;> omega

theorem toNat_registerStep (v : BitVec 15) : (registerStep v).toNat = shiftedValue v.toNat := by
  have hbit := toNat_newBit v
  rw [registerStep, toNat_shiftLeft_one_or _ _ (hbit ▸ Nat.mod_lt _ (by decide)), hbit, shiftedValue]

theorem toNat_iterate_registerStep (n : Nat) (v : BitVec 15) :
    (registerStep^[n] v).toNat = shiftedValue^[n] v.toNat :=
  Function.Semiconj.iterate_right (f := BitVec.toNat) toNat_registerStep n v

/-! ## The starting value -/

theorem toNat_registerStart (seed : Word) (r : RowNo) :
    (registerStart seed r).toNat =
      if (seed.toNat ^^^ (r.val * 257)) % 32768 = 0 then 1 else (seed.toNat ^^^ (r.val * 257)) % 32768 := by
  have hfits : r.val * 257 < 2 ^ 16 := by omega
  have hlow : ((seed ^^^ BitVec.ofNat 16 (r.val * 257)).setWidth 15).toNat =
      (seed.toNat ^^^ (r.val * 257)) % 32768 := by
    rw [BitVec.toNat_setWidth, BitVec.toNat_xor, BitVec.toNat_ofNat, Nat.mod_eq_of_lt hfits]
  have hzero (v : BitVec 15) : v = 0 ↔ v.toNat = 0 := BitVec.toNat_eq
  simp only [registerStart, hzero, hlow]
  split_ifs with hstart
  · rfl
  · exact hlow

/-! ## The cells -/

theorem registerSix_eq_iterate (v : BitVec 15) : registerSix v = registerStep^[6] v := rfl

/-- Cell c is drawn from the register after six steps for it and six for each cell before it. -/
theorem drawCells_eq (n : Nat) (v : BitVec 15) :
    drawCells n v = (List.range n).map (fun c => (registerStep^[6 * (c + 1)] v).toNat % 64 % 40) := by
  induction n generalizing v with
  | zero => rfl
  | succ n ih =>
    have hlater (c : Nat) : registerStep^[6 * (c + 1)] (registerSix v) = registerStep^[6 * (c + 1 + 1)] v := by
      rw [registerSix_eq_iterate, ← Function.iterate_add_apply, Nat.mul_succ 6 (c + 1)]
    rw [drawCells, ih, List.range_succ_eq_map, List.map_cons, List.map_map]
    simp only [Function.comp_def, hlater]
    rfl

theorem exercisePattern_cells (seed : Word) (r : RowNo) :
    (exercisePattern seed r).cells =
      (List.range 32).map (fun c => shiftedValue^[6 * (c + 1)] (registerStart seed r).toNat % 64 % 40) := by
  simp only [← toNat_iterate_registerStep]
  exact drawCells_eq 32 _

/-- Settles O43: the cells by the register's value after six steps a cell, and the worked example by running the model. -/
theorem patternIsDrawnFromTheRegister : Obligations.PatternIsDrawnFromTheRegister := by
  refine ⟨fun seed r => ?_, by decide⟩
  have hcells := exercisePattern_cells seed r
  refine ⟨toNat_registerStart seed r ▸ hcells, fun p hp => ?_, rfl⟩
  rw [hcells] at hp
  obtain ⟨c, -, rfl⟩ := List.mem_map.mp hp
  exact Nat.mod_lt _ (by decide)

end Sys2Proof.Machine
end


section
/-! PROOFS. What a step can do: each command runs one of the meanings below on the device, or changes the link alone. A
relation between the device before and after that each meaning keeps is kept by every step. -/

namespace Sys2Proof.Machine

/-! ## The meanings, by block -/

/-- What an event of a board line or of a row does. -/
inductive BoardEvent : (Device → Device) → Prop
  | repaint (g : SegNo) : BoardEvent (takeUse .repaint g (startRepaint g))
  | lampChange (g : SegNo) : BoardEvent (takeUse .lampChange g (startLampChange g))
  | completionPoll (g : SegNo) : BoardEvent (takeUse .completionPoll g (startCompletionPoll g))
  | readinessPoll (g : SegNo) : BoardEvent (takeUse .readinessPoll g (startReadinessPoll g))
  | echoRequest (g : SegNo) : BoardEvent (takeUse .echoRequest g (startEchoRequest g))
  | pattern (g : SegNo) : BoardEvent (takeUse .pattern g (startPattern g))
  | frameSent (g : SegNo) : BoardEvent (frameSent g)
  | ack (g : SegNo) (addr sum : Byte) (spoiled : Bool) :
      BoardEvent (takeAnswer g ackKind addr [] sum spoiled (accepted g))
  | nak (g : SegNo) (addr sum : Byte) (spoiled : Bool) :
      BoardEvent (takeAnswer g nakKind addr [] sum spoiled (fun _ d => d))
  | status (g : SegNo) (addr state sum : Byte) (spoiled : Bool) :
      BoardEvent (takeAnswer g statusKind addr [state] sum spoiled (polled g state))
  | echo (g : SegNo) (addr : Byte) (sensed : List Byte) (sum : Byte) (spoiled : Bool) :
      BoardEvent (takeAnswer g echoKind addr sensed sum spoiled (echoed g sensed))
  | badAnswer (g : SegNo) : BoardEvent (badAnswerNow g)
  | stall (r : RowNo) : BoardEvent (stallExpired r)
  | hold (r : RowNo) : BoardEvent (holdExpired r)
  | pollWait (r : RowNo) : BoardEvent (pollWaitExpired r)

/-- What a dealer command does (R147 to R152). -/
inductive DealerWork (t : LineNo) : (Device → Device × Text) → Prop
  | quote (rest : Text) : DealerWork t (quoteCommand rest)
  | watch (rest : Text) : DealerWork t (watchCommand t rest)
  | remove (rest : Text) : DealerWork t (removeCommand t rest)
  | page (rest : Option Text) : DealerWork t (pageCommand t rest)
  | forward (text : Text) : DealerWork t (forwardCommand t text)
  | unknown : DealerWork t (fun d => (d, replyCmd))

/-- What an event of a terminal line does. -/
inductive TerminalEvent : (Device → Device) → Prop
  | character (t : LineNo) (src : RxSource) (c : Byte) : TerminalEvent (goodCharacter t src c)
  | breakTaken (t : LineNo) (src : RxSource) : TerminalEvent (breakTaken t src)
  | lineError (t : LineNo) (src : RxSource) (k : RxError) : TerminalEvent (lineErrorTaken t src k)
  | rise (t : LineNo) : TerminalEvent (presentRises t)
  | fall (t : LineNo) : TerminalEvent (presentFalls t)
  | sent (t : LineNo) : TerminalEvent (characterSent t)
  | wait (t : LineNo) : TerminalEvent (waitExpired t)
  | mark (t : LineNo) : TerminalEvent (wireMark t)
  | dealer (t : LineNo) (line : Text) {work : Device → Device × Text} (h : DealerWork t work) :
      TerminalEvent (dealerLine t line work)

/-- What a request to the quotation store does past its common checks; an AMEND they refuse ends the reservation. -/
inductive MarketWork : (Device → Device × Answer) → Prop
  | list (f : ListFields) : MarketWork (listInstrument f)
  | delist (i : Slot) : MarketWork (delistSlot i)
  | trade (t : TradeItem) : MarketWork (tradeOne t)
  | block (l : List TradeItem) : MarketWork (tradeItemsInOrder l)
  | quote (f : QuoteFields) : MarketWork (quoteSlot f)
  | setState (f : Slot × StateWord) : MarketWork (setState f)
  | fetch (f : FetchTarget × Bool) : MarketWork (fetchTarget f)
  | amend (f : AmendFields) : MarketWork (amendSlot f)
  | amendRefused (a : Answer) : MarketWork (fun d => (endReservation d, a))
  | dayRoll : MarketWork (dayRollStore ())

/-- What a request to the tape and the ribbons does past its common checks. -/
inductive RibbonWork : (Device → Device × Answer) → Prop
  | bulletin (f : Byte × Text) : RibbonWork (offerBulletin f)
  | setup (f : RibbonFields) : RibbonWork (setupRibbon f)
  | start (r : RibbonNo) : RibbonWork (startRibbon r)
  | stop (f : RibbonNo × StopMode) : RibbonWork (stopByMode f)
  | align (g : Fin 4) : RibbonWork (alignGroup g)

/-- What a request to the board controller does past its common checks. -/
inductive BoardWork : (Device → Device × Answer) → Prop
  | segmentSetup (f : SegmentFields) : BoardWork (setupSegment f)
  | layout (f : LayoutNo × List Field) : BoardWork (replaceLayout f)
  | bind (f : RowNo × Slot × LayoutNo) : BoardWork (bindRow f)
  | unbind (r : RowNo) : BoardWork (unbindRow r)
  | rowClear (r : RowNo) : BoardWork (clearRow r)
  | rowSetup (f : RowNo × Option RowUnit) : BoardWork (setupRow f)
  | exercise (f : SegNo × Word) : BoardWork (startExercise f)

/-- What a request to the terminal lines does past its common checks. -/
inductive TerminalWork : (Device → Device × Answer) → Prop
  | setup (f : LineFields) : TerminalWork (setupLine f)
  | text (f : LineNo × Text) : TerminalWork (hostTextFor f)
  | test (f : LineNo × Text) : TerminalWork (startTest f)

/-! ## Relations that every step keeps -/

/-- A change of the channel's link or of the reset level alone. -/
abbrev LinkChange (a b : Device) : Prop := ChangesOnly [.link, .resetHeld] a b

/-- A relation between devices that does not see the link, and that each meaning keeps. -/
structure StepLaw (R : Device → Device → Prop) : Prop where
  refl : ∀ d, R d d
  link : ∀ {a b c d}, LinkChange a b → R b c → LinkChange c d → R a d
  reset : ∀ d, R d (powerOnAgain d)
  raises : ∀ (l : List Notice) d, R d (l.foldl Device.raise d)
  forwarded : ∀ t d, R d (d.modDealer t (fun y => { y with forward := [] }))
  pacing : ∀ r d, R d (pacing r d)
  board : ∀ {f}, BoardEvent f → ∀ d, R d (f d)
  terminal : ∀ {f}, TerminalEvent f → ∀ d, R d (f d)
  marketWork : ∀ {w}, MarketWork w → ∀ d, R d (w d).1
  ribbonWork : ∀ {w}, RibbonWork w → ∀ d, R d (w d).1
  boardWork : ∀ {w}, BoardWork w → ∀ d, R d (w d).1
  terminalWork : ∀ {w}, TerminalWork w → ∀ d, R d (w d).1
  collect : ∀ d, R d (collectNotice () d).1
  settle : ∀ d, R d (settleNow () d).1
  restart : ∀ d, R d (restartNow () d).1

namespace StepLaw

variable {R : Device → Device → Prop}

theorem ofLink (h : StepLaw R) {a b : Device} (hab : LinkChange a b) : R a b := h.link hab (h.refl b) (.refl _ b)

theorem request (h : StepLaw R) (kind : Byte) (body : List Byte) {work : Device → Device × Answer}
    (hwork : ∀ d, R d (work d).1) (d : Device) : R d (request kind body work d) := by
  rw [request_eq]
  split
  · exact h.link ((beginWork_changes kind body d).mono (by simp)) (hwork _) ((readyReply_changes kind _ _).mono (by simp))
  · exact h.refl d

theorem onFields {α : Type} (h : StepLaw R) {fields : Except Status α} {work : α → Device → Device × Answer}
    (hwork : ∀ f d, R d (work f d).1) (d : Device) : R d (onFields fields work d).1 := by
  unfold Machine.onFields
  split
  · exact hwork _ d
  · exact h.refl d

theorem tradeBlock (h : StepLaw R) (body : List Byte) (d : Device) : R d (workTradeBlock body d).1 := by
  unfold workTradeBlock
  split
  · exact h.marketWork (.block _) d
  · exact h.refl d

theorem amend (h : StepLaw R) (body : List Byte) (d : Device) : R d (workAmend body d).1 := by
  unfold workAmend
  split
  · exact h.marketWork (.amend _) d
  · exact h.marketWork (.amendRefused _) d

/-- The work of each kind of request keeps the relation. -/
theorem work (h : StepLaw R) : ∀ p ∈ requestWork, ∀ body d, R d (p.2 body d).1 := by
  simp only [requestWork, List.forall_mem_cons]
  refine ⟨fun _ => h.onFields fun f => h.marketWork (.list f), fun _ => h.onFields fun i => h.marketWork (.delist i),
    fun _ => h.onFields fun t => h.marketWork (.trade t), h.tradeBlock,
    fun _ => h.onFields fun f => h.marketWork (.quote f), fun _ => h.onFields fun f => h.marketWork (.setState f),
    fun _ => h.onFields fun f => h.marketWork (.fetch f), h.amend, fun _ => h.onFields fun _ => h.marketWork .dayRoll,
    fun _ => h.onFields fun f => h.ribbonWork (.bulletin f), fun _ => h.onFields fun f => h.ribbonWork (.setup f),
    fun _ => h.onFields fun r => h.ribbonWork (.start r), fun _ => h.onFields fun f => h.ribbonWork (.stop f),
    fun _ => h.onFields fun g => h.ribbonWork (.align g), fun _ => h.onFields fun f => h.boardWork (.segmentSetup f),
    fun _ => h.onFields fun f => h.boardWork (.layout f), fun _ => h.onFields fun f => h.boardWork (.bind f),
    fun _ => h.onFields fun r => h.boardWork (.unbind r), fun _ => h.onFields fun r => h.boardWork (.rowClear r),
    fun _ => h.onFields fun f => h.boardWork (.rowSetup f), fun _ => h.onFields fun f => h.boardWork (.exercise f),
    fun _ => h.onFields fun f => h.terminalWork (.setup f), fun _ => h.onFields fun f => h.terminalWork (.text f),
    fun _ => h.onFields fun f => h.terminalWork (.test f), fun _ => h.onFields fun _ => h.collect,
    fun _ => h.onFields fun _ => h.settle, fun _ => h.onFields fun _ => h.restart, fun p hp => absurd hp (by simp)⟩

theorem workOf (h : StepLaw R) (kind : Byte) (body : List Byte) (d : Device) : R d (workOf kind body d).1 := by
  unfold Machine.workOf
  cases hfind : requestWork.find? (fun p => p.1 == kind) with
  | none => exact h.refl d
  | some p => exact h.work p (List.mem_of_find?_eq_some hfind) body d

end StepLaw

/-! ## The events of the channel -/

theorem setChannel_link {d : Device} {x : Channel} (hr : x.reservation = d.channel.reservation)
    (hs : x.settle = d.channel.settle) : ChangesOnly [.link] d (d.setChannel x) := by
  intro p hp
  cases p with
  | link => simp at hp
  | reservation => exact hr
  | settle => exact hs
  | _ => rfl

theorem setChannel_linkChange {d : Device} {x : Channel} (hr : x.reservation = d.channel.reservation)
    (hs : x.settle = d.channel.settle) : LinkChange d (d.setChannel x) := (setChannel_link hr hs).mono (by simp)

theorem setResetHeld_linkChange (d : Device) (b : Bool) : LinkChange d (d.setResetHeld b) := by
  intro p hp
  cases p with
  | resetHeld => simp at hp
  | _ => rfl

theorem badCountReply_linkChange (d : Device) : LinkChange d (badCountReply d) :=
  (readyReply_changes _ _ d).mono (by simp)

namespace StepLaw

variable {R : Device → Device → Prop}

theorem takeFrameByte (h : StepLaw R) (b : Byte) (d : Device) : R d (takeFrameByte b d) := by
  unfold Machine.takeFrameByte
  split
  · split
    · exact h.request _ _ (h.workOf _ _) d
    · exact h.ofLink (setChannel_linkChange rfl rfl)
  · exact h.ofLink (setChannel_linkChange rfl rfl)

theorem takeByte (h : StepLaw R) (b : Byte) (d : Device) : R d (takeByte b d) := by
  unfold Machine.takeByte
  split
  · exact h.refl d
  · split
    · split
      · exact h.ofLink (badCountReply_linkChange d)
      · exact h.ofLink (setChannel_linkChange rfl rfl)
    · exact h.takeFrameByte b d
    · exact h.refl d
    · exact h.refl d

theorem finishReply (h : StepLaw R) (d : Device) : R d (finishReply d) := by
  have hclosed : LinkChange d (d.setChannel (closedReply d.channel)) := setChannel_linkChange rfl rfl
  unfold Machine.finishReply collectTaken
  split
  · split
    · exact h.link hclosed (h.forwarded _ _) (.refl _ _)
    · exact h.ofLink hclosed
  · exact h.ofLink (hclosed.trans (setChannel_linkChange rfl rfl))
  · exact h.ofLink hclosed

theorem takeReply (h : StepLaw R) (d : Device) : R d (takeReply d) := by
  unfold Machine.takeReply
  split
  · exact h.finishReply d
  · exact h.refl d

theorem takeReplyByte (h : StepLaw R) (d : Device) : R d (takeReplyByte d) := by
  unfold Machine.takeReplyByte
  split
  · dsimp only
    split
    · exact h.ofLink (setChannel_linkChange rfl rfl)
    · exact h.finishReply d
  · exact h.refl d

theorem abandonReply (h : StepLaw R) (d : Device) : R d (abandonReply d) := by
  unfold Machine.abandonReply
  split
  · dsimp only
    split
    · next n _ =>
      refine h.link ?_ (h.raises [n, .channel] _) (.refl _ _)
      exact setChannel_linkChange rfl rfl
    · refine h.link ?_ (h.raises [.channel] _) (.refl _ _)
      exact setChannel_linkChange rfl rfl
  · exact h.refl d

theorem abandonFrame (h : StepLaw R) (d : Device) : R d (abandonFrame d) := by
  unfold Machine.abandonFrame
  split
  · refine h.link ?_ (h.raises [.channel] _) (.refl _ _)
    exact setChannel_linkChange rfl rfl
  · exact h.refl d

theorem ite (h : StepLaw R) {p : Prop} [Decidable p] {f : Device → Device} (hf : ∀ d, R d (f d)) (d : Device) :
    R d (if p then f d else d) := by
  split
  · exact hf d
  · exact h.refl d

theorem ite_not (h : StepLaw R) {p : Prop} [Decidable p] {f : Device → Device} (hf : ∀ d, R d (f d)) (d : Device) :
    R d (if p then d else f d) := by
  split
  · exact h.refl d
  · exact hf d

end StepLaw

/-- A command that is a change of the device answers the state with the device changed. -/
theorem device_of_onDevice {f : Device → Device} {s t : State} (h : onDevice f s = .next t) : t.device = f s.device := by
  cases h
  rfl

/-- Every command keeps a relation that each meaning keeps. -/
theorem StepLaw.exec {R : Device → Device → Prop} (h : StepLaw R) {c : Instr} {s t : State} (he : exec c s = .next t) :
    R s.device t.device := by
  have key {f : Device → Device} (hx : onDevice f s = .next t) (hf : R s.device (f s.device)) : R s.device t.device := by
    rw [device_of_onDevice hx]
    exact hf
  cases c with
  | resetAsserted => exact key (f := fun d => d.setResetHeld true) he (h.ofLink (setResetHeld_linkChange _ _))
  | resetReleased => exact key he (h.reset _)
  | badCountFrame count => exact key he (h.ite (fun d => h.ofLink (badCountReply_linkChange d)) _)
  | unknownKind kind body => exact key (f := fun d => if kind ∈ requestKinds then d else _) he (h.ite_not (h.request _ _ h.refl) _)
  | gapTimerExpiry => exact key he (h.abandonFrame _)
  | replyTaken => exact key he (h.takeReply _)
  | replyTimerExpiry => exact key he (h.abandonReply _)
  | list body => exact key he (h.request _ _ (h.onFields fun f => h.marketWork (.list f)) _)
  | delist body => exact key he (h.request _ _ (h.onFields fun i => h.marketWork (.delist i)) _)
  | trade body => exact key he (h.request _ _ (h.onFields fun f => h.marketWork (.trade f)) _)
  | tradeBlock body => exact key he (h.request _ _ (h.tradeBlock body) _)
  | quote body => exact key he (h.request _ _ (h.onFields fun f => h.marketWork (.quote f)) _)
  | setStateOpen body => exact key (f := fun d => if carriesAction .haltWord body then d else _) he (h.ite_not (h.request _ _ (h.onFields fun f => h.marketWork (.setState f))) _)
  | setStateHalt body => exact key (f := fun d => if carriesAction .openWord body then d else _) he (h.ite_not (h.request _ _ (h.onFields fun f => h.marketWork (.setState f))) _)
  | fetch body => exact key he (h.request _ _ (h.onFields fun f => h.marketWork (.fetch f)) _)
  | amend body => exact key he (h.request _ _ (h.amend body) _)
  | dayRoll body => exact key he (h.request _ _ (h.onFields fun _ => h.marketWork .dayRoll) _)
  | bulletin body => exact key he (h.request _ _ (h.onFields fun f => h.ribbonWork (.bulletin f)) _)
  | ribbonSetup body => exact key he (h.request _ _ (h.onFields fun f => h.ribbonWork (.setup f)) _)
  | ribbonStart body => exact key he (h.request _ _ (h.onFields fun r => h.ribbonWork (.start r)) _)
  | ribbonStopImmediate body => exact key (f := fun d => if carriesMode .drain body then d else _) he (h.ite_not (h.request _ _ (h.onFields fun f => h.ribbonWork (.stop f))) _)
  | ribbonStopDrain body => exact key (f := fun d => if carriesMode .immediate body then d else _) he (h.ite_not (h.request _ _ (h.onFields fun f => h.ribbonWork (.stop f))) _)
  | align body => exact key he (h.request _ _ (h.onFields fun g => h.ribbonWork (.align g)) _)
  | segmentSetup body => exact key he (h.request _ _ (h.onFields fun f => h.boardWork (.segmentSetup f)) _)
  | layout body => exact key he (h.request _ _ (h.onFields fun f => h.boardWork (.layout f)) _)
  | bind body => exact key he (h.request _ _ (h.onFields fun f => h.boardWork (.bind f)) _)
  | unbind body => exact key he (h.request _ _ (h.onFields fun r => h.boardWork (.unbind r)) _)
  | rowClear body => exact key he (h.request _ _ (h.onFields fun r => h.boardWork (.rowClear r)) _)
  | rowSetup body => exact key he (h.request _ _ (h.onFields fun f => h.boardWork (.rowSetup f)) _)
  | exercise body => exact key he (h.request _ _ (h.onFields fun f => h.boardWork (.exercise f)) _)
  | lineSetup body => exact key he (h.request _ _ (h.onFields fun f => h.terminalWork (.setup f)) _)
  | terminalText body => exact key he (h.request _ _ (h.onFields fun f => h.terminalWork (.text f)) _)
  | lineTest body => exact key he (h.request _ _ (h.onFields fun f => h.terminalWork (.test f)) _)
  | collect body => exact key he (h.request _ _ (h.onFields fun _ => h.collect) _)
  | settle body => exact key he (h.request _ _ (h.onFields fun _ => h.settle) _)
  | restart body => exact key he (h.request _ _ (h.onFields fun _ => h.restart) _)
  | pacingEvent r => exact key he (h.pacing r _)
  | characterEvent r =>
    have hdue : R s.device (if characterDue (s.device.ribbon r) then Machine.pacing r s.device else s.device) := by
      split
      · exact h.pacing r _
      · exact h.refl _
    exact key he hdue
  | repaintStart g => exact key he (h.board (.repaint g) _)
  | lampChange g => exact key he (h.board (.lampChange g) _)
  | completionPoll g => exact key he (h.board (.completionPoll g) _)
  | readinessPoll g => exact key he (h.board (.readinessPoll g) _)
  | echoRequest g => exact key he (h.board (.echoRequest g) _)
  | patternFrameSend g => exact key he (h.board (.pattern g) _)
  | boardFrameSent g => exact key he (h.board (.frameSent g) _)
  | ack g addr sum spoiled => exact key he (h.board (.ack g addr sum spoiled) _)
  | nak g addr sum spoiled => exact key he (h.board (.nak g addr sum spoiled) _)
  | status g addr state sum spoiled => exact key he (h.board (.status g addr state sum spoiled) _)
  | echo g addr sensed sum spoiled => exact key he (h.ite (h.board (.echo g addr sensed sum spoiled)) _)
  | badAnswer g first => exact key (f := fun d => if first ∈ answerKinds then d else _) he (h.ite_not (h.board (.badAnswer g)) _)
  | answerTimerExpiry g => exact key he (h.board (.badAnswer g) _)
  | stallTimerExpiry r => exact key he (h.board (.stall r) _)
  | holdTimerExpiry r => exact key he (h.board (.hold r) _)
  | pollWaitExpiry r => exact key he (h.board (.pollWait r) _)
  | goodCharacter t c => exact key he (h.terminal (.character t.line t.source c) _)
  | breakReceived t => exact key he (h.terminal (.breakTaken t.line t.source) _)
  | lineError t kind => exact key he (h.terminal (.lineError t.line t.source kind) _)
  | linePresentRise t => exact key he (h.terminal (.rise t) _)
  | linePresentFall t => exact key he (h.terminal (.fall t) _)
  | terminalCharacterSent t => exact key he (h.terminal (.sent t) _)
  | waitTimerExpiry t => exact key he (h.terminal (.wait t) _)
  | dealerQuote t rest => exact key he (h.terminal (.dealer t _ (.quote rest)) _)
  | setAWatch t rest => exact key he (h.terminal (.dealer t _ (.watch rest)) _)
  | removeWatches t rest => exact key he (h.terminal (.dealer t _ (.remove rest)) _)
  | setThePage t rest => exact key he (h.terminal (.dealer t _ (.page rest)) _)
  | forwardAText t text => exact key he (h.terminal (.dealer t _ (.forward text)) _)
  | unknownCommand t line => exact key he (h.ite (h.terminal (.dealer t line .unknown)) _)
  | requestByteWritten b => exact key he (h.takeByte b _)
  | replyByteTaken => exact key he (h.takeReplyByte _)
  | wireReturnsToMark t => exact key he (h.terminal (.mark t) _)

/-- Every step keeps a relation that each meaning keeps. -/
theorem StepLaw.step {R : Device → Device → Prop} (h : StepLaw R) {s t : State} (he : step s = .next t) :
    R s.device t.device := by
  unfold Machine.step at he
  split at he
  · cases he
    exact h.refl _
  · next c rest _ => exact h.exec (s := ⟨s.device, rest⟩) he

end Sys2Proof.Machine
end


section
/-! PROOFS. Room events (R138, R139): what the items that enter a terminal's output queue change, said once for one item and
carried through the loop, the transmitter's start and the room event. -/

namespace Sys2Proof.Machine

/-! ## Lengths of the items (R153, R183) -/

@[simp] theorem length_position (l c : Nat) : (position l c).length = 3 := rfl

@[simp] theorem length_eraseToEnd : eraseToEnd.length = 2 := rfl

@[simp] theorem length_clearScreen : clearScreen.length = 2 := rfl

@[simp] theorem length_returnPosition (x : Terminal) : (returnPosition x).length = 3 := rfl

@[simp] theorem length_pageText (r : Record) : (pageText r).length = 55 := by
  simp [pageText, length_fieldText]

/-- A page line fits the room that is asked for it (R139, R153). -/
theorem length_pageItem_le (d : Device) (t : LineNo) (p : PageNo) : (pageItem d t p).length ≤ Config.pageLineRoom := by
  unfold pageItem
  split <;> simp [Config.pageLineRoom]

/-! ## What may differ on a line that items have entered -/

theorem WrittenOnly.refl (x : Terminal) : WrittenOnly x x := rfl

theorem WrittenOnly.trans {x y z : Terminal} (h : WrittenOnly x y) (k : WrittenOnly y z) : WrittenOnly x z := by
  unfold WrittenOnly at *
  rw [k, h]

/-- From `d` to `e` items may have entered the queue of terminal t, and its transmitter may have started: the alerts that
entered stood first, and of the dealer's other parts only the marks, the ring and the redraw that was owed may differ. -/
structure ItemsEntered (t : LineNo) (d e : Device) : Prop where
  parts : ChangesOnly [.terminals, .dealers] d e
  written : WrittenOnly (d.terminal t) (e.terminal t)
  page : (e.dealer t).page = (d.dealer t).page
  forward : (e.dealer t).forward = (d.dealer t).forward
  alerts : ∃ n, (e.dealer t).alerts = (d.dealer t).alerts.drop n
  other_terminal : ∀ k, k ≠ t → e.terminal k = d.terminal k
  other_dealer : ∀ k, k ≠ t → e.dealer k = d.dealer k
  queue : (d.terminal t).queue.length ≤ 512 → (e.terminal t).queue.length ≤ 512
  tables : TablesSound d → TablesSound e

namespace ItemsEntered

theorem refl (t : LineNo) (d : Device) : ItemsEntered t d d where
  parts := .refl _ d
  written := .refl _
  page := rfl
  forward := rfl
  alerts := ⟨0, rfl⟩
  other_terminal _ _ := rfl
  other_dealer _ _ := rfl
  queue := id
  tables := id

theorem trans {t : LineNo} {a b c : Device} (h : ItemsEntered t a b) (k : ItemsEntered t b c) : ItemsEntered t a c where
  parts := h.parts.trans k.parts
  written := h.written.trans k.written
  page := k.page.trans h.page
  forward := k.forward.trans h.forward
  alerts := by
    obtain ⟨m, hm⟩ := h.alerts
    obtain ⟨n, hn⟩ := k.alerts
    exact ⟨m + n, by rw [hn, hm, List.drop_drop]⟩
  other_terminal j hj := (k.other_terminal j hj).trans (h.other_terminal j hj)
  other_dealer j hj := (k.other_dealer j hj).trans (h.other_dealer j hj)
  queue hq := k.queue (h.queue hq)
  tables ht := k.tables (h.tables ht)

end ItemsEntered

/-! ## Tables under the updates (log 1) -/

theorem setTerminal_tables {d : Device} (t : LineNo) (x : Terminal) (h : TablesSound d) :
    TablesSound (d.setTerminal t x) := by
  obtain ⟨h1, h2, h3, h4, h5, h6, h7, h8, h9⟩ := h
  exact ⟨h1, h2, h3, h4, h5, h6, tableWf_set _ _ _ _ h7, h8, h9⟩

theorem setDealer_tables {d : Device} (t : LineNo) (y : Dealer)
    (hp : tableWf none (d.dealer t).page = true → tableWf none y.page = true)
    (hm : tableWf false (d.dealer t).marks = true → tableWf false y.marks = true) (h : TablesSound d) :
    TablesSound (d.setDealer t y) := by
  obtain ⟨h1, h2, h3, h4, h5, h6, h7, h8, h9⟩ := h
  refine ⟨h1, h2, h3, h4, h5, h6, h7, tableWf_set _ _ _ _ h8, fun k => ?_⟩
  by_cases hk : k = t
  · subst hk
    rw [Device.dealer_setDealer_same]
    exact ⟨hp (h9 k).1, hm (h9 k).2⟩
  · rw [Device.dealer_setDealer_other _ _ _ _ hk]
    exact h9 k

theorem setMark_marks {y : Dealer} (p : PageNo) (b : Bool) (h : tableWf false y.marks = true) :
    tableWf false (y.setMark p b).marks = true := tableWf_set _ _ _ _ h

theorem setEntry_page {y : Dealer} (p : PageNo) (s : Option Slot) (h : tableWf none y.page = true) :
    tableWf none (y.setEntry p s).page = true := tableWf_set _ _ _ _ h

/-- Setting marks, one after another, leaves the rest of the dealer's terminal as it is. -/
theorem foldl_setMark (l : List PageNo) (y : Dealer) :
    l.foldl (fun y p => y.setMark p true) y = { y with marks := (l.foldl (fun y p => y.setMark p true) y).marks } ∧
      (tableWf false y.marks = true → tableWf false (l.foldl (fun y p => y.setMark p true) y).marks = true) := by
  induction l generalizing y with
  | nil => exact ⟨rfl, id⟩
  | cons p l ih =>
    obtain ⟨hrest, hmarks⟩ := ih (y.setMark p true)
    exact ⟨hrest, fun h => hmarks (setMark_marks p true h)⟩

theorem markAll_eq (y : Dealer) : markAll y = { y with marks := (markAll y).marks } := (foldl_setMark everyPage y).1

theorem markAll_marks {y : Dealer} (h : tableWf false y.marks = true) : tableWf false (markAll y).marks = true :=
  (foldl_setMark everyPage y).2 h

/-! ## One item (R139) -/

/-- An item that fits has entered, and the dealer's terminal has taken note of it. -/
theorem itemsEntered_of_dealer {t : LineNo} {d : Device} {item : Text} {f : Dealer → Dealer}
    (hfits : item.length ≤ freeRoom (d.terminal t)) (hpage : (f (d.dealer t)).page = (d.dealer t).page)
    (hforward : (f (d.dealer t)).forward = (d.dealer t).forward)
    (halerts : ∃ n, (f (d.dealer t)).alerts = (d.dealer t).alerts.drop n)
    (hmarks : tableWf false (d.dealer t).marks = true → tableWf false (f (d.dealer t)).marks = true) :
    ItemsEntered t d ((enterItem t item d).modDealer t f) where
  parts := (enterItem_changes t item d).andThen (modDealer_changes _ t f) (by simp) (by simp)
  written := by simp [enterItem, Device.modTerminal_eq, Device.modDealer_eq, WrittenOnly]
  page := by simpa [enterItem, Device.modTerminal_eq, Device.modDealer_eq] using hpage
  forward := by simpa [enterItem, Device.modTerminal_eq, Device.modDealer_eq] using hforward
  alerts := by simpa [enterItem, Device.modTerminal_eq, Device.modDealer_eq] using halerts
  other_terminal k hk := by simp [enterItem, Device.modTerminal_eq, Device.modDealer_eq, Device.terminal_setTerminal, hk]
  other_dealer k hk := by simp [enterItem, Device.modTerminal_eq, Device.modDealer_eq, Device.dealer_setDealer, hk]
  queue hq := by
    simp only [freeRoom, Config.outputCapacity] at hfits
    simp only [enterItem, Device.modTerminal_eq, Device.modDealer_eq, Device.terminal_setDealer,
      Device.terminal_setTerminal_same, List.length_append]
    omega
  tables ht := setDealer_tables t _ (fun h => by simpa [enterItem, Device.modTerminal_eq, hpage] using h)
    (fun h => hmarks (by simpa [enterItem, Device.modTerminal_eq] using h)) (setTerminal_tables t _ ht)

/-- An item that fits has entered from one of the two slots. -/
theorem itemsEntered_of_slot {t : LineNo} {d : Device} {item : Text} {f : Terminal → Terminal}
    (hfits : item.length ≤ freeRoom (d.terminal t)) (hf : ∀ x, WrittenOnly x (f x) ∧ (f x).queue = x.queue) :
    ItemsEntered t d ((enterItem t item d).modTerminal t f) where
  parts := ((enterItem_changes t item d).trans (modTerminal_changes _ t f)).mono (by simp)
  written := by
    have h : WrittenOnly (d.terminal t) { d.terminal t with queue := (d.terminal t).queue ++ item } := rfl
    simpa [enterItem, Device.modTerminal_eq] using h.trans (hf _).1
  page := by simp [enterItem, Device.modTerminal_eq]
  forward := by simp [enterItem, Device.modTerminal_eq]
  alerts := ⟨0, by simp [enterItem, Device.modTerminal_eq]⟩
  other_terminal k hk := by simp [enterItem, Device.modTerminal_eq, Device.terminal_setTerminal, hk]
  other_dealer k _ := by simp [enterItem, Device.modTerminal_eq]
  queue hq := by
    simp only [freeRoom, Config.outputCapacity] at hfits
    simp only [enterItem, Device.modTerminal_eq, Device.terminal_setTerminal_same, (hf _).2, List.length_append]
    omega
  tables ht := setTerminal_tables t _ (setTerminal_tables t _ ht)

theorem roomStep_entered {t : LineNo} {d e : Device} (h : roomStep t d = some e) : ItemsEntered t d e := by
  unfold roomStep at h
  dsimp only at h
  split at h
  · split at h
    · next hfits =>
      cases h
      refine itemsEntered_of_dealer hfits ?_ ?_ ⟨0, ?_⟩ (fun hm => markAll_marks hm)
      all_goals rw [markAll_eq]
      exact List.drop_zero.symm
    · cases h
  split at h
  · split at h
    · next hfits =>
      cases h
      exact itemsEntered_of_slot hfits (fun _ => ⟨rfl, rfl⟩)
    · cases h
  split at h
  · split at h
    · next hfits =>
      cases h
      exact itemsEntered_of_slot hfits (fun _ => ⟨rfl, rfl⟩)
    · cases h
  split at h
  · next a rest halerts =>
    split at h
    · next hfits =>
      cases h
      exact itemsEntered_of_dealer hfits rfl rfl ⟨1, by simp [halerts]⟩ id
    · cases h
  split at h
  · next p _ =>
    split at h
    · next hfits =>
      cases h
      exact itemsEntered_of_dealer ((length_pageItem_le d t p).trans hfits) rfl rfl ⟨0, rfl⟩ (setMark_marks p false)
    · cases h
  · cases h

/-! ## Room events -/

theorem roomLoop_entered (n : Nat) (t : LineNo) (d : Device) : ItemsEntered t d (roomLoop n t d) := by
  induction n generalizing d with
  | zero => exact .refl t d
  | succ n ih =>
    unfold roomLoop
    split
    · next e h => exact (roomStep_entered h).trans (ih e)
    · exact .refl t d

theorem startCharacter_entered (t : LineNo) (d : Device) : ItemsEntered t d (startCharacter t d) := by
  unfold startCharacter
  dsimp only
  split
  · next c rest _ hqueue =>
    exact
      { parts := (setTerminal_changes d t _).mono (by simp)
        written := by simp [WrittenOnly]
        page := rfl
        forward := rfl
        alerts := ⟨0, rfl⟩
        other_terminal := fun k hk => Device.terminal_setTerminal_other _ _ _ _ hk
        other_dealer := fun _ _ => rfl
        queue := fun hq => by
          rw [hqueue, List.length_cons] at hq
          rw [Device.terminal_setTerminal_same]
          exact Nat.le_of_succ_le hq
        tables := setTerminal_tables t _ }
  · exact .refl t d

theorem roomEvent_entered (t : LineNo) (d : Device) : ItemsEntered t d (roomEvent t d) := by
  unfold roomEvent
  split
  · exact ((roomLoop_entered _ t d).trans (startCharacter_entered t _)).trans (roomLoop_entered _ t _)
  · exact .refl t d

/-- On a line that is not ACTIVE a room event does nothing (R139). -/
theorem roomEvent_of_not_active {t : LineNo} {d : Device} (h : (d.terminal t).state ≠ .active) : roomEvent t d = d :=
  if_neg h

end Sys2Proof.Machine
end


section
/-! PROOFS. Five conditions that concern single values or single tables, carried through every operation together: the
records (R2), the watches and the alert lists (R154, R155, R157), the screens (R130, R138), the order of the notices (R170,
R171), and the canonical form of the tables (log 1). -/

namespace Sys2Proof.Machine

/-- Each of the five conditions holds in `e` when it holds in `d`. -/
structure Keeps (d e : Device) : Prop where
  records : RecordsSound d → RecordsSound e
  watches : WatchesSound d → WatchesSound e
  screens : ScreensSound d → ScreensSound e
  notices : NoticesSound d → NoticesSound e
  tables : TablesSound d → TablesSound e

namespace Keeps

theorem refl (d : Device) : Keeps d d := ⟨id, id, id, id, id⟩

theorem trans {a b c : Device} (h : Keeps a b) (k : Keeps b c) : Keeps a c :=
  ⟨k.records ∘ h.records, k.watches ∘ h.watches, k.screens ∘ h.screens, k.notices ∘ h.notices, k.tables ∘ h.tables⟩

/-- The later change first, so that it fixes what the earlier one has left. -/
theorem after {a b c : Device} (k : Keeps b c) (h : Keeps a b) : Keeps a c := h.trans k

theorem ite {a b c : Device} {p : Prop} [Decidable p] (h : p → Keeps a b) (k : ¬p → Keeps a c) :
    Keeps a (if p then b else c) := by
  split
  · next hp => exact h hp
  · next hp => exact k hp

theorem forEach {α : Type} {f : α → Device → Device} (h : ∀ x d, Keeps d (f x d)) (l : List α) (d : Device) :
    Keeps d (forEach l f d) := by
  induction l generalizing d with
  | nil => exact .refl d
  | cons x l ih => exact (h x d).trans (ih (f x d))

end Keeps

/-! ## The watches by their keys (R154) -/

/-- What no two watches share: the terminal, the slot and the condition. -/
def watchKey (w : Watch) : LineNo × Slot × Condition := (w.terminal, w.slot, w.cond)

theorem findWatch_isSome_iff (d : Device) (t : LineNo) (i : Slot) (c : Condition) :
    (findWatch d t i c).isSome = true ↔ (t, i, c) ∈ d.watches.map watchKey := by
  simp [findWatch, watchKey, and_assoc]

theorem length_watchesOf (d : Device) (t : LineNo) :
    (watchesOf d t).length = ((d.watches.map watchKey).filter (fun k => k.1 == t)).length := by
  rw [List.filter_map, List.length_map]
  rfl

/-- A threshold stands exactly where the condition takes one, and a watch of condition ANY is ARMED (R154, R155). -/
def WatchFit (w : Watch) : Prop := (w.threshold = none ↔ w.cond = .any) ∧ (w.cond = .any → w.state = .armed)

/-- A terminal's alerts against the keys of the watches that are held (R157). -/
def AlertsFit (keys : List (LineNo × Slot × Condition)) (t : LineNo) (l : List Alert) : Prop :=
  (l.filter (fun a => !a.isEnded)).Nodup ∧ (l.filter Alert.isEnded).length ≤ 8 ∧
    ∀ i c, Alert.watch i c ∈ l → (t, i, c) ∈ keys

theorem watchesSound_iff (d : Device) :
    WatchesSound d ↔
      ((d.watches.map watchKey).length ≤ 128 ∧
        (∀ t, ((d.watches.map watchKey).filter (fun k => k.1 == t)).length ≤ 8) ∧ (d.watches.map watchKey).Nodup) ∧
      (∀ w ∈ d.watches, WatchFit w) ∧ ∀ t, AlertsFit (d.watches.map watchKey) t (d.dealer t).alerts := by
  unfold WatchesSound WatchFit AlertsFit
  simp only [length_watchesOf, findWatch_isSome_iff, List.length_map]
  constructor
  · rintro ⟨hpool, hper, hdup, hthreshold, hany, halerts⟩
    exact ⟨⟨hpool, hper, hdup⟩, fun w hw => ⟨hthreshold w hw, hany w hw⟩, halerts⟩
  · rintro ⟨⟨hpool, hper, hdup⟩, hfit, halerts⟩
    exact ⟨hpool, hper, hdup, fun w hw => (hfit w hw).1, fun w hw => (hfit w hw).2, halerts⟩

theorem AlertsFit.sublist {keys : List (LineNo × Slot × Condition)} {t : LineNo} {l m : List Alert}
    (h : AlertsFit keys t l) (hs : m.Sublist l) : AlertsFit keys t m :=
  ⟨h.1.sublist (hs.filter _), (hs.filter _).length_le.trans h.2.1, fun i c hm => h.2.2 i c (hs.subset hm)⟩

/-- The watches stand as they are and alerts have gone at the most. -/
theorem WatchesSound.of_alerts {d e : Device} (hw : e.watches = d.watches)
    (ha : ∀ t, (e.dealer t).alerts.Sublist (d.dealer t).alerts) (h : WatchesSound d) : WatchesSound e := by
  rw [watchesSound_iff] at h ⊢
  rw [hw]
  exact ⟨h.1, h.2.1, fun t => (h.2.2 t).sublist (ha t)⟩

/-- The watches keep their keys and stay fit, and alerts have gone at the most. -/
theorem WatchesSound.of_keys {d e : Device} (hk : e.watches.map watchKey = d.watches.map watchKey)
    (hfit : (∀ w ∈ d.watches, WatchFit w) → ∀ w ∈ e.watches, WatchFit w)
    (ha : ∀ t, (e.dealer t).alerts.Sublist (d.dealer t).alerts) (h : WatchesSound d) : WatchesSound e := by
  rw [watchesSound_iff] at h ⊢
  rw [hk]
  exact ⟨h.1, hfit h.2.1, fun t => (h.2.2 t).sublist (ha t)⟩

/-- Watches have gone, and the alerts left are fit for those that stand. -/
theorem WatchesSound.of_filter {d e : Device} {p : Watch → Bool} (hw : e.watches = d.watches.filter p)
    (ha : ∀ t, AlertsFit (d.watches.map watchKey) t (d.dealer t).alerts →
      AlertsFit ((d.watches.filter p).map watchKey) t (e.dealer t).alerts) (h : WatchesSound d) : WatchesSound e := by
  rw [watchesSound_iff] at h ⊢
  obtain ⟨⟨hpool, hper, hdup⟩, hfit, halerts⟩ := h
  have hs : ((d.watches.filter p).map watchKey).Sublist (d.watches.map watchKey) := List.filter_sublist.map _
  rw [hw]
  exact ⟨⟨hs.length_le.trans hpool, fun t => (hs.filter _).length_le.trans (hper t), hdup.sublist hs⟩,
    fun w hm => hfit w (List.mem_of_mem_filter hm), fun t => ha t (halerts t)⟩

/-! ## The order of the notices (R171) -/

theorem noticeRank_injective {a b : Notice} (h : noticeRank a = noticeRank b) : a = b := by
  cases a <;> cases b <;> simp only [noticeRank] at h <;> first | rfl | omega | exact congrArg _ (Fin.ext (by omega))

theorem insertNotice_sorted {n : Notice} {l : List Notice} (hn : n ∉ l)
    (h : l.Pairwise (fun a b => noticeRank a < noticeRank b)) :
    (insertNotice n l).Pairwise (fun a b => noticeRank a < noticeRank b) := by
  induction l with
  | nil => simp [insertNotice]
  | cons m l ih =>
    obtain ⟨hm, hl⟩ := List.pairwise_cons.mp h
    rw [List.mem_cons, not_or] at hn
    unfold insertNotice
    split
    · next hlt =>
      refine List.pairwise_cons.mpr ⟨fun k hk => ?_, h⟩
      rcases List.mem_cons.mp hk with rfl | hk
      · exact hlt
      · exact hlt.trans (hm k hk)
    · next hge =>
      refine List.pairwise_cons.mpr ⟨fun k hk => ?_, ih hn.2 hl⟩
      rcases (mem_insertNotice n k l).mp hk with rfl | hk
      · exact lt_of_le_of_ne (Nat.le_of_not_lt hge) (fun e => hn.1 (noticeRank_injective e).symm)
      · exact hm k hk

/-! ## The updates -/

theorem setSlot_keeps {d : Device} {i : Slot} {x : Record} (h : RecordSound (d.slot i) → RecordSound x) :
    Keeps d (d.setSlot i x) where
  records hd j := by
    rw [Device.slot_setSlot]
    split
    · exact h (hd i)
    · exact hd j
  watches := id
  screens := id
  notices := id
  tables := fun ⟨h1, h2, h3, h4, h5, h6, h7, h8, h9⟩ => ⟨tableWf_set _ _ _ _ h1, h2, h3, h4, h5, h6, h7, h8, h9⟩

theorem setRibbon_keeps (d : Device) (r : RibbonNo) (x : Ribbon) : Keeps d (d.setRibbon r x) :=
  ⟨id, id, id, id, fun ⟨h1, h2, h3, h4, h5, h6, h7, h8, h9⟩ => ⟨h1, tableWf_set _ _ _ _ h2, h3, h4, h5, h6, h7, h8, h9⟩⟩

theorem setSegment_keeps (d : Device) (g : SegNo) (x : Segment) : Keeps d (d.setSegment g x) :=
  ⟨id, id, id, id, fun ⟨h1, h2, h3, h4, h5, h6, h7, h8, h9⟩ => ⟨h1, h2, tableWf_set _ _ _ _ h3, h4, h5, h6, h7, h8, h9⟩⟩

theorem setLine_keeps (d : Device) (g : SegNo) (x : BoardLine) : Keeps d (d.setLine g x) :=
  ⟨id, id, id, id, fun ⟨h1, h2, h3, h4, h5, h6, h7, h8, h9⟩ => ⟨h1, h2, h3, tableWf_set _ _ _ _ h4, h5, h6, h7, h8, h9⟩⟩

theorem setLayout_keeps (d : Device) (k : LayoutNo) (x : List Field) : Keeps d (d.setLayout k x) :=
  ⟨id, id, id, id, fun ⟨h1, h2, h3, h4, h5, h6, h7, h8, h9⟩ => ⟨h1, h2, h3, h4, tableWf_set _ _ _ _ h5, h6, h7, h8, h9⟩⟩

theorem setRow_keeps (d : Device) (r : RowNo) (x : Row) : Keeps d (d.setRow r x) :=
  ⟨id, id, id, id, fun ⟨h1, h2, h3, h4, h5, h6, h7, h8, h9⟩ => ⟨h1, h2, h3, h4, h5, tableWf_set _ _ _ _ h6, h7, h8, h9⟩⟩

theorem setChannel_keeps (d : Device) (x : Channel) : Keeps d (d.setChannel x) := ⟨id, id, id, id, id⟩

theorem setDirectory_keeps (d : Device) (x : List (Text × Slot)) : Keeps d (d.setDirectory x) := ⟨id, id, id, id, id⟩

theorem setTape_keeps (d : Device) (x : Tape) : Keeps d (d.setTape x) := ⟨id, id, id, id, id⟩

/-- Within the limits of R130 and R138 a line stays within them. -/
def StaysWithin (x y : Terminal) : Prop :=
  x.queue.length ≤ 512 ∧ x.input.length ≤ 40 → y.queue.length ≤ 512 ∧ y.input.length ≤ 40

theorem setTerminal_keeps {d : Device} {t : LineNo} {x : Terminal} (h : StaysWithin (d.terminal t) x) :
    Keeps d (d.setTerminal t x) where
  records := id
  watches := id
  screens hd k := by
    rw [Device.terminal_setTerminal]
    split
    · exact h (hd t)
    · exact hd k
  notices := id
  tables := setTerminal_tables t x

theorem modTerminal_keeps {d : Device} {t : LineNo} {f : Terminal → Terminal} (h : ∀ x, StaysWithin x (f x)) :
    Keeps d (d.modTerminal t f) := setTerminal_keeps (h _)

/-- Page and marks stay canonical, and alerts have gone at the most. -/
structure DealerKept (x y : Dealer) : Prop where
  page : tableWf none x.page = true → tableWf none y.page = true
  marks : tableWf false x.marks = true → tableWf false y.marks = true
  alerts : y.alerts.Sublist x.alerts

theorem setDealer_keeps {d : Device} {t : LineNo} {y : Dealer} (h : DealerKept (d.dealer t) y) :
    Keeps d (d.setDealer t y) where
  records := id
  watches := WatchesSound.of_alerts rfl (fun k => by
    rw [Device.dealer_setDealer]
    split
    · next hk => exact hk ▸ h.alerts
    · exact .refl _)
  screens := id
  notices := id
  tables := setDealer_tables t y h.page h.marks

theorem modDealer_keeps {d : Device} {t : LineNo} {f : Dealer → Dealer} (h : ∀ y, DealerKept y (f y)) :
    Keeps d (d.modDealer t f) := setDealer_keeps (h _)

theorem modRow_keeps (d : Device) (r : RowNo) (f : Row → Row) : Keeps d (d.modRow r f) := setRow_keeps d r _
theorem modSegment_keeps (d : Device) (g : SegNo) (f : Segment → Segment) : Keeps d (d.modSegment g f) :=
  setSegment_keeps d g _
theorem modLine_keeps (d : Device) (g : SegNo) (f : BoardLine → BoardLine) : Keeps d (d.modLine g f) :=
  setLine_keeps d g _
theorem modRibbon_keeps (d : Device) (r : RibbonNo) (f : Ribbon → Ribbon) : Keeps d (d.modRibbon r f) :=
  setRibbon_keeps d r _
theorem modSettle_keeps (d : Device) (f : Settle → Settle) : Keeps d (d.modSettle f) := setChannel_keeps d _
theorem modSlot_keeps {d : Device} {i : Slot} {f : Record → Record} (h : ∀ x, RecordSound x → RecordSound (f x)) :
    Keeps d (d.modSlot i f) := setSlot_keeps (h _)

theorem LinkChange.keeps {a b : Device} (h : LinkChange a b) : Keeps a b where
  records hd i := by rw [h.slot_eq (by simp)]; exact hd i
  watches := WatchesSound.of_alerts (h .watches (by simp)) (fun t => by
    rw [show b.dealer t = a.dealer t by simp only [Device.dealer, show b.dealers = a.dealers from h .dealers (by simp)]])
  screens hd t := by
    rw [show b.terminal t = a.terminal t by
      simp only [Device.terminal, show b.terminals = a.terminals from h .terminals (by simp)]]
    exact hd t
  notices hd := by
    unfold NoticesSound
    rw [show b.notices = a.notices from h .notices (by simp)]
    exact hd
  tables ht := by
    have hdealer : ∀ t, b.dealer t = a.dealer t := fun t => by
      simp only [Device.dealer, show b.dealers = a.dealers from h .dealers (by simp)]
    unfold TablesSound at ht ⊢
    simp only [hdealer]
    rwa [show b.slots = a.slots from h .slots (by simp), show b.ribbons = a.ribbons from h .ribbons (by simp),
      show b.segments = a.segments from h .segments (by simp), show b.lines = a.lines from h .lines (by simp),
      show b.layouts = a.layouts from h .layouts (by simp), show b.rows = a.rows from h .rows (by simp),
      show b.terminals = a.terminals from h .terminals (by simp), show b.dealers = a.dealers from h .dealers (by simp)]

theorem ItemsEntered.keeps {t : LineNo} {d e : Device} (h : ItemsEntered t d e) : Keeps d e where
  records hd i := by rw [h.parts.slot_eq (by simp)]; exact hd i
  watches := WatchesSound.of_alerts (h.parts .watches (by simp)) (fun k => by
    by_cases hk : k = t
    · obtain ⟨n, hn⟩ := h.alerts
      rw [hk, hn]
      exact List.drop_sublist n _
    · rw [h.other_dealer k hk])
  screens hd k := by
    by_cases hk : k = t
    · subst hk
      exact ⟨h.queue (hd k).1, by rw [h.written]; exact (hd k).2⟩
    · rw [h.other_terminal k hk]
      exact hd k
  notices hd := by
    unfold NoticesSound
    rw [show e.notices = d.notices from h.parts .notices (by simp)]
    exact hd
  tables := h.tables

theorem roomEvent_keeps (t : LineNo) (d : Device) : Keeps d (roomEvent t d) := (roomEvent_entered t d).keeps

/-! ## Notices and the settle record -/

theorem raise_keeps (d : Device) (n : Notice) : Keeps d (d.raise n) :=
  .ite (fun _ => .refl d) (fun hn => ⟨id, id, id, insertNotice_sorted hn, id⟩)

theorem foldl_raise_keeps (l : List Notice) (d : Device) : Keeps d (l.foldl Device.raise d) := by
  induction l generalizing d with
  | nil => exact .refl d
  | cons n l ih => exact (raise_keeps d n).trans (ih _)

theorem clearNotice_keeps (d : Device) (n : Notice) : Keeps d (d.clearNotice n) :=
  ⟨id, id, id, fun h => h.filter _, id⟩

theorem settleCheck_keeps (d : Device) : Keeps d d.settleCheck :=
  .ite (fun _ => (modSettle_keeps d _).trans (raise_keeps _ _)) (fun _ => .refl d)

theorem settleReport_keeps (d : Device) (f : Settle → Settle) : Keeps d (d.settleReport f) :=
  .ite (fun _ => (modSettle_keeps d f).trans (settleCheck_keeps _)) (fun _ => .refl d)

theorem reportShown_keeps (d : Device) : Keeps d d.reportShown := settleReport_keeps d _
theorem reportNotShown_keeps (d : Device) : Keeps d d.reportNotShown := settleReport_keeps d _
theorem reportReached_keeps (d : Device) (r : RibbonNo) (id : Nat) : Keeps d (d.reportReached r id) :=
  .ite (fun _ => settleReport_keeps d _) (fun _ => .refl d)
theorem reportStopped_keeps (d : Device) (r : RibbonNo) : Keeps d (d.reportStopped r) :=
  .ite (fun _ => settleReport_keeps d _) (fun _ => .refl d)

/-! ## Rows and segments -/

theorem enqueueRow_keeps (r : RowNo) (d : Device) : Keeps d (enqueueRow r d) := by
  unfold enqueueRow
  split
  · exact .refl d
  · exact (modRow_keeps d r _).trans (modSegment_keeps _ _ _)

theorem markRow_keeps (r : RowNo) (d : Device) : Keeps d (markRow r d) := by
  unfold markRow
  split
  · exact (modRow_keeps d r _).trans (enqueueRow_keeps r _)
  · exact .refl d
  · exact modRow_keeps d r _
  · exact modRow_keeps d r _
  · exact .refl d
  · exact .refl d

theorem markRows_keeps (l : List RowNo) (d : Device) : Keeps d (markRows l d) := .forEach markRow_keeps l d

theorem setStep_keeps (r : RowNo) (f : ExerciseRow → ExerciseRow) (g : SegNo) (d : Device) :
    Keeps d (setStep r f g d) := modSegment_keeps d g _

theorem releasePassed_keeps (r : RowNo) (d : Device) : Keeps d (releasePassed r d) :=
  .ite (fun _ => (modRow_keeps d r _).trans (enqueueRow_keeps r _)) (fun _ => modRow_keeps d r _)

theorem exerciseCheck_keeps (g : SegNo) (d : Device) : Keeps d (exerciseCheck g d) :=
  .ite (fun _ => (Keeps.forEach releasePassed_keeps _ d).trans
      ((modSegment_keeps _ g _).trans ((modLine_keeps _ g _).trans (raise_keeps _ _))))
    (fun _ => .refl d)

theorem exerciseFail_keeps (r : RowNo) (d : Device) : Keeps d (exerciseFail r d) := by
  unfold exerciseFail
  split
  · exact .refl d
  · exact .ite (fun _ => (setStep_keeps r _ _ d).trans (exerciseCheck_keeps _ _)) (fun _ => .refl d)

theorem dequeueRow_keeps (r : RowNo) (d : Device) : Keeps d (dequeueRow r d) := by
  unfold dequeueRow
  split
  · exact .refl d
  · exact modSegment_keeps d _ _

theorem darken_keeps (r : RowNo) (s : Display) (c : Cause) (notice : Bool) (d : Device) :
    Keeps d (darken r s c notice d) := by
  have hdark := (dequeueRow_keeps r d).trans (modRow_keeps _ r (fun x => darkRow x s c))
  have hpaid (e : Device) (p : Prop) [Decidable p] : Keeps e (if p then e.reportNotShown else e) :=
    .ite (fun _ => reportNotShown_keeps e) (fun _ => .refl e)
  exact (hdark.trans (.ite (fun _ => (hpaid _ _).trans (raise_keeps _ _)) (fun _ => hpaid _ _))).trans
    (exerciseFail_keeps r _)

theorem enterDown_keeps (r : RowNo) (c : Cause) (d : Device) : Keeps d (enterDown r c d) := darken_keeps r _ c _ d

theorem enterFaulted_keeps (r : RowNo) (c : Cause) (cell : Nat) (d : Device) : Keeps d (enterFaulted r c cell d) :=
  (modRow_keeps d r _).trans (darken_keeps r _ c _ _)

theorem startMotion_keeps (r : RowNo) (g : SegNo) (est : Nat) (d : Device) : Keeps d (startMotion r g est d) := by
  unfold startMotion
  exact (modSegment_keeps d g _).trans (modRow_keeps _ r _)

theorem payDone_keeps (r : RowNo) (d : Device) : Keeps d (payDone r d) :=
  .ite (fun _ => .refl d)
    (fun _ => .ite (fun _ => (modRow_keeps d r _).trans (reportShown_keeps _)) (fun _ => modRow_keeps d r _))

theorem completeRepaint_keeps (r : RowNo) (g : SegNo) (d : Device) : Keeps d (completeRepaint r g d) := by
  have h := (modRow_keeps d r (completedRow (d.segment g).hold)).trans (payDone_keeps r _)
  exact .ite (fun _ => h.trans ((modRow_keeps _ r _).trans (enqueueRow_keeps r _))) (fun _ => h)

/-! ## Board lines -/

theorem takeUse_keeps (use : LineUse) (g : SegNo) {work : RowNo → Device → Device} (h : ∀ r d, Keeps d (work r d))
    (d : Device) : Keeps d (takeUse use g work d) := by
  unfold takeUse
  split
  · exact .ite (fun _ => h _ d) (fun _ => .refl d)
  · exact .refl d

theorem sendFrame_keeps (g : SegNo) (use : LineUse) (r : RowNo) (body : FrameBody) (d : Device) :
    Keeps d (sendFrame g use r body d) := modLine_keeps d g _

theorem endExchange_keeps (g : SegNo) (d : Device) : Keeps d (endExchange g d) := modLine_keeps d g _

theorem heard_keeps (g : SegNo) (f : Frame) (d : Device) : Keeps d (heard g f d) :=
  .ite (fun _ => modRow_keeps d _ _) (fun _ => .refl d)

theorem takenSilent_keeps (r : RowNo) (d : Device) : Keeps d (takenSilent r d) := by
  unfold takenSilent
  split
  · exact enterDown_keeps r _ d
  · exact enterDown_keeps r _ d
  · exact enterDown_keeps r _ d
  · exact .ite (fun _ => .refl d) (fun _ => modRow_keeps d r _)
  · exact .refl d
  · exact .refl d

theorem unansweredPoll_keeps (g : SegNo) (f : Frame) (d : Device) : Keeps d (unansweredPoll g f d) :=
  .ite (fun _ => .refl d)
    (fun _ => .ite (fun _ => (modRow_keeps d _ _).trans (takenSilent_keeps _ _)) (fun _ => modRow_keeps d _ _))

theorem badAnswerTo_keeps (g : SegNo) (f : Frame) (d : Device) : Keeps d (badAnswerTo g f d) := by
  unfold badAnswerTo
  split
  · exact (endExchange_keeps g d).trans (unansweredPoll_keeps g f _)
  · exact .ite (fun _ => modLine_keeps d g _) (fun _ => (endExchange_keeps g d).trans (enterDown_keeps _ _ _))

theorem takeAnswer_keeps (g : SegNo) (kind addr : Byte) (body : List Byte) (sum : Byte) (spoiled : Bool)
    {act : Frame → Device → Device} (h : ∀ f d, Keeps d (act f d)) (d : Device) :
    Keeps d (takeAnswer g kind addr body sum spoiled act d) := by
  unfold takeAnswer
  split
  · exact .refl d
  · exact .ite (fun _ => ((endExchange_keeps g d).trans (heard_keeps g _ _)).trans (h _ _))
      (fun _ => badAnswerTo_keeps g _ d)

theorem accepted_keeps (g : SegNo) (f : Frame) (d : Device) : Keeps d (accepted g f d) := by
  unfold accepted
  split
  · split
    · exact (modRow_keeps d _ _).trans (startMotion_keeps _ _ _ _)
    · exact .refl d
  · split
    · exact (setStep_keeps _ _ _ d).trans (startMotion_keeps _ _ _ _)
    · exact .refl d
  · exact modRow_keeps d _ _
  · exact .refl d

theorem completionAnswer_keeps (g : SegNo) (r : RowNo) (ready moving : Bool) (d : Device) :
    Keeps d (completionAnswer g r ready moving d) :=
  .ite (fun _ => .refl d) fun _ => .ite (fun _ => enterDown_keeps r _ d) fun _ => .ite (fun _ => modRow_keeps d r _)
    fun _ => .ite (fun _ => completeRepaint_keeps r g d) fun _ => (modRow_keeps d r _).trans (setStep_keeps _ _ _ _)

theorem readinessAnswer_keeps (r : RowNo) (ready : Bool) (d : Device) : Keeps d (readinessAnswer r ready d) := by
  have hdown : Keeps d (if ready then d else enterDown r .notReady d) :=
    .ite (fun _ => .refl d) (fun _ => enterDown_keeps r _ d)
  unfold readinessAnswer
  split
  · exact hdown
  · exact hdown
  · exact .ite (fun _ => .refl d) fun _ =>
      .ite (fun _ => ((modRow_keeps d r _).trans (enqueueRow_keeps r _)).trans (raise_keeps _ _))
        (fun _ => modRow_keeps d r _)
  · exact .refl d
  · exact .refl d
  · exact .refl d

theorem polled_keeps (g : SegNo) (state : Byte) (f : Frame) (d : Device) : Keeps d (polled g state f d) := by
  unfold polled
  refine .ite (fun _ => .refl d) fun _ => ?_
  split
  · exact completionAnswer_keeps g _ _ _ d
  · exact readinessAnswer_keeps _ _ d
  · exact .refl d

theorem echoed_keeps (g : SegNo) (sensed : List Byte) (f : Frame) (d : Device) : Keeps d (echoed g sensed f d) :=
  .ite (fun _ => .ite
      (fun _ => ((modRow_keeps d _ _).trans (setStep_keeps _ _ _ _)).trans (exerciseCheck_keeps g _))
      (fun _ => enterFaulted_keeps _ _ _ d))
    (fun _ => .refl d)

theorem startPattern_keeps (g : SegNo) (r : RowNo) (d : Device) : Keeps d (startPattern g r d) :=
  ((modRow_keeps d r _).trans (setStep_keeps _ _ _ _)).trans (sendFrame_keeps _ _ _ _ _)

theorem startRepaint_keeps (g : SegNo) (r : RowNo) (d : Device) : Keeps d (startRepaint g r d) :=
  ((modSegment_keeps d g _).trans (setRow_keeps _ r _)).trans (sendFrame_keeps _ _ _ _ _)

theorem frameSent_keeps (g : SegNo) (d : Device) : Keeps d (frameSent g d) := by
  unfold frameSent
  dsimp only
  split
  · exact .ite (fun _ => .refl d) (fun _ => setLine_keeps d g _)
  · exact .refl d

theorem badAnswerNow_keeps (g : SegNo) (d : Device) : Keeps d (badAnswerNow g d) := by
  unfold badAnswerNow
  split
  · exact badAnswerTo_keeps g _ d
  · exact .refl d

theorem stallExpired_keeps (r : RowNo) (d : Device) : Keeps d (stallExpired r d) := by
  refine .ite (fun _ => ?_) (fun _ => .refl d)
  split
  · exact .refl d
  · exact .ite (fun _ => enterFaulted_keeps _ _ _ d)
      (fun _ => .ite (fun _ => enterFaulted_keeps _ _ _ d) (fun _ => .refl d))

theorem pollWaitExpired_keeps (r : RowNo) (d : Device) : Keeps d (pollWaitExpired r d) := by
  unfold pollWaitExpired
  split
  · exact modRow_keeps d r _
  · exact .refl d

theorem BoardEvent.keeps {f : Device → Device} (h : BoardEvent f) (d : Device) : Keeps d (f d) := by
  cases h with
  | repaint g => exact takeUse_keeps _ g (startRepaint_keeps g) d
  | lampChange g => exact takeUse_keeps _ g (fun r e => sendFrame_keeps _ _ _ _ e) d
  | completionPoll g =>
    exact takeUse_keeps _ g
      (fun r e => ((modLine_keeps e g _).trans (modRow_keeps _ r _)).trans (sendFrame_keeps _ _ _ _ _)) d
  | readinessPoll g => exact takeUse_keeps _ g (fun r e => (modLine_keeps e g _).trans (sendFrame_keeps _ _ _ _ _)) d
  | echoRequest g => exact takeUse_keeps _ g (fun r e => sendFrame_keeps _ _ _ _ e) d
  | pattern g => exact takeUse_keeps _ g (startPattern_keeps g) d
  | frameSent g => exact frameSent_keeps g d
  | ack g addr sum spoiled => exact takeAnswer_keeps g _ _ _ _ _ (accepted_keeps g) d
  | nak g addr sum spoiled => exact takeAnswer_keeps g _ _ _ _ _ (fun _ => .refl) d
  | status g addr state sum spoiled => exact takeAnswer_keeps g _ _ _ _ _ (polled_keeps g state) d
  | echo g addr sensed sum spoiled => exact takeAnswer_keeps g _ _ _ _ _ (echoed_keeps g sensed) d
  | badAnswer g => exact badAnswerNow_keeps g d
  | stall r => exact stallExpired_keeps r d
  | hold r => exact .ite (fun _ => setRow_keeps d r _) (fun _ => .refl d)
  | pollWait r => exact pollWaitExpired_keeps r d

/-! ## The tape and the ribbons -/

/-- The FREE values meet the condition of R2. -/
theorem recordSound_free : RecordSound Record.free := by
  simp [RecordSound, Record.free]

theorem evaluateDelay_keeps (r : RibbonNo) (d : Device) : Keeps d (evaluateDelay r d) :=
  .ite (fun _ => .refl d) (fun _ => (setRibbon_keeps d r _).trans (raise_keeps _ _))

theorem joinRibbon_keeps (len : Nat) (r : RibbonNo) (d : Device) : Keeps d (joinRibbon len r d) :=
  (modRibbon_keeps d r _).trans (evaluateDelay_keeps r _)

theorem appendEntry_keeps (b : EntryBody) (d : Device) : Keeps d (appendEntry b d) :=
  (setTape_keeps d _).trans (.forEach (joinRibbon_keeps _) _ _)

theorem offer_keeps (b : EntryBody) (d : Device) : Keeps d (offer b d).1 := by
  unfold offer
  split
  · exact .refl d
  · split
    · exact appendEntry_keeps b d
    · split
      · exact (setTape_keeps d _).trans (raise_keeps _ _)
      · split
        · exact (appendEntry_keeps _ d).trans (raise_keeps _ _)
        · exact .refl d

theorem freeSlot_keeps (i : Slot) (d : Device) : Keeps d (freeSlot i d) :=
  (setSlot_keeps (fun _ => recordSound_free)).trans
    (.forEach (fun r e => .ite (fun _ => modRibbon_keeps e r _) (fun _ => .refl e)) everyRibbon _)

theorem releaseEntry_keeps (x : Entry) (d : Device) : Keeps d (releaseEntry x d) := by
  unfold releaseEntry
  split
  · exact .ite (fun _ => freeSlot_keeps _ d) (fun _ => .refl d)
  · exact .refl d

theorem sweepTape_keeps (d : Device) : Keeps d (sweepTape d) := by
  have h (l : List Entry) (x : Tape) : Keeps d (forEach l releaseEntry (d.setTape x)) :=
    (setTape_keeps d x).trans (.forEach releaseEntry_keeps l _)
  exact .ite (fun _ => (h _ _).trans (raise_keeps _ _)) (fun _ => h _ _)

theorem leavePending_keeps (r : RibbonNo) (id : Nat) (d : Device) : Keeps d (leavePending r id d) := setTape_keeps d _

theorem leaveEvery_keeps (r : RibbonNo) (d : Device) : Keeps d (leaveEvery r d) := setTape_keeps d _

theorem stopRibbon_keeps (r : RibbonNo) (d : Device) : Keeps d (stopRibbon r d) := by
  have h := modRibbon_keeps d r stoppedRibbon
  exact (((Keeps.ite (fun _ => h.trans (raise_keeps _ _)) (fun _ => h)).trans (reportStopped_keeps _ r)).trans
    (leaveEvery_keeps r _)).trans (sweepTape_keeps _)

theorem endDrain_keeps (r : RibbonNo) (d : Device) : Keeps d (endDrain r d) :=
  (stopRibbon_keeps r d).trans (raise_keeps _ _)

theorem beginEntry_keeps (r : RibbonNo) (y : Entry) (d : Device) : Keeps d (beginEntry r y d) :=
  ((modRibbon_keeps d r _).trans (evaluateDelay_keeps r _)).trans (setRibbon_keeps _ r _)

theorem finishEntry_keeps (r : RibbonNo) (id : Nat) (d : Device) : Keeps d (finishEntry r id d) := by
  have h := (((modRibbon_keeps d r
    (fun x => { x with current := none, phase := .separator, pos := 0, text := [] })).trans
    (reportReached_keeps _ r id)).trans (leavePending_keeps r id _)).trans (sweepTape_keeps _)
  exact .ite (fun _ => h.trans (endDrain_keeps r _)) (fun _ => h)

theorem shift_modRibbon_keeps (r : RibbonNo) (c : Byte) (f : Ribbon → Ribbon) (d : Device) :
    Keeps d ((shift r c d).modRibbon r f) := (modRibbon_keeps d r _).trans (modRibbon_keeps _ r f)

theorem textCharacter_keeps (r : RibbonNo) (d : Device) : Keeps d (textCharacter r d) := by
  unfold textCharacter
  dsimp only
  split
  · exact shift_modRibbon_keeps r _ _ d
  · split
    · exact (modRibbon_keeps d r _).trans (finishEntry_keeps r _ _)
    · exact shift_modRibbon_keeps r _ _ d

theorem markerCharacter_keeps (r : RibbonNo) (d : Device) : Keeps d (markerCharacter r d) :=
  .ite (fun _ => shift_modRibbon_keeps r _ _ d) (fun _ => shift_modRibbon_keeps r _ _ d)

theorem separatorCharacter_keeps (r : RibbonNo) (d : Device) : Keeps d (separatorCharacter r d) :=
  .ite (fun _ => shift_modRibbon_keeps r _ _ d) (fun _ => shift_modRibbon_keeps r _ _ d)

theorem idleCharacter_keeps (r : RibbonNo) (d : Device) : Keeps d (idleCharacter r d) := by
  unfold idleCharacter
  split
  · exact modRibbon_keeps d r _
  · exact .ite (fun _ => (beginEntry_keeps r _ d).trans (markerCharacter_keeps r _))
      (fun _ => (beginEntry_keeps r _ d).trans (textCharacter_keeps r _))

theorem characterWork_keeps (r : RibbonNo) (d : Device) : Keeps d (characterWork r d) := by
  unfold characterWork
  refine .ite (fun _ => modRibbon_keeps d r _) (fun _ => ?_)
  split
  · exact idleCharacter_keeps r d
  · exact markerCharacter_keeps r d
  · exact textCharacter_keeps r d
  · exact separatorCharacter_keeps r d

theorem pacing_keeps (r : RibbonNo) (d : Device) : Keeps d (pacing r d) :=
  .ite (fun _ => .ite (fun _ => (setRibbon_keeps d r _).trans (characterWork_keeps r _))
    (fun _ => setRibbon_keeps d r _)) (fun _ => .refl d)

theorem stopDrain_keeps (r : RibbonNo) (d : Device) : Keeps d (stopDrain r d).1 := by
  unfold stopDrain
  dsimp only
  split
  · exact .refl d
  · exact .refl d
  · exact endDrain_keeps r d
  · split
    · exact endDrain_keeps r d
    · exact setRibbon_keeps d r _

theorem stopImmediate_keeps (r : RibbonNo) (d : Device) : Keeps d (stopImmediate r d).1 := by
  unfold stopImmediate
  split
  · exact .refl d
  · exact stopRibbon_keeps r d

theorem RibbonWork.keeps {w : Device → Device × Answer} (h : RibbonWork w) (d : Device) : Keeps d (w d).1 := by
  cases h with
  | bulletin f => exact offer_keeps _ d
  | setup f =>
    unfold setupRibbon
    dsimp only
    split
    · exact .refl d
    · exact setRibbon_keeps d _ _
  | start r =>
    unfold startRibbon
    dsimp only
    split
    · exact .refl d
    · exact setRibbon_keeps d r _
  | stop f =>
    unfold stopByMode
    split
    · exact stopImmediate_keeps _ d
    · exact stopDrain_keeps _ d
  | align g => exact .forEach (fun r e => modRibbon_keeps e r _) _ d

end Sys2Proof.Machine
end


section
/-! PROOFS. The five conditions through the terminal lines, the dealer service, the store and the board requests, and so
through every step (R2, R130, R138, R154, R155, R157, R170, R171, log 1). -/

namespace Sys2Proof.Machine

/-! ## Alerts taken out and listed (R150, R157, R159) -/

/-- The alerts that name slot i are taken out, condition after condition. -/
theorem foldl_dropAlert_conditions (i : Slot) (l : List Alert) :
    conditionOrder.foldl (fun l c => dropAlert i c l) l =
      l.filter (fun a => match a with
        | .watch j _ => decide (j ≠ i)
        | .ended _ => true) := by
  simp only [conditionOrder, List.foldl_cons, List.foldl_nil, dropAlert, List.filter_filter]
  congr 1
  funext a
  cases a with
  | ended s => simp
  | watch j c => cases c <;> by_cases h : j = i <;> simp [h]

/-- The alerts of the watches that are gone are taken out, one after another. -/
theorem foldl_dropAlert_watches (gone : List Watch) (l : List Alert) :
    gone.foldl (fun l w => dropAlert w.slot w.cond l) l =
      l.filter (fun a => !gone.any (fun w => a == .watch w.slot w.cond)) := by
  induction gone generalizing l with
  | nil => simp
  | cons w gone ih =>
    rw [List.foldl_cons, ih, dropAlert, List.filter_filter]
    congr 1
    funext a
    simp [Bool.and_comm, beq_eq_decide]

theorem filter_eraseP_isEnded (l : List Alert) :
    (l.eraseP Alert.isEnded).filter (fun a => !a.isEnded) = l.filter (fun a => !a.isEnded) := by
  induction l with
  | nil => rfl
  | cons a l ih => by_cases h : a.isEnded = true <;> simp [h, ih]

theorem length_filter_eraseP_isEnded (l : List Alert) :
    ((l.eraseP Alert.isEnded).filter Alert.isEnded).length = (l.filter Alert.isEnded).length - 1 := by
  induction l with
  | nil => rfl
  | cons a l ih => by_cases h : a.isEnded = true <;> simp [h, ih]

theorem appendEnded_eq (s : Text) (l : List Alert) :
    appendEnded s l = (if 8 ≤ (l.filter Alert.isEnded).length then l.eraseP Alert.isEnded else l) ++ [.ended s] := by
  unfold appendEnded
  exact congrArg (fun f : Alert → Bool =>
    (if 8 ≤ (l.filter f).length then l.eraseP f else l) ++ [.ended s]) (funext fun a => by cases a <;> rfl)

theorem AlertsFit.appendEnded {keys : List (LineNo × Slot × Condition)} {t : LineNo} {l : List Alert} (s : Text)
    (h : AlertsFit keys t l) : AlertsFit keys t (appendEnded s l) := by
  obtain ⟨hdup, hended, hkeys⟩ := h
  rw [appendEnded_eq]
  refine ⟨?_, ?_, fun i c hm => hkeys i c ?_⟩
  · split <;> simpa [List.filter_append, filter_eraseP_isEnded, show Alert.isEnded (.ended s) = true from rfl] using hdup
  · split
    · simp only [List.filter_append, List.length_append, length_filter_eraseP_isEnded]
      simp only [List.filter_cons, Alert.isEnded, if_true, List.filter_nil, List.length_singleton]
      omega
    · simp only [List.filter_append, List.length_append, List.filter_cons, Alert.isEnded, if_true, List.filter_nil,
        List.length_singleton]
      omega
  · rcases List.mem_append.mp hm with hm | hm
    · split at hm
      · exact List.mem_of_mem_eraseP hm
      · exact hm
    · simp at hm

theorem setWatches_keeps {d : Device} {l : List Watch} (h : WatchesSound d → WatchesSound (d.setWatches l)) :
    Keeps d (d.setWatches l) := ⟨id, h, id, id, id⟩

theorem listAlert_keeps {t : LineNo} {i : Slot} {c : Condition} {d : Device} (h : (findWatch d t i c).isSome = true) :
    Keeps d (listAlert t (.watch i c) d) := by
  refine .ite (fun hnew => ?_) (fun _ => .refl d)
  refine ⟨id, fun hd => ?_, id, id, setDealer_tables t _ id id⟩
  rw [watchesSound_iff] at hd ⊢
  refine ⟨hd.1, hd.2.1, fun k => ?_⟩
  rw [Device.modDealer_eq, Device.dealer_setDealer, Device.watches_setDealer]
  split
  · next hk =>
    subst hk
    obtain ⟨hdup, hended, hkeys⟩ := hd.2.2 k
    refine ⟨?_, by simpa [List.filter_append, Alert.isEnded] using hended, fun j b hm => ?_⟩
    · simp only [List.filter_append, List.filter_cons, Alert.isEnded, Bool.not_false, if_true, List.filter_nil]
      exact hdup.append (List.nodup_singleton _) (by simp [hnew.2])
    · rcases List.mem_append.mp hm with hm | hm
      · exact hkeys j b hm
      · obtain ⟨rfl, rfl⟩ : j = i ∧ b = c := by simpa using hm
        exact (findWatch_isSome_iff d k j b).mp h
  · exact hd.2.2 k

/-! ## Evaluation and withdrawal -/

theorem evaluatedState_any {w : Watch} (last : Nat) (hc : w.cond = .any) (h : w.state = .armed) :
    evaluatedState w last = .armed := by
  simp [evaluatedState, h, hc]

theorem evaluateWatch_keeps (i : Slot) (last : Nat) (t : LineNo) (c : Condition) (d : Device) :
    Keeps d (evaluateWatch i last t c d) := by
  unfold evaluateWatch
  split
  · exact .refl d
  · next w hw =>
    have hkeys : (d.watches.map (fun v => if v = w then { v with state := evaluatedState w last } else v)).map watchKey =
        d.watches.map watchKey := by
      rw [List.map_map]
      refine List.map_congr_left fun v _ => ?_
      simp only [Function.comp_apply]
      split <;> rfl
    have hset := setWatches_keeps (d := d) (WatchesSound.of_keys hkeys (fun hfit v hv => by
      obtain ⟨u, hu, rfl⟩ := List.mem_map.mp hv
      split
      · next he => exact ⟨(hfit u hu).1, fun hc => evaluatedState_any last (he ▸ hc) (he ▸ (hfit u hu).2 hc)⟩
      · exact hfit u hu) (fun _ => .refl _))
    refine .ite (fun _ => hset.trans (listAlert_keeps ?_)) (fun _ => hset)
    rw [findWatch_isSome_iff, Device.watches_setWatches, hkeys, ← findWatch_isSome_iff, hw]
    rfl

theorem evaluateTerminal_keeps (i : Slot) (last : Nat) (t : LineNo) (d : Device) :
    Keeps d (evaluateTerminal i last t d) :=
  .ite (fun _ => (Keeps.forEach (evaluateWatch_keeps i last t) conditionOrder d).trans (roomEvent_keeps t _))
    (fun _ => .refl d)

theorem evaluateWatches_keeps (i : Slot) (last : Price) (d : Device) : Keeps d (evaluateWatches i last d) := by
  unfold evaluateWatches
  split
  · exact .refl d
  · exact .forEach (evaluateTerminal_keeps i _) everyLine d

theorem markPage_keeps (i : Slot) (t : LineNo) (d : Device) : Keeps d (markPage i t d) :=
  .ite (fun _ => .refl d) fun _ => (modDealer_keeps (fun y => by
    obtain ⟨hrest, hmarks⟩ := foldl_setMark (everyPage.filter (fun p => (d.dealer t).entry p == some i)) y
    exact ⟨by rw [hrest]; exact id, hmarks, by rw [hrest]⟩)).trans (roomEvent_keeps t _)

theorem markPages_keeps (i : Slot) (d : Device) : Keeps d (markPages i d) := .forEach (markPage_keeps i) everyLine d

/-- Emptying and marking page entries leaves the rest of the dealer's terminal as it is (R159). -/
theorem foldl_emptyEntry (l : List PageNo) (y : Dealer) :
    let z := l.foldl (fun y p => (y.setEntry p none).setMark p true) y
    z = { y with page := z.page, marks := z.marks } ∧
      (tableWf none y.page = true → tableWf none z.page = true) ∧
      (tableWf false y.marks = true → tableWf false z.marks = true) := by
  induction l generalizing y with
  | nil => exact ⟨rfl, id, id⟩
  | cons p l ih =>
    obtain ⟨hrest, hpage, hmarks⟩ := ih ((y.setEntry p none).setMark p true)
    exact ⟨hrest, fun h => hpage (setEntry_page p none h), fun h => hmarks (setMark_marks p true h)⟩

/-- The watches of terminal t on slot i have gone, and their alerts with them. -/
theorem AlertsFit.delist {ws : List Watch} {t : LineNo} {l : List Alert} (i : Slot)
    (h : AlertsFit (ws.map watchKey) t l) :
    AlertsFit ((ws.filter (fun w => !(w.terminal == t && w.slot == i))).map watchKey) t
      (l.filter (fun a => match a with
        | .watch j _ => decide (j ≠ i)
        | .ended _ => true)) := by
  have hs := h.sublist (List.filter_sublist (l := l) (p := fun a => match a with
    | .watch j _ => decide (j ≠ i)
    | .ended _ => true))
  refine ⟨hs.1, hs.2.1, fun j c hm => ?_⟩
  obtain ⟨w, hw, hkey⟩ := List.mem_map.mp (hs.2.2 j c hm)
  have hj : j ≠ i := by simpa using (List.mem_filter.mp hm).2
  have hslot : w.slot = j := congrArg (·.2.1) hkey
  exact List.mem_map.mpr ⟨w, List.mem_filter.mpr ⟨hw, by simp [hslot, hj]⟩, hkey⟩

theorem AlertsFit.of_other {ws : List Watch} {k t : LineNo} {l : List Alert} {p : Watch → Bool} (hk : k ≠ t)
    (hp : ∀ w, w.terminal ≠ t → p w = true) (h : AlertsFit (ws.map watchKey) k l) :
    AlertsFit ((ws.filter p).map watchKey) k l := by
  refine ⟨h.1, h.2.1, fun j c hm => ?_⟩
  obtain ⟨w, hw, hkey⟩ := List.mem_map.mp (h.2.2 j c hm)
  have hterm : w.terminal = k := congrArg (·.1) hkey
  exact List.mem_map.mpr ⟨w, List.mem_filter.mpr ⟨hw, hp w (hterm ▸ hk)⟩, hkey⟩

theorem delistTerminal_keeps (i : Slot) (symbol : Text) (t : LineNo) (d : Device) :
    Keeps d (delistTerminal i symbol t d) := by
  refine .ite (fun _ => .refl d) (fun _ => Keeps.after (roomEvent_keeps t _) ?_)
  refine ⟨id, WatchesSound.of_filter (p := fun w => !(w.terminal == t && w.slot == i)) rfl (fun k hfit => ?_), id, id,
    setDealer_tables t _ ?_ ?_⟩
  · rw [Device.modDealer_eq, Device.dealer_setDealer]
    split
    · next hk =>
      subst hk
      rw [(foldl_emptyEntry _ _).1]
      simp only [foldl_dropAlert_conditions, Device.dealer_setWatches]
      split
      · exact (hfit.delist i).appendEnded symbol
      · exact hfit.delist i
    · next hk => exact hfit.of_other hk (fun w hw => by simp [hw])
  · refine fun h => (foldl_emptyEntry _ _).2.1 ?_
    split <;> exact h
  · refine fun h => (foldl_emptyEntry _ _).2.2 ?_
    split <;> exact h

/-! ## Terminal lines -/

theorem offerEcho_keeps (t : LineNo) (e : Text) (d : Device) : Keeps d (offerEcho t e d) :=
  .ite (fun hfits => setTerminal_keeps (fun ⟨hq, hi⟩ => by
    simp only [freeRoom, Config.outputCapacity] at hfits
    refine ⟨?_, hi⟩
    simp only [List.length_append]
    omega)) (fun _ => .refl d)

theorem oweRedraw_keeps (t : LineNo) (d : Device) : Keeps d (oweRedraw t d) :=
  (roomEvent_keeps t _).after (modDealer_keeps (fun _ => ⟨id, id, .refl _⟩))

theorem placeReply_keeps (t : LineNo) (reply : Text) (d : Device) : Keeps d (placeReply t reply d) :=
  (roomEvent_keeps t _).after (modTerminal_keeps (fun _ => id))

theorem completeTest_keeps (t : LineNo) (d : Device) : Keeps d (completeTest t d) := by
  unfold completeTest
  split
  · exact .refl d
  · refine Keeps.trans (Keeps.trans (modTerminal_keeps fun _ => ?_) (raise_keeps _ _)) (roomEvent_keeps t _)
    exact id

theorem startTestCharacter_keeps (t : LineNo) (d : Device) : Keeps d (startTestCharacter t d) := by
  unfold startTestCharacter
  dsimp only
  split
  · split
    · exact setTerminal_keeps id
    · exact .refl d
  · exact .refl d

theorem receiveTest_keeps (t : LineNo) (c : Received) (d : Device) : Keeps d (receiveTest t c d) := by
  unfold receiveTest
  split
  · exact .refl d
  · exact .ite (fun _ => (completeTest_keeps t _).after (modTerminal_keeps (fun _ => id)))
      (fun _ => modTerminal_keeps (fun _ => id))

theorem emptyAlerts_keeps (t : LineNo) (d : Device) : Keeps d (emptyAlerts t d) :=
  modDealer_keeps (fun _ => ⟨id, id, List.nil_sublist _⟩)

theorem clearLine_keeps (t : LineNo) (s : TermState) (d : Device) : Keeps d (clearLine t s d) :=
  (emptyAlerts_keeps t _).after
    (modTerminal_keeps (fun _ _ => ⟨by simp [clearedTerminal], by simp [clearedTerminal]⟩))

theorem switchLine_keeps (t : LineNo) (enable : Option Bool) (d : Device) : Keeps d (switchLine t enable d) := by
  unfold switchLine
  split
  · exact .ite (fun _ => (oweRedraw_keeps t _).after (modTerminal_keeps (fun _ => id)))
      (fun _ => modTerminal_keeps (fun _ => id))
  · exact clearLine_keeps t _ d
  · exact clearLine_keeps t _ d
  · exact .refl d

theorem TerminalWork.keeps {w : Device → Device × Answer} (h : TerminalWork w) (d : Device) : Keeps d (w d).1 := by
  cases h with
  | setup f =>
    unfold setupLine
    split
    · exact .refl d
    · exact (switchLine_keeps _ _ _).after (modTerminal_keeps (fun _ => id))
  | text f =>
    unfold hostTextFor
    dsimp only
    split
    · exact .refl d
    · split
      · exact .refl d
      · exact (roomEvent_keeps _ _).after (modTerminal_keeps (fun _ => id))
  | test f =>
    unfold startTest
    dsimp only
    split
    · exact .refl d
    · split
      · exact .refl d
      · split
        · exact .refl d
        · exact (startTestCharacter_keeps _ _).after (setTerminal_keeps id)

/-! ## Dealer commands (R148 to R152) -/

theorem foldl_setEntry (f : PageNo → Option Slot) (l : List PageNo) (y : Dealer) :
    let z := l.foldl (fun y p => y.setEntry p (f p)) y
    z = { y with page := z.page } ∧ (tableWf none y.page = true → tableWf none z.page = true) := by
  induction l generalizing y with
  | nil => exact ⟨rfl, id⟩
  | cons p l ih =>
    obtain ⟨hrest, hpage⟩ := ih (y.setEntry p (f p))
    exact ⟨hrest, fun h => hpage (setEntry_page p _ h)⟩

theorem setPage_kept (l : List Slot) (y : Dealer) : DealerKept y (setPage l y) := by
  obtain ⟨hrest, hpage⟩ := foldl_setEntry (fun p => l[p.val]?) everyPage y
  unfold setPage
  refine ⟨fun h => ?_, fun h => markAll_marks ?_, ?_⟩
  · rw [markAll_eq]
    exact hpage h
  · rw [hrest]
    exact h
  · rw [markAll_eq, hrest]

/-- A watch that is not held yet joins where there is room (R149). -/
theorem WatchesSound.append {d : Device} {t : LineNo} {i : Slot} {c : Condition} {p : Price}
    (hnew : (findWatch d t i c).isSome ≠ true)
    (hroom : ¬(Config.watchesPerTerminal ≤ (watchesOf d t).length ∨ Config.watchPool ≤ d.watches.length))
    (hp : p = none ↔ c = .any) (h : WatchesSound d) :
    WatchesSound (d.setWatches (d.watches ++ [⟨t, i, c, p, .armed⟩])) := by
  simp only [Config.watchesPerTerminal, Config.watchPool] at hroom
  rw [length_watchesOf] at hroom
  rw [watchesSound_iff] at h ⊢
  obtain ⟨⟨hpool, hper, hdup⟩, hfit, halerts⟩ := h
  simp only [Device.watches_setWatches, Device.dealer_setWatches, List.map_append, List.map_singleton]
  refine ⟨⟨?_, fun k => ?_, ?_⟩, fun w hw => ?_, fun k => ?_⟩
  · simp only [List.length_append, List.length_map, List.length_singleton]
    omega
  · rw [List.filter_append, List.length_append]
    by_cases hk : t = k
    · subst hk
      have := List.length_filter_le (fun x => x.1 == t) [watchKey ⟨t, i, c, p, .armed⟩]
      rw [List.length_singleton] at this
      omega
    · simpa [watchKey, hk] using hper k
  · refine hdup.append (List.nodup_singleton _) ?_
    rw [ne_eq, findWatch_isSome_iff] at hnew
    simpa [watchKey] using hnew
  · rcases List.mem_append.mp hw with hw | hw
    · exact hfit w hw
    · rw [List.mem_singleton.mp hw]
      exact ⟨hp, fun _ => rfl⟩
  · exact ⟨(halerts k).1, (halerts k).2.1, fun j b hm => List.mem_append_left _ ((halerts k).2.2 j b hm)⟩

/-- A W line gives a price text exactly where its condition takes one (R149). -/
theorem readWatchLine_price {rest : Text} {sym : Text} {c : Condition} {p : Option Text}
    (h : readWatchLine rest = some (sym, c, p)) : p = none ↔ c = .any := by
  unfold readWatchLine at h
  split at h
  · cases h
  · split at h
    · cases h
    · split at h
      · split at h
        · cases h
          simp
        · cases h
      · split at h
        · cases h
        · next k hne hk =>
          cases h
          simpa using hne
        · cases h

theorem readThreshold_eq_none_iff {p : Option Text} {threshold : Price} (h : readThreshold p = some threshold) :
    threshold = none ↔ p = none := by
  unfold readThreshold at h
  split at h
  · cases h
    simp
  · obtain ⟨q, -, rfl⟩ := Option.map_eq_some_iff.mp h
    simp

theorem watchCommand_keeps (t : LineNo) (rest : Text) (d : Device) : Keeps d (watchCommand t rest d).1 := by
  unfold watchCommand
  split
  · exact .refl d
  · next sym c p hline =>
    split
    · exact .refl d
    · split
      · exact .refl d
      · next threshold hthreshold =>
        split
        · exact .refl d
        · next hnew =>
          split
          · exact .refl d
          · next hroom =>
            exact setWatches_keeps (WatchesSound.append hnew hroom
              ((readThreshold_eq_none_iff hthreshold).trans (readWatchLine_price hline)))

theorem removes_terminal {t : LineNo} {i : Slot} {c : Option Condition} {w : Watch} (h : removes t i c w = true) :
    w.terminal = t := by
  simp only [removes, Bool.and_eq_true, beq_iff_eq] at h
  exact h.1.1

theorem removeCommand_keeps (t : LineNo) (rest : Text) (d : Device) : Keeps d (removeCommand t rest d).1 := by
  unfold removeCommand
  split
  · exact .refl d
  · next sym c _ =>
    split
    · exact .refl d
    · next i _ =>
      dsimp only
      split
      · exact .refl d
      · refine ⟨id, WatchesSound.of_filter (p := fun w => !removes t i c w) rfl (fun k hfit => ?_), id, id,
          setDealer_tables t _ id id⟩
        rw [Device.modDealer_eq, Device.dealer_setDealer]
        split
        · next hk =>
          subst hk
          simp only [foldl_dropAlert_watches, Device.dealer_setWatches]
          have hs := hfit.sublist (List.filter_sublist (l := (d.dealer k).alerts)
            (p := fun a => !(d.watches.filter (removes k i c)).any (fun w => a == .watch w.slot w.cond)))
          refine ⟨hs.1, hs.2.1, fun j b hm => ?_⟩
          obtain ⟨w, hw, hkey⟩ := List.mem_map.mp (hs.2.2 j b hm)
          refine List.mem_map.mpr ⟨w, List.mem_filter.mpr ⟨hw, ?_⟩, hkey⟩
          have hnot := (List.mem_filter.mp hm).2
          by_contra hgone
          have hgone' : removes k i c w = true := by simpa using hgone
          have hsame : Alert.watch j b = .watch w.slot w.cond := by
            cases hkey
            rfl
          rw [Bool.not_eq_true', List.any_eq_false] at hnot
          exact hnot w (List.mem_filter.mpr ⟨hw, hgone'⟩) (by simp [hsame])
        · next hk =>
          refine hfit.of_other hk (fun w hw => ?_)
          rw [Bool.not_eq_true']
          by_contra hgone
          exact hw (removes_terminal (by simpa using hgone))

theorem DealerWork.keeps {t : LineNo} {work : Device → Device × Text} (h : DealerWork t work) (d : Device) :
    Keeps d (work d).1 := by
  cases h with
  | quote rest =>
    unfold quoteCommand
    split <;> exact .refl d
  | watch rest => exact watchCommand_keeps t rest d
  | remove rest => exact removeCommand_keeps t rest d
  | page rest =>
    unfold pageCommand
    split
    · exact modDealer_keeps (setPage_kept _)
    · split
      · exact .refl d
      · split
        · exact .refl d
        · exact modDealer_keeps (setPage_kept _)
  | forward text =>
    unfold forwardCommand
    split
    · exact .refl d
    · split
      · exact .refl d
      · refine Keeps.trans (modDealer_keeps fun _ => ?_) (raise_keeps _ _)
        exact ⟨id, id, .refl _⟩
  | unknown => exact .refl d

/-- A submitted line is read as one of the dealer commands (R147). -/
theorem interpretLine_work (t : LineNo) (line : Text) :
    ∃ work, DealerWork t work ∧ ∀ d, interpretLine t line d = work d := by
  unfold interpretLine
  split
  · exact ⟨_, .unknown, fun _ => rfl⟩
  · split
    · exact ⟨_, .page none, fun _ => rfl⟩
    · exact ⟨_, .unknown, fun _ => rfl⟩
  · split
    · exact ⟨_, .forward _, fun _ => rfl⟩
    split
    · exact ⟨_, .unknown, fun _ => rfl⟩
    split
    · exact ⟨_, .quote _, fun _ => rfl⟩
    split
    · exact ⟨_, .watch _, fun _ => rfl⟩
    split
    · exact ⟨_, .remove _, fun _ => rfl⟩
    split
    · exact ⟨_, .page _, fun _ => rfl⟩
    · exact ⟨_, .unknown, fun _ => rfl⟩

/-! ## Characters received -/

theorem submit_keeps (t : LineNo) (d : Device) : Keeps d (submit t d) := by
  have hempty : Keeps d (offerEcho t crEcho (d.setTerminal t { d.terminal t with input := [], errored := false })) :=
    (offerEcho_keeps t _ _).after (setTerminal_keeps (fun ⟨hq, _⟩ => ⟨hq, Nat.zero_le _⟩))
  refine .ite (fun _ => (offerEcho_keeps t _ d).trans (roomEvent_keeps t _)) fun _ => ?_
  refine .ite (fun _ => hempty.trans (placeReply_keeps t _ _)) fun _ => ?_
  refine .ite (fun _ => hempty.trans (roomEvent_keeps t _)) fun _ => hempty.trans ?_
  obtain ⟨work, hwork, heq⟩ := interpretLine_work t (d.terminal t).input
  unfold answerDealer
  rw [heq]
  exact (hwork.keeps _).trans (placeReply_keeps t _ _)

theorem takeCharacter_keeps (t : LineNo) (c : Byte) (d : Device) : Keeps d (takeCharacter t c d) := by
  have hecho (e : Text) (d1 : Device) : Keeps d1 (roomEvent t (offerEcho t e d1)) :=
    (offerEcho_keeps t e d1).trans (roomEvent_keeps t _)
  refine .ite (fun _ => submit_keeps t d) fun _ => .ite (fun _ => .ite (fun _ => hecho _ d) fun _ => ?_)
    fun _ => .ite (fun _ => .ite (fun hroom => ?_) fun _ => hecho _ d) fun _ => .refl d
  · exact (hecho _ _).after (setTerminal_keeps (fun ⟨hq, hi⟩ => ⟨hq, by simp only [List.length_dropLast]; omega⟩))
  · simp only [Config.inputCapacity] at hroom
    exact (hecho _ _).after
      (setTerminal_keeps (fun ⟨hq, _⟩ => ⟨hq, by simp only [List.length_append, List.length_singleton]; omega⟩))

theorem goodCharacter_keeps (t : LineNo) (src : RxSource) (c : Byte) (d : Device) : Keeps d (goodCharacter t src c d) :=
  .ite (fun _ => .refl d) fun _ => .ite (fun _ => receiveTest_keeps t _ d) fun _ => takeCharacter_keeps t c d

theorem breakTaken_keeps (t : LineNo) (src : RxSource) (d : Device) : Keeps d (breakTaken t src d) := by
  refine .ite (fun _ => .refl d) fun _ => .ite (fun _ => ?_) fun _ => ?_
  · exact (receiveTest_keeps t _ _).after (setTerminal_keeps id)
  · exact (oweRedraw_keeps t _).after (setTerminal_keeps (fun ⟨hq, _⟩ => ⟨hq, Nat.zero_le _⟩))

theorem lineErrorTaken_keeps (t : LineNo) (src : RxSource) (k : RxError) (d : Device) :
    Keeps d (lineErrorTaken t src k d) := by
  refine .ite (fun _ => .refl d) fun _ => .ite (fun _ => receiveTest_keeps t _ d) fun _ => ?_
  exact (roomEvent_keeps t _).after ((offerEcho_keeps t _ _).after (setTerminal_keeps id))

theorem presentRises_keeps (t : LineNo) (d : Device) : Keeps d (presentRises t d) := by
  refine .ite (fun _ => .refl d) fun _ => ?_
  have hredrawn (x : Terminal) (hx : StaysWithin (d.terminal t) x) :
      Keeps d (raiseTerminal t (oweRedraw t (d.setTerminal t x))) :=
    ((setTerminal_keeps hx).trans (oweRedraw_keeps t _)).trans (raise_keeps _ _)
  split
  · exact setTerminal_keeps id
  · exact hredrawn _ id
  · exact hredrawn _ id
  · exact setTerminal_keeps id

theorem presentFalls_keeps (t : LineNo) (d : Device) : Keeps d (presentFalls t d) := by
  refine .ite (fun _ => .refl d) fun _ => ?_
  have hcleared (x : Terminal) (hx : StaysWithin (d.terminal t) x) :
      Keeps d (raiseTerminal t (clearLine t .absent (d.setTerminal t x))) :=
    ((setTerminal_keeps hx).trans (clearLine_keeps t _ _)).trans (raise_keeps _ _)
  split
  · exact setTerminal_keeps id
  · exact setTerminal_keeps id
  · exact hcleared _ id
  · exact hcleared _ id

theorem testCharacterSent_keeps (t : LineNo) (d : Device) : Keeps d (testCharacterSent t d) := by
  unfold testCharacterSent
  split
  · exact .refl d
  · exact .ite (fun _ => startTestCharacter_keeps t d)
      (fun _ => .ite (fun _ => .refl d) (fun _ => modTerminal_keeps (fun _ => id)))

theorem characterSent_keeps (t : LineNo) (d : Device) : Keeps d (characterSent t d) := by
  have hafter (e : Device) : Keeps e (afterCharacter t e) := by
    unfold afterCharacter
    split
    · exact roomEvent_keeps t e
    · exact testCharacterSent_keeps t e
    · exact .refl e
    · exact .refl e
  exact .ite (fun _ => .refl d) fun _ => (hafter _).after (setTerminal_keeps id)

theorem TerminalEvent.keeps {f : Device → Device} (h : TerminalEvent f) (d : Device) : Keeps d (f d) := by
  cases h with
  | character t src c => exact goodCharacter_keeps t src c d
  | breakTaken t src => exact breakTaken_keeps t src d
  | lineError t src k => exact lineErrorTaken_keeps t src k d
  | rise t => exact presentRises_keeps t d
  | fall t => exact presentFalls_keeps t d
  | sent t => exact characterSent_keeps t d
  | wait t =>
    unfold waitExpired
    split
    · exact .ite (fun _ => completeTest_keeps t d) (fun _ => .refl d)
    · exact .refl d
  | mark t => exact .ite (fun _ => setTerminal_keeps id) (fun _ => .refl d)
  | dealer t line hwork =>
    exact .ite (fun _ => (hwork.keeps d).trans (placeReply_keeps t _ _)) (fun _ => .refl d)

/-! ## The quotation store -/

theorem endReservationOn_keeps (i : Slot) (d : Device) : Keeps d (endReservationOn i d) :=
  .ite (fun _ => setChannel_keeps d _) (fun _ => .refl d)

theorem writeRecord_keeps {i : Slot} {x : Record} {d : Device} (h : RecordSound (d.slot i) → RecordSound x) :
    Keeps d (writeRecord i x d) :=
  (endReservationOn_keeps i _).after (setSlot_keeps h)

/-- A trade's price moves high and low so that they enclose it (R2, R12). -/
theorem tradedRecord_sound {t : TradeItem} {x : Record} (h : RecordSound x) : RecordSound (tradedRecord t x) := by
  obtain ⟨hprices, -, -⟩ := h
  have hvolume (n : Nat) : min n Config.maxVolume ≤ 999999999 := Nat.min_le_right _ _
  have hcount (n : Nat) : min n Config.maxTradeCount ≤ 65535 := Nat.min_le_right _ _
  unfold tradedRecord
  by_cases hlate : t.late = true
  · simp only [hlate, if_true]
    exact ⟨hprices, hvolume _, hcount _⟩
  · simp only [hlate, Bool.false_eq_true, if_false]
    refine ⟨.inr ⟨_, _, _, rfl, rfl, rfl, ?_, ?_⟩, hvolume _, hcount _⟩
    · cases x.low <;> simp
    · cases x.high <;> simp

theorem tradeHandOffs_keeps (t : TradeItem) (d : Device) : Keeps d (tradeHandOffs t d) := by
  unfold tradeHandOffs
  extract_lets d1 d2
  have hprint : Keeps d d1 := .ite (fun _ => offer_keeps _ d) (fun _ => .refl d)
  have hmarked : Keeps d d2 := hprint.trans ((markRows_keeps _ _).trans (markPages_keeps _ _))
  exact .ite (fun _ => hmarked) (fun _ => hmarked.trans (evaluateWatches_keeps _ _ _))

theorem applyTrade_keeps (t : TradeItem) (d : Device) : Keeps d (applyTrade t d) :=
  (tradeHandOffs_keeps t _).after (writeRecord_keeps tradedRecord_sound)

theorem applyItems_keeps (l : List TradeItem) (n : Nat) (d : Device) : Keeps d (applyItems l n d).1 := by
  induction l generalizing n d with
  | nil => exact .refl d
  | cons t l ih =>
    unfold applyItems
    split
    · exact .refl d
    · exact (applyTrade_keeps t d).trans (ih _ _)

/-- The check of R23 on an amended record is the condition of R2. -/
theorem recordOk_iff (x : Record) : recordOk x = true ↔
    ((x.last = none ∧ x.high = none ∧ x.low = none) ∨
      ∃ p h l, x.last = some p ∧ x.high = some h ∧ x.low = some l ∧ l ≤ p ∧ p ≤ h) ∧ x.volume ≤ 999999999 := by
  unfold recordOk
  rw [Bool.and_eq_true, decide_eq_true_iff]
  refine and_congr ?_ .rfl
  cases x.last <;> cases x.high <;> cases x.low <;> simp

theorem amendHandOffs_keeps (f : AmendFields) (before after : Record) (d : Device) :
    Keeps d (amendHandOffs f before after d) := by
  unfold amendHandOffs
  extract_lets d1 d2
  have h1 : Keeps d d1 := by
    unfold d1
    split
    · exact offer_keeps _ d
    · exact .refl d
  have h2 : Keeps d d2 := h1.trans ((markRows_keeps _ _).trans (markPages_keeps _ _))
  exact .ite (fun _ => h2.trans (evaluateWatches_keeps _ _ _)) (fun _ => h2)

theorem amendSlot_keeps (f : AmendFields) (d : Device) : Keeps d (amendSlot f d).1 := by
  unfold amendSlot
  dsimp only
  split
  · exact setChannel_keeps d _
  · split
    · exact setChannel_keeps d _
    · next hok =>
      refine (setChannel_keeps d _).trans ((writeRecord_keeps (fun hx => ?_)).trans (amendHandOffs_keeps f _ _ _))
      obtain ⟨hprices, hvolume⟩ := (recordOk_iff _).mp (Bool.not_eq_false _ ▸ hok)
      exact ⟨hprices, hvolume, hx.2.2⟩

theorem rollSlot_keeps (i : Slot) (d : Device) : Keeps d (rollSlot i d) :=
  (writeRecord_keeps (fun _ => by simp [RecordSound, rolledRecord])).trans
    ((markRows_keeps _ _).trans (markPages_keeps i _))

theorem rearmWatches_keeps (d : Device) : Keeps d (rearmWatches d) := by
  refine setWatches_keeps (WatchesSound.of_keys ?_ (fun hfit w hw => ?_) (fun _ => .refl _))
  · rw [Device.watches_setWatches, List.map_map]
    rfl
  · obtain ⟨v, hv, rfl⟩ := List.mem_map.mp hw
    exact ⟨(hfit v hv).1, fun _ => rfl⟩

theorem unbindAndMark_keeps (r : RowNo) (d : Device) : Keeps d (unbindAndMark r d) :=
  (modRow_keeps d r _).trans (markRow_keeps r _)

theorem delistWatches_keeps (i : Slot) (symbol : Text) (d : Device) : Keeps d (delistWatches i symbol d) :=
  .forEach (delistTerminal_keeps i symbol) everyLine d

theorem delistSlot_keeps (i : Slot) (d : Device) : Keeps d (delistSlot i d).1 := by
  unfold delistSlot
  extract_lets x named d1 d2 d3
  have hunlisted : Keeps d d2 := Keeps.trans (b := d1) (setDirectory_keeps d _) (writeRecord_keeps (fun h => h))
  have hgone : Keeps d d3 :=
    hunlisted.trans ((Keeps.forEach unbindAndMark_keeps _ _).trans (delistWatches_keeps i _ _))
  clear_value d3
  split
  · exact .refl d
  · split
    · exact hgone
    · exact hgone.trans (freeSlot_keeps i _)

theorem fetchSlot_keeps (i : Slot) (reserve : Bool) (d : Device) : Keeps d (fetchSlot i reserve d).1 := by
  unfold fetchSlot
  split
  · exact .refl d
  · exact .ite (fun _ => setChannel_keeps d _) (fun _ => .refl d)

theorem MarketWork.keeps {w : Device → Device × Answer} (h : MarketWork w) (d : Device) : Keeps d (w d).1 := by
  cases h with
  | list f =>
    unfold listInstrument
    split
    · exact .refl d
    · split
      · exact .refl d
      · exact (setSlot_keeps (fun _ => by simp [RecordSound, listedRecord, Record.free])).trans (setDirectory_keeps _ _)
  | delist i => exact delistSlot_keeps i d
  | trade t =>
    unfold tradeOne
    split
    · exact .refl d
    · exact applyTrade_keeps t d
  | block l => exact applyItems_keeps l 0 d
  | quote f =>
    unfold quoteSlot
    dsimp only
    split
    · exact .refl d
    · dsimp only
      exact (markPages_keeps _ _).after ((markRows_keeps _ _).after (writeRecord_keeps (fun h => h)))
  | setState f =>
    unfold Machine.setState
    dsimp only
    split
    · exact .refl d
    · dsimp only
      exact (markPages_keeps _ _).after ((markRows_keeps _ _).after
        ((offer_keeps _ _).after (writeRecord_keeps (fun h => h))))
  | fetch f =>
    unfold fetchTarget
    split
    · exact fetchSlot_keeps _ _ d
    · split
      · exact fetchSlot_keeps _ _ d
      · exact .refl d
  | amend f => exact amendSlot_keeps f d
  | amendRefused a => exact setChannel_keeps d _
  | dayRoll =>
    exact (setChannel_keeps d _).trans ((Keeps.forEach rollSlot_keeps _ _).trans (rearmWatches_keeps _))

/-! ## The board requests -/

theorem switchOffRow_keeps (r : RowNo) (d : Device) : Keeps d (switchOffRow r d) :=
  .ite (fun _ => .refl d) (fun _ => enterDown_keeps r _ d)

theorem activateSegment_keeps (g : SegNo) (d : Device) : Keeps d (activateSegment g d) := by
  unfold activateSegment
  exact (Keeps.forEach (fun r e => modRow_keeps e r _) _ _).after ((setLine_keeps _ g _).after (modSegment_keeps d g _))

theorem disableSegment_keeps (g : SegNo) (d : Device) : Keeps d (disableSegment g d) := by
  unfold disableSegment
  exact (modSegment_keeps _ g _).after ((Keeps.forEach switchOffRow_keeps _ _).after
    ((setLine_keeps _ g _).after (modSegment_keeps d g _)))

theorem changeSegment_keeps (g : SegNo) (enable : Option Bool) (d : Device) : Keeps d (changeSegment g enable d) := by
  unfold changeSegment
  split
  · exact activateSegment_keeps g d
  · exact disableSegment_keeps g d
  · exact disableSegment_keeps g d
  · exact .refl d

theorem removeBinding_keeps (r : RowNo) (d : Device) : Keeps d (removeBinding r d) := by
  unfold removeBinding
  split
  · exact modSlot_keeps (fun _ => id)
  · exact .refl d

theorem bindRow_keeps (f : RowNo × Slot × LayoutNo) (d : Device) : Keeps d (bindRow f d).1 := by
  unfold bindRow
  dsimp only
  split
  · exact .refl d
  · split
    · exact .refl d
    · have hbound : Keeps d ((removeBinding f.1 d).modSlot f.2.1 (fun x => { x with boundRows := x.boundRows ++ [f.1] })) :=
        (removeBinding_keeps f.1 d).trans (modSlot_keeps (f := fun x => { x with boundRows := x.boundRows ++ [f.1] }) (fun _ => id))
      exact (Keeps.ite (fun _ => .refl d) (fun _ => hbound)).trans ((modRow_keeps _ _ _).trans (markRow_keeps _ _))

theorem setupRow_keeps (f : RowNo × Option RowUnit) (d : Device) : Keeps d (setupRow f d).1 := by
  unfold setupRow
  dsimp only
  split
  · exact .refl d
  · split
    · exact .refl d
    · split
      · exact .refl d
      · have hdown (c : Cause) : Keeps d (if (d.row f.1).display = .down then d else enterDown f.1 c d) :=
          .ite (fun _ => .refl d) (fun _ => enterDown_keeps _ _ d)
        dsimp only
        exact (hdown _).trans (modRow_keeps _ _ _)

theorem BoardWork.keeps {w : Device → Device × Answer} (h : BoardWork w) (d : Device) : Keeps d (w d).1 := by
  cases h with
  | segmentSetup f =>
    unfold setupSegment
    split
    · exact .refl d
    · exact (modSegment_keeps d _ _).trans (changeSegment_keeps _ _ _)
  | layout f => exact (setLayout_keeps d _ _).trans (markRows_keeps _ _)
  | bind f => exact bindRow_keeps f d
  | unbind r => exact (removeBinding_keeps r d).trans (unbindAndMark_keeps r _)
  | rowClear r =>
    unfold clearRow
    split
    · exact .refl d
    · exact (modRow_keeps d r _).trans (enqueueRow_keeps r _)
  | rowSetup f => exact setupRow_keeps f d
  | exercise f =>
    unfold startExercise
    split
    · exact .refl d
    · exact .refl d
    · exact (modSegment_keeps d _ _).trans (exerciseCheck_keeps _ _)

/-! ## The channel's own requests and the reset input -/

theorem setOwed_keeps (d : Device) : Keeps d (setOwed d) := .forEach (fun r e => modRow_keeps e r _) everyRow d

theorem openSettle_keeps (d : Device) : Keeps d (openSettle d) :=
  .ite (fun _ => settleCheck_keeps d) (fun _ => modSettle_keeps d _)

theorem settleNow_keeps (d : Device) : Keeps d (settleNow () d).1 := by
  unfold settleNow
  split
  · exact .refl d
  · exact (openSettle_keeps _).after ((modSettle_keeps _ _).after (setOwed_keeps d))

theorem collectNotice_keeps (d : Device) : Keeps d (collectNotice () d).1 := by
  unfold collectNotice
  split
  · exact .refl d
  · exact clearNotice_keeps d _

theorem restartStore_keeps (d : Device) : Keeps d (restartStore d) :=
  .forEach (fun _ _ => setSlot_keeps (fun _ => recordSound_free)) _ d

theorem restartTape_keeps (d : Device) : Keeps d (restartTape d) :=
  (setTape_keeps d _).trans (.forEach (fun r e => modRibbon_keeps e r _) everyRibbon _)

theorem restartSegment_keeps (g : SegNo) (d : Device) : Keeps d (restartSegment g d) :=
  (modSegment_keeps d g _).trans (setLine_keeps _ g _)

theorem restartRow_keeps (r : RowNo) (d : Device) : Keeps d (restartRow r d) :=
  .ite (fun _ => modRow_keeps d r _) (fun _ => modRow_keeps d r _)

theorem restartTerminal_keeps (t : LineNo) (d : Device) : Keeps d (restartTerminal t d) := by
  have hcleared : Keeps d ((d.modTerminal t restartedTerminal).modDealer t (fun y => { y with alerts := [], forward := [] })) :=
    Keeps.after (modDealer_keeps (fun _ => ⟨id, id, List.nil_sublist _⟩))
      (modTerminal_keeps (fun _ _ => ⟨by simp [restartedTerminal, clearedTerminal],
        by simp [restartedTerminal, clearedTerminal]⟩))
  exact .ite (fun _ => hcleared.trans (oweRedraw_keeps t _)) (fun _ => hcleared)

theorem restartAll_keeps (d : Device) : Keeps d (restartAll d) := by
  have hboard (e : Device) : Keeps e (forEach everyRow restartRow (forEach everySegment restartSegment e)) :=
    (Keeps.forEach restartRow_keeps everyRow _).after (.forEach restartSegment_keeps everySegment e)
  have hlines (e : Device) : Keeps e (forEach everyLine restartTerminal e) := .forEach restartTerminal_keeps everyLine e
  have hchannel (e : Device) : Keeps e ((restartChannel e).setNotices []) :=
    Keeps.trans (b := restartChannel e) (setChannel_keeps e _) ⟨id, id, id, fun _ => List.Pairwise.nil, id⟩
  exact (hchannel _).after ((hlines _).after ((hboard _).after ((restartTape_keeps _).after (restartStore_keeps d))))

theorem powerOn_conditions : RecordsSound Device.powerOn ∧ WatchesSound Device.powerOn ∧ ScreensSound Device.powerOn ∧
    NoticesSound Device.powerOn ∧ TablesSound Device.powerOn := by
  refine ⟨fun _ => recordSound_free, ?_, fun _ => ⟨Nat.zero_le _, Nat.zero_le _⟩, List.Pairwise.nil,
    rfl, rfl, rfl, rfl, rfl, rfl, rfl, rfl, fun _ => ⟨rfl, rfl⟩⟩
  rw [watchesSound_iff]
  exact ⟨⟨Nat.zero_le _, fun _ => Nat.zero_le _, List.nodup_nil⟩, fun _ h => absurd h List.not_mem_nil,
    fun _ => ⟨List.nodup_nil, Nat.zero_le _, fun _ _ h => absurd h List.not_mem_nil⟩⟩

theorem powerOnAgain_keeps (d : Device) : Keeps d (powerOnAgain d) := by
  obtain ⟨hrecords, hwatches, hscreens, hnotices, htables⟩ := powerOn_conditions
  have h : Keeps Device.powerOn (powerOnAgain d) := by
    unfold powerOnAgain
    exact Keeps.forEach (f := fun t e => e.modTerminal t (fun x => { x with present := (d.terminal t).present }))
      (fun _ _ => modTerminal_keeps (fun _ h => h)) everyLine _
  exact ⟨fun _ => h.records hrecords, fun _ => h.watches hwatches, fun _ => h.screens hscreens,
    fun _ => h.notices hnotices, fun _ => h.tables htables⟩

/-! ## Every step -/

theorem keeps_stepLaw : StepLaw Keeps where
  refl := .refl
  link hab hbc hcd := (hab.keeps.trans hbc).trans hcd.keeps
  reset := powerOnAgain_keeps
  raises := foldl_raise_keeps
  forwarded _ _ := modDealer_keeps (fun _ => ⟨id, id, .refl _⟩)
  pacing := pacing_keeps
  board := BoardEvent.keeps
  terminal := TerminalEvent.keeps
  marketWork := MarketWork.keeps
  ribbonWork := RibbonWork.keeps
  boardWork := BoardWork.keeps
  terminalWork := TerminalWork.keeps
  collect := collectNotice_keeps
  settle := settleNow_keeps
  restart := restartAll_keeps

/-- Settles O19: no operation writes a record that breaks R2 over one that meets it. -/
theorem everyStepKeepsRecordsSound : Obligations.EveryStepKeepsRecordsSound :=
  fun _ _ h => (keeps_stepLaw.step h).records

/-- Settles O56: each of the four conditions is one of those that every operation keeps. -/
theorem everyStepKeepsWatchesAndScreensSound : Obligations.EveryStepKeepsWatchesAndScreensSound := fun _ _ h =>
  have hkeeps := keeps_stepLaw.step h
  ⟨hkeeps.watches, hkeeps.screens, hkeeps.notices, hkeeps.tables⟩

end Sys2Proof.Machine
end


section
/-! PROOFS. The parts that the events and the requests of each block can reach. -/

namespace Sys2Proof.Machine

/-! ## What a part left alone reads as -/

section
variable {l : List Part} {a b : Device} (h : ChangesOnly l a b)
include h

theorem ChangesOnly.ribbon_eq (hl : Part.ribbons ∉ l) (r : RibbonNo) : b.ribbon r = a.ribbon r :=
  congrArg (tableGet Ribbon.powerOn · r) (h .ribbons hl)
theorem ChangesOnly.segment_eq (hl : Part.segments ∉ l) (g : SegNo) : b.segment g = a.segment g :=
  congrArg (tableGet Segment.powerOn · g) (h .segments hl)
theorem ChangesOnly.line_eq (hl : Part.lines ∉ l) (g : SegNo) : b.line g = a.line g :=
  congrArg (tableGet BoardLine.powerOn · g) (h .lines hl)
theorem ChangesOnly.layout_eq (hl : Part.layouts ∉ l) (k : LayoutNo) : b.layout k = a.layout k :=
  congrArg (tableGet [] · k) (h .layouts hl)
theorem ChangesOnly.row_eq (hl : Part.rows ∉ l) (r : RowNo) : b.row r = a.row r :=
  congrArg (tableGet Row.powerOn · r) (h .rows hl)
theorem ChangesOnly.terminal_eq (hl : Part.terminals ∉ l) (t : LineNo) : b.terminal t = a.terminal t :=
  congrArg (tableGet Terminal.powerOn · t) (h .terminals hl)
theorem ChangesOnly.dealer_eq (hl : Part.dealers ∉ l) (t : LineNo) : b.dealer t = a.dealer t :=
  congrArg (tableGet Dealer.powerOn · t) (h .dealers hl)

end

/-! ## Board lines and rows -/

/-- The parts that an event of a board line or of a row reaches. -/
abbrev boardParts : List Part := [.lines, .rows, .segments, .settle, .notices]

theorem takeUse_changes {l : List Part} (use : LineUse) (g : SegNo) {work : RowNo → Device → Device}
    (h : ∀ r d, ChangesOnly l d (work r d)) (d : Device) : ChangesOnly l d (takeUse use g work d) := by
  unfold takeUse
  split
  · exact .ite (h _ d) (.refl _ d)
  · exact .refl _ d

theorem startRepaint_changes (g : SegNo) (r : RowNo) (d : Device) : ChangesOnly boardParts d (startRepaint g r d) :=
  ((modSegment_changes d g _).andThen (setRow_changes _ r _) (n := boardParts) (by simp) (by simp)).andThen
    (sendFrame_changes g _ r _ _) (by simp) (by simp)

theorem startCompletionPoll_changes (g : SegNo) (r : RowNo) (d : Device) :
    ChangesOnly [.lines, .rows] d (startCompletionPoll g r d) :=
  ((modLine_changes d g _).andThen (modRow_changes _ r _) (n := [.lines, .rows]) (by simp) (by simp)).andThen
    (sendFrame_changes g _ r _ _) (by simp) (by simp)

theorem startReadinessPoll_changes (g : SegNo) (r : RowNo) (d : Device) :
    ChangesOnly [.lines] d (startReadinessPoll g r d) :=
  (modLine_changes d g _).trans (sendFrame_changes g _ r _ _)

theorem startPattern_changes (g : SegNo) (r : RowNo) (d : Device) : ChangesOnly boardParts d (startPattern g r d) :=
  ((modRow_changes d r _).andThen (setStep_changes r _ g _) (n := boardParts) (by simp) (by simp)).andThen
    (sendFrame_changes g _ r _ _) (by simp) (by simp)

theorem frameSent_changes (g : SegNo) (d : Device) : ChangesOnly [.lines] d (frameSent g d) := by
  unfold frameSent
  dsimp only
  split
  · exact .ite (.refl _ d) (setLine_changes d g _)
  · exact .refl _ d

theorem badAnswerNow_changes (g : SegNo) (d : Device) : ChangesOnly boardParts d (badAnswerNow g d) := by
  unfold badAnswerNow
  split
  · exact badAnswerTo_changes g _ d
  · exact .refl _ d

theorem takeAnswer_changes (g : SegNo) (kind addr : Byte) (body : List Byte) (sum : Byte) (spoiled : Bool)
    {act : Frame → Device → Device} (h : ∀ f d, ChangesOnly boardParts d (act f d)) (d : Device) :
    ChangesOnly boardParts d (takeAnswer g kind addr body sum spoiled act d) := by
  unfold takeAnswer
  split
  · exact .refl _ d
  · have hheard (f : Frame) : ChangesOnly boardParts d (heard g f (endExchange g d)) :=
      (endExchange_changes g d).andThen (heard_changes g f _) (by simp) (by simp)
    exact .ite ((hheard _).trans (h _ _)) (badAnswerTo_changes g _ d)

theorem accepted_changes (g : SegNo) (f : Frame) (d : Device) : ChangesOnly boardParts d (accepted g f d) := by
  unfold accepted
  split
  · split
    · exact (modRow_changes d _ _).andThen (startMotion_changes _ g _ _) (by simp) (by simp)
    · exact .refl _ d
  · split
    · exact (setStep_changes _ _ g d).andThen (startMotion_changes _ g _ _) (by simp) (by simp)
    · exact .refl _ d
  · exact (modRow_changes d _ _).mono (by simp)
  · exact .refl _ d

theorem completionAnswer_changes (g : SegNo) (r : RowNo) (ready moving : Bool) (d : Device) :
    ChangesOnly boardParts d (completionAnswer g r ready moving d) :=
  .ite (.refl _ d) <| .ite ((enterDown_changes r _ d).mono (by simp)) <|
    .ite ((modRow_changes d r _).mono (by simp)) <| .ite ((completeRepaint_changes r g d).mono (by simp)) <|
      (modRow_changes d r _).andThen (setStep_changes r _ g _) (by simp) (by simp)

theorem readinessAnswer_changes (r : RowNo) (ready : Bool) (d : Device) :
    ChangesOnly boardParts d (readinessAnswer r ready d) := by
  have hdown : ChangesOnly boardParts d (enterDown r .notReady d) := (enterDown_changes r _ d).mono (by simp)
  have hjoin : ChangesOnly boardParts d
      ((enqueueRow r (d.modRow r (fun x => { x with shown := none, shownSlot := none }))).raise (.row r)) :=
    ((modRow_changes d r _).andThen (enqueueRow_changes r _) (n := boardParts) (by simp) (by simp)).andThen
      (raise_changes _ _) (by simp) (by simp)
  unfold readinessAnswer
  split
  · exact .ite (.refl _ d) hdown
  · exact .ite (.refl _ d) hdown
  · exact .ite (.refl _ d) (.ite hjoin ((modRow_changes d r _).mono (by simp)))
  · exact .refl _ d
  · exact .refl _ d
  · exact .refl _ d

theorem polled_changes (g : SegNo) (state : Byte) (f : Frame) (d : Device) :
    ChangesOnly boardParts d (polled g state f d) := by
  unfold polled
  split
  · exact .refl _ d
  · split
    · exact completionAnswer_changes g _ _ _ d
    · exact readinessAnswer_changes _ _ d
    · exact .refl _ d

theorem echoed_changes (g : SegNo) (sensed : List Byte) (f : Frame) (d : Device) :
    ChangesOnly boardParts d (echoed g sensed f d) := by
  refine .ite (.ite ?_ ((enterFaulted_changes _ _ _ d).mono (by simp))) (.refl _ d)
  exact ((modRow_changes d _ _).andThen (setStep_changes _ _ g _) (n := boardParts) (by simp) (by simp)).andThen
    (exerciseCheck_changes g _) (by simp) (by simp)

theorem stallExpired_changes (r : RowNo) (d : Device) : ChangesOnly boardParts d (stallExpired r d) := by
  have hfault (c : Cause) (cell : Nat) : ChangesOnly boardParts d (enterFaulted r c cell d) :=
    (enterFaulted_changes r c cell d).mono (by simp)
  unfold stallExpired
  dsimp only
  split
  · split
    · exact .refl _ d
    · exact .ite (hfault _ _) (.ite (hfault _ _) (.refl _ d))
  · exact .refl _ d

theorem holdExpired_changes (r : RowNo) (d : Device) : ChangesOnly [.rows] d (holdExpired r d) :=
  .ite (setRow_changes d r _) (.refl _ d)

theorem pollWaitExpired_changes (r : RowNo) (d : Device) : ChangesOnly [.rows] d (pollWaitExpired r d) := by
  unfold pollWaitExpired
  split
  · exact modRow_changes d r _
  · exact .refl _ d

theorem BoardEvent.changes {f : Device → Device} (h : BoardEvent f) (d : Device) : ChangesOnly boardParts d (f d) := by
  cases h with
  | repaint g => exact takeUse_changes _ g (startRepaint_changes g) d
  | lampChange g => exact (takeUse_changes _ g (fun r e => sendFrame_changes g _ r _ e) d).mono (by simp)
  | completionPoll g => exact (takeUse_changes _ g (startCompletionPoll_changes g) d).mono (by simp)
  | readinessPoll g => exact (takeUse_changes _ g (startReadinessPoll_changes g) d).mono (by simp)
  | echoRequest g => exact (takeUse_changes _ g (fun r e => sendFrame_changes g _ r _ e) d).mono (by simp)
  | pattern g => exact takeUse_changes _ g (startPattern_changes g) d
  | frameSent g => exact (frameSent_changes g d).mono (by simp)
  | ack g addr sum spoiled => exact takeAnswer_changes g _ _ _ _ _ (accepted_changes g) d
  | nak g addr sum spoiled => exact takeAnswer_changes g _ _ _ _ _ (fun _ e => .refl _ e) d
  | status g addr state sum spoiled => exact takeAnswer_changes g _ _ _ _ _ (polled_changes g state) d
  | echo g addr sensed sum spoiled => exact takeAnswer_changes g _ _ _ _ _ (echoed_changes g sensed) d
  | badAnswer g => exact badAnswerNow_changes g d
  | stall r => exact stallExpired_changes r d
  | hold r => exact (holdExpired_changes r d).mono (by simp)
  | pollWait r => exact (pollWaitExpired_changes r d).mono (by simp)

/-! ## The tape and the ribbons -/

/-- The parts that a pacing event and a request to a ribbon reach. -/
abbrev ribbonParts : List Part := [.tape, .slots, .ribbons, .settle, .notices]

theorem endDrain_changes (r : RibbonNo) (d : Device) : ChangesOnly ribbonParts d (endDrain r d) :=
  (stopRibbon_changes r d).andThen (raise_changes _ _) (by simp) (by simp)

theorem beginEntry_changes (r : RibbonNo) (y : Entry) (d : Device) :
    ChangesOnly [.ribbons, .notices] d (beginEntry r y d) :=
  ((modRibbon_changes d r _).andThen (evaluateDelay_changes r _) (n := [.ribbons, .notices]) (by simp) (by simp)).andThen
    (setRibbon_changes _ r _) (by simp) (by simp)

theorem finishEntry_changes (r : RibbonNo) (id : Nat) (d : Device) : ChangesOnly ribbonParts d (finishEntry r id d) := by
  have hleft : ChangesOnly ribbonParts d (sweepTape (leavePending r id ((d.modRibbon r (fun x =>
      { x with current := none, phase := .separator, pos := 0, text := [] })).reportReached r id))) :=
    ((((modRibbon_changes d r _).mono (by simp)).trans ((reportReached_changes _ r id).mono (by simp))).trans
      ((leavePending_changes r id _).mono (by simp))).trans ((sweepTape_changes _).mono (by simp))
  exact .ite (hleft.trans (endDrain_changes r _)) hleft

theorem shift_modRibbon_changes (r : RibbonNo) (c : Byte) (f : Ribbon → Ribbon) (d : Device) :
    ChangesOnly [.ribbons] d ((shift r c d).modRibbon r f) := (modRibbon_changes d r _).trans (modRibbon_changes _ r _)

theorem textCharacter_changes (r : RibbonNo) (d : Device) : ChangesOnly ribbonParts d (textCharacter r d) := by
  refine .ite ((shift_modRibbon_changes r _ _ d).mono (by simp)) ?_
  split
  · exact (modRibbon_changes d r _).andThen (finishEntry_changes r _ _) (by simp) (by simp)
  · exact (shift_modRibbon_changes r _ _ d).mono (by simp)

theorem markerCharacter_changes (r : RibbonNo) (d : Device) : ChangesOnly [.ribbons] d (markerCharacter r d) :=
  .ite (shift_modRibbon_changes r _ _ d) (shift_modRibbon_changes r _ _ d)

theorem separatorCharacter_changes (r : RibbonNo) (d : Device) : ChangesOnly [.ribbons] d (separatorCharacter r d) :=
  .ite (shift_modRibbon_changes r _ _ d) (shift_modRibbon_changes r _ _ d)

theorem idleCharacter_changes (r : RibbonNo) (d : Device) : ChangesOnly ribbonParts d (idleCharacter r d) := by
  unfold idleCharacter
  split
  · exact (modRibbon_changes d r _).mono (by simp)
  · have hbegun (y : Entry) : ChangesOnly ribbonParts d (beginEntry r y d) := (beginEntry_changes r y d).mono (by simp)
    exact .ite ((hbegun _).trans ((markerCharacter_changes r _).mono (by simp)))
      ((hbegun _).trans (textCharacter_changes r _))

theorem characterWork_changes (r : RibbonNo) (d : Device) : ChangesOnly ribbonParts d (characterWork r d) := by
  refine .ite ((modRibbon_changes d r _).mono (by simp)) ?_
  split
  · exact idleCharacter_changes r d
  · exact (markerCharacter_changes r d).mono (by simp)
  · exact textCharacter_changes r d
  · exact (separatorCharacter_changes r d).mono (by simp)

theorem pacing_changes (r : RibbonNo) (d : Device) : ChangesOnly ribbonParts d (pacing r d) :=
  .ite (.ite (((setRibbon_changes d r _).mono (by simp)).trans (characterWork_changes r _))
    ((setRibbon_changes d r _).mono (by simp))) (.refl _ d)

theorem stopDrain_changes (r : RibbonNo) (d : Device) : ChangesOnly ribbonParts d (stopDrain r d).1 := by
  unfold stopDrain
  dsimp only
  split
  · exact .refl _ d
  · exact .refl _ d
  · exact endDrain_changes r d
  · split
    · exact endDrain_changes r d
    · exact (setRibbon_changes d r _).mono (by simp)

theorem stopImmediate_changes (r : RibbonNo) (d : Device) : ChangesOnly ribbonParts d (stopImmediate r d).1 := by
  unfold stopImmediate
  split
  · exact .refl _ d
  · exact stopRibbon_changes r d

theorem RibbonWork.changes {w : Device → Device × Answer} (h : RibbonWork w) (d : Device) :
    ChangesOnly ribbonParts d (w d).1 := by
  cases h with
  | bulletin f => exact (offer_changes _ d).mono (by simp)
  | setup f =>
    unfold setupRibbon
    dsimp only
    split
    · exact .refl _ d
    · exact (setRibbon_changes d _ _).mono (by simp)
  | start r =>
    unfold startRibbon
    dsimp only
    split
    · exact .refl _ d
    · exact (setRibbon_changes d _ _).mono (by simp)
  | stop f =>
    unfold stopByMode
    split
    · exact stopImmediate_changes _ d
    · exact stopDrain_changes _ d
  | align g => exact (ChangesOnly.forEach (fun r e => modRibbon_changes e r _) _ d).mono (by simp)

/-! ## Terminal lines and dealers -/

/-- The parts that an event of a terminal line, and a dealer command it carries, reach. -/
abbrev terminalParts : List Part := [.terminals, .dealers, .watches, .notices]

theorem modTerminal_roomEvent_changes (t : LineNo) (f : Terminal → Terminal) (d : Device) :
    ChangesOnly terminalParts d (roomEvent t (d.modTerminal t f)) :=
  (modTerminal_changes d t _).andThen (roomEvent_changes t _) (by simp) (by simp)

theorem startTestCharacter_changes (t : LineNo) (d : Device) : ChangesOnly [.terminals] d (startTestCharacter t d) := by
  unfold startTestCharacter
  dsimp only
  split
  · split
    · exact setTerminal_changes d t _
    · exact .refl _ d
  · exact .refl _ d

theorem receiveTest_changes (t : LineNo) (c : Received) (d : Device) : ChangesOnly terminalParts d (receiveTest t c d) := by
  unfold receiveTest
  split
  · exact .refl _ d
  · exact .ite ((modTerminal_changes d t _).andThen (completeTest_changes t _) (by simp) (by simp))
      ((modTerminal_changes d t _).mono (by simp))

theorem clearLine_changes (t : LineNo) (s : TermState) (d : Device) :
    ChangesOnly [.terminals, .dealers] d (clearLine t s d) :=
  (modTerminal_changes d t _).andThen (modDealer_changes _ t _) (by simp) (by simp)

theorem switchLine_changes (t : LineNo) (enable : Option Bool) (d : Device) :
    ChangesOnly [.terminals, .dealers] d (switchLine t enable d) := by
  unfold switchLine
  split
  · exact .ite ((modTerminal_changes d t _).andThen (oweRedraw_changes t _) (by simp) (by simp))
      ((modTerminal_changes d t _).mono (by simp))
  · exact clearLine_changes t _ d
  · exact clearLine_changes t _ d
  · exact .refl _ d

theorem TerminalWork.changes {w : Device → Device × Answer} (h : TerminalWork w) (d : Device) :
    ChangesOnly terminalParts d (w d).1 := by
  cases h with
  | setup f =>
    unfold setupLine
    split
    · exact .refl _ d
    · exact (modTerminal_changes d _ _).andThen (switchLine_changes _ _ _) (by simp) (by simp)
  | text f =>
    unfold hostTextFor
    dsimp only
    split
    · exact .refl _ d
    · split
      · exact .refl _ d
      · exact modTerminal_roomEvent_changes _ _ d
  | test f =>
    unfold startTest
    dsimp only
    split
    · exact .refl _ d
    · split
      · exact .refl _ d
      · split
        · exact .refl _ d
        · exact (setTerminal_changes d _ _).andThen (startTestCharacter_changes _ _) (by simp) (by simp)

theorem DealerWork.changes {t : LineNo} {work : Device → Device × Text} (h : DealerWork t work) (d : Device) :
    ChangesOnly [.dealers, .watches, .notices] d (work d).1 := by
  cases h with
  | quote rest =>
    unfold quoteCommand
    split <;> exact .refl _ d
  | watch rest =>
    unfold watchCommand
    split
    · exact .refl _ d
    · split
      · exact .refl _ d
      · split
        · exact .refl _ d
        · split
          · exact .refl _ d
          · split
            · exact .refl _ d
            · exact (setWatches_changes d _).mono (by simp)
  | remove rest =>
    unfold removeCommand
    split
    · exact .refl _ d
    · split
      · exact .refl _ d
      · dsimp only
        split
        · exact .refl _ d
        · exact (setWatches_changes d _).andThen (modDealer_changes _ t _) (by simp) (by simp)
  | page rest =>
    unfold pageCommand
    split
    · exact (modDealer_changes d t _).mono (by simp)
    · split
      · exact .refl _ d
      · split
        · exact .refl _ d
        · exact (modDealer_changes d t _).mono (by simp)
  | forward text =>
    unfold forwardCommand
    split
    · exact .refl _ d
    · split
      · exact .refl _ d
      · exact (modDealer_changes d t _).andThen (raise_changes _ _) (by simp) (by simp)
  | unknown => exact .refl _ d

theorem answerDealer_changes {t : LineNo} {work : Device → Device × Text} (h : DealerWork t work) (d : Device) :
    ChangesOnly terminalParts d (answerDealer t work d) :=
  (h.changes d).andThen (placeReply_changes t _ _) (by simp) (by simp)

theorem interpreted_changes (t : LineNo) (line : Text) (d : Device) :
    ChangesOnly terminalParts d (answerDealer t (interpretLine t line) d) := by
  obtain ⟨work, hwork, heq⟩ := interpretLine_work t line
  rw [show interpretLine t line = work from funext heq]
  exact answerDealer_changes hwork d

theorem echo_roomEvent_changes (t : LineNo) (e : Text) (d : Device) :
    ChangesOnly terminalParts d (roomEvent t (offerEcho t e d)) :=
  (offerEcho_changes t e d).andThen (roomEvent_changes t _) (by simp) (by simp)

theorem submit_changes (t : LineNo) (d : Device) : ChangesOnly terminalParts d (submit t d) := by
  have hechoed (x : Terminal) : ChangesOnly terminalParts d (offerEcho t crEcho (d.setTerminal t x)) :=
    (setTerminal_changes d t x).andThen (offerEcho_changes t _ _) (by simp) (by simp)
  exact .ite (echo_roomEvent_changes t _ d) <| .ite ((hechoed _).trans ((placeReply_changes t _ _).mono (by simp))) <|
    .ite ((hechoed _).trans ((roomEvent_changes t _).mono (by simp))) <|
      (hechoed _).trans (interpreted_changes t _ _)

theorem takeCharacter_changes (t : LineNo) (c : Byte) (d : Device) : ChangesOnly terminalParts d (takeCharacter t c d) := by
  have hset (e : Text) (x : Terminal) : ChangesOnly terminalParts d (roomEvent t (offerEcho t e (d.setTerminal t x))) :=
    ((setTerminal_changes d t x).mono (by simp)).trans (echo_roomEvent_changes t e _)
  exact .ite (submit_changes t d) <| .ite (.ite (echo_roomEvent_changes t _ d) (hset _ _)) <|
    .ite (.ite (hset _ _) (echo_roomEvent_changes t _ d)) (.refl _ d)

theorem goodCharacter_changes (t : LineNo) (src : RxSource) (c : Byte) (d : Device) :
    ChangesOnly terminalParts d (goodCharacter t src c d) :=
  .ite (.refl _ d) (.ite (receiveTest_changes t _ d) (takeCharacter_changes t c d))

theorem setTerminal_oweRedraw_changes (t : LineNo) (x : Terminal) (d : Device) :
    ChangesOnly terminalParts d (oweRedraw t (d.setTerminal t x)) :=
  (setTerminal_changes d t x).andThen (oweRedraw_changes t _) (by simp) (by simp)

theorem breakTaken_changes (t : LineNo) (src : RxSource) (d : Device) :
    ChangesOnly terminalParts d (breakTaken t src d) :=
  .ite (.refl _ d) <| .ite (((setTerminal_changes d t _).mono (by simp)).trans (receiveTest_changes t _ _))
    (setTerminal_oweRedraw_changes t _ d)

theorem lineErrorTaken_changes (t : LineNo) (src : RxSource) (k : RxError) (d : Device) :
    ChangesOnly terminalParts d (lineErrorTaken t src k d) :=
  .ite (.refl _ d) <| .ite (receiveTest_changes t _ d)
    (((setTerminal_changes d t _).mono (by simp)).trans (echo_roomEvent_changes t _ _))

theorem presentRises_changes (t : LineNo) (d : Device) : ChangesOnly terminalParts d (presentRises t d) := by
  have hset (x : Terminal) : ChangesOnly terminalParts d (d.setTerminal t x) := (setTerminal_changes d t x).mono (by simp)
  have hraised (x : Terminal) : ChangesOnly terminalParts d (raiseTerminal t (oweRedraw t (d.setTerminal t x))) :=
    (setTerminal_oweRedraw_changes t x d).trans ((raise_changes _ _).mono (by simp))
  unfold presentRises
  dsimp only
  split
  · exact .refl _ d
  · split
    · exact hset _
    · exact hraised _
    · exact hraised _
    · exact hset _

theorem presentFalls_changes (t : LineNo) (d : Device) : ChangesOnly terminalParts d (presentFalls t d) := by
  have hset (x : Terminal) : ChangesOnly terminalParts d (d.setTerminal t x) := (setTerminal_changes d t x).mono (by simp)
  have hraised (x : Terminal) : ChangesOnly terminalParts d (raiseTerminal t (clearLine t .absent (d.setTerminal t x))) :=
    ((hset x).trans ((clearLine_changes t _ _).mono (by simp))).trans ((raise_changes _ _).mono (by simp))
  unfold presentFalls
  dsimp only
  split
  · exact .refl _ d
  · split
    · exact hset _
    · exact hset _
    · exact hraised _
    · exact hraised _

theorem characterSent_changes (t : LineNo) (d : Device) : ChangesOnly terminalParts d (characterSent t d) := by
  have htest (e : Device) : ChangesOnly terminalParts e (testCharacterSent t e) := by
    unfold testCharacterSent
    split
    · exact .refl _ e
    · exact .ite ((startTestCharacter_changes t e).mono (by simp)) (.ite (.refl _ e) ((modTerminal_changes e t _).mono (by simp)))
  have hafter (e : Device) : ChangesOnly terminalParts e (afterCharacter t e) := by
    unfold afterCharacter
    split
    · exact (roomEvent_changes t e).mono (by simp)
    · exact htest e
    · exact .refl _ e
    · exact .refl _ e
  exact .ite (.refl _ d) (((setTerminal_changes d t _).mono (by simp)).trans (hafter _))

theorem TerminalEvent.changes {f : Device → Device} (h : TerminalEvent f) (d : Device) :
    ChangesOnly terminalParts d (f d) := by
  cases h with
  | character t src c => exact goodCharacter_changes t src c d
  | breakTaken t src => exact breakTaken_changes t src d
  | lineError t src k => exact lineErrorTaken_changes t src k d
  | rise t => exact presentRises_changes t d
  | fall t => exact presentFalls_changes t d
  | sent t => exact characterSent_changes t d
  | wait t =>
    unfold waitExpired
    split
    · exact .ite ((completeTest_changes t d).mono (by simp)) (.refl _ d)
    · exact .refl _ d
  | mark t => exact .ite ((setTerminal_changes d t _).mono (by simp)) (.refl _ d)
  | dealer t line h => exact .ite (answerDealer_changes h d) (.refl _ d)

/-! ## The requests to the board controller -/

theorem activateSegment_changes (g : SegNo) (d : Device) : ChangesOnly boardParts d (activateSegment g d) :=
  ((modSegment_changes d g _).andThen (setLine_changes _ g _) (n := boardParts) (by simp) (by simp)).trans
    ((ChangesOnly.forEach (fun r e => modRow_changes e r _) _ _).mono (by simp))

theorem switchOffRow_changes (r : RowNo) (d : Device) : ChangesOnly boardParts d (switchOffRow r d) :=
  .ite (.refl _ d) ((enterDown_changes r _ d).mono (by simp))

theorem disableSegment_changes (g : SegNo) (d : Device) : ChangesOnly boardParts d (disableSegment g d) :=
  (((modSegment_changes d g _).andThen (setLine_changes _ g _) (n := boardParts) (by simp) (by simp)).trans
    (.forEach switchOffRow_changes _ _)).trans ((modSegment_changes _ g _).mono (by simp))

theorem changeSegment_changes (g : SegNo) (enable : Option Bool) (d : Device) :
    ChangesOnly boardParts d (changeSegment g enable d) := by
  unfold changeSegment
  split
  · exact activateSegment_changes g d
  · exact disableSegment_changes g d
  · exact disableSegment_changes g d
  · exact .refl _ d

theorem setupSegment_changes (f : SegmentFields) (d : Device) : ChangesOnly boardParts d (setupSegment f d).1 := by
  unfold setupSegment
  split
  · exact .refl _ d
  · exact ((modSegment_changes d _ _).mono (by simp)).trans (changeSegment_changes _ _ _)

theorem replaceLayout_changes (f : LayoutNo × List Field) (d : Device) :
    ChangesOnly [.layouts, .rows, .segments] d (replaceLayout f d).1 :=
  (setLayout_changes d f.1 f.2).andThen (markRows_changes _ _) (by simp) (by simp)

theorem removeBinding_changes (r : RowNo) (d : Device) : ChangesOnly [.slots] d (removeBinding r d) := by
  unfold removeBinding
  split
  · exact modSlot_changes d _ _
  · exact .refl _ d

theorem unbindAndMark_changes (r : RowNo) (d : Device) : ChangesOnly [.rows, .segments] d (unbindAndMark r d) :=
  (modRow_changes d r _).andThen (markRow_changes r _) (by simp) (by simp)

theorem bindRow_changes (f : RowNo × Slot × LayoutNo) (d : Device) :
    ChangesOnly [.slots, .rows, .segments] d (bindRow f d).1 := by
  unfold bindRow
  dsimp only
  split
  · exact .refl _ d
  · split
    · exact .refl _ d
    · dsimp only
      have hbound : ChangesOnly [.slots, .rows, .segments] d (if (d.row f.1).binding = some f.2.1 then d
          else (removeBinding f.1 d).modSlot f.2.1 (fun x => { x with boundRows := x.boundRows ++ [f.1] })) :=
        .ite (.refl _ d) (((removeBinding_changes f.1 d).trans (modSlot_changes _ _ _)).mono (by simp))
      exact (hbound.trans ((modRow_changes _ _ _).mono (by simp))).trans ((markRow_changes _ _).mono (by simp))

theorem unbindRow_changes (r : RowNo) (d : Device) : ChangesOnly [.slots, .rows, .segments] d (unbindRow r d).1 :=
  (removeBinding_changes r d).andThen (unbindAndMark_changes r _) (by simp) (by simp)

theorem clearRow_changes (r : RowNo) (d : Device) : ChangesOnly [.rows, .segments] d (clearRow r d).1 := by
  unfold clearRow
  split
  · exact .refl _ d
  · exact (modRow_changes d r _).andThen (enqueueRow_changes r _) (by simp) (by simp)

theorem setupRow_changes (f : RowNo × Option RowUnit) (d : Device) : ChangesOnly boardParts d (setupRow f d).1 := by
  unfold setupRow
  dsimp only
  split
  · exact .refl _ d
  · split
    · exact .refl _ d
    · split
      · exact .refl _ d
      · have hdown (c : Cause) : ChangesOnly boardParts d (if (d.row f.1).display = .down then d else enterDown f.1 c d) :=
          .ite (.refl _ d) ((enterDown_changes _ _ d).mono (by simp))
        exact (hdown _).trans ((modRow_changes _ _ _).mono (by simp))

theorem startExercise_changes (f : SegNo × Word) (d : Device) : ChangesOnly boardParts d (startExercise f d).1 := by
  unfold startExercise
  split
  · exact .refl _ d
  · exact .refl _ d
  · exact (modSegment_changes d _ _).andThen (exerciseCheck_changes _ _) (by simp) (by simp)

/-! ## COLLECT, SETTLE and the reset -/

theorem collectNotice_changes (d : Device) : ChangesOnly [.notices] d (collectNotice () d).1 := by
  unfold collectNotice
  split
  · exact .refl _ d
  · exact clearNotice_changes d _

theorem setOwed_changes (d : Device) : ChangesOnly [.rows] d (setOwed d) :=
  .forEach (fun r e => modRow_changes e r _) everyRow d

theorem openSettle_changes (d : Device) : ChangesOnly [.settle, .notices] d (openSettle d) :=
  .ite (settleCheck_changes d) ((modSettle_changes d _).mono (by simp))

theorem settleNow_changes (d : Device) : ChangesOnly [.rows, .settle, .notices] d (settleNow () d).1 := by
  unfold settleNow
  split
  · exact .refl _ d
  · exact ((setOwed_changes d).andThen (modSettle_changes _ _) (n := [.rows, .settle, .notices]) (by simp) (by simp)).trans
      ((openSettle_changes _).mono (by simp))

theorem foldl_raise_changes (l : List Notice) (d : Device) : ChangesOnly [.notices] d (l.foldl Device.raise d) := by
  induction l generalizing d with
  | nil => exact .refl _ d
  | cons n l ih => exact (raise_changes d n).trans (ih _)

theorem powerOnAgain_changes (d : Device) : ChangesOnly [.terminals] Device.powerOn (powerOnAgain d) :=
  .forEach (fun t e => modTerminal_changes e t _) everyLine _

end Sys2Proof.Machine
end


section
/-! PROOFS. The reset, the front of the queue, the late levels, and the reservation's guard (R8, R9). -/

namespace Sys2Proof.Machine

/-! ## The state after reset -/

section
variable (i : Slot) (r : RowNo) (q : RibbonNo) (g : SegNo) (t : LineNo)

@[simp] theorem slot_powerOn : Device.powerOn.slot i = Record.free := rfl
@[simp] theorem row_powerOn : Device.powerOn.row r = Row.powerOn := rfl
@[simp] theorem ribbon_powerOn : Device.powerOn.ribbon q = Ribbon.powerOn := rfl
@[simp] theorem segment_powerOn : Device.powerOn.segment g = Segment.powerOn := rfl
@[simp] theorem line_powerOn : Device.powerOn.line g = BoardLine.powerOn := rfl
@[simp] theorem terminal_powerOn : Device.powerOn.terminal t = Terminal.powerOn := rfl
@[simp] theorem dealer_powerOn : Device.powerOn.dealer t = Dealer.powerOn := rfl

end

theorem directorySound_powerOn : DirectorySound Device.powerOn :=
  ⟨List.Pairwise.nil, fun _ _ => ⟨fun h => absurd h List.not_mem_nil, fun h => absurd h.1 (by simp [Record.free, isListed])⟩⟩

theorem reservationSound_powerOn : ReservationSound Device.powerOn := fun _ h => nomatch h

theorem tapeSound_powerOn : TapeSound Device.powerOn :=
  ⟨Nat.zero_le _, Nat.zero_le _, nofun, fun _ h => absurd h List.not_mem_nil, fun _ h => absurd h List.not_mem_nil,
    List.Pairwise.nil, fun _ h => absurd h List.not_mem_nil⟩

theorem queuesSound_powerOn : QueuesSound Device.powerOn :=
  ⟨fun _ _ => ⟨rfl, rfl⟩, fun _ => ⟨List.nodup_nil, fun _ => ⟨fun h => absurd h List.not_mem_nil, fun h => nomatch h.1⟩⟩⟩

theorem linesSound_powerOn : LinesSound Device.powerOn := fun _ =>
  ⟨fun _ => rfl, fun h => absurd rfl h, List.Pairwise.nil, fun _ h => absurd h List.not_mem_nil, nofun, nofun,
    fun _ h => absurd h List.not_mem_nil⟩

theorem motionSound_powerOn : MotionSound Device.powerOn := fun g => by
  have hrows : rowsOf Device.powerOn g = [] := by simp [rowsOf, Row.onSegment, Row.powerOn]
  simp [motionLoad, countDisplay, turningCount, hrows, Segment.powerOn]

theorem bindingsSound_powerOn : BindingsSound Device.powerOn := fun _ =>
  ⟨Nat.zero_le _, List.nodup_nil, fun _ => ⟨fun h => absurd h List.not_mem_nil, nofun⟩⟩

theorem referencesSound_powerOn : ReferencesSound Device.powerOn :=
  ⟨fun _ h => absurd h List.not_mem_nil, nofun, nofun, fun _ h => absurd h List.not_mem_nil, nofun⟩

/-- Settles O22, condition by condition at power-on. -/
theorem resetMeetsEveryCondition : Obligations.ResetMeetsEveryCondition := by
  obtain ⟨hrecords, hwatches, hscreens, hnotices, htables⟩ := powerOn_conditions
  exact ⟨hrecords, directorySound_powerOn, reservationSound_powerOn, tapeSound_powerOn, hwatches, hscreens,
    queuesSound_powerOn, linesSound_powerOn, motionSound_powerOn, hnotices, htables, bindingsSound_powerOn,
    referencesSound_powerOn⟩

/-- Settles O1: both equations are the definition of a step. -/
theorem stepRunsTheFrontCommand : Obligations.StepRunsTheFrontCommand := fun _ _ _ => ⟨rfl, rfl⟩

/-! ## The late levels -/

/-- Settles O26, by the rows of the table of R76. -/
theorem lateLevelFollowsTheTable : Obligations.LateLevelFollowsTheTable := by
  intro x
  have heq (h : x.backlog ≠ 0) : evaluatedLevel x = levelFor x.level (x.backlog * 100 / x.normalRate) := if_neg h
  intro delay
  refine ⟨fun h => if_pos h, fun h h1 => ?_, fun h h1 h2 => ?_, fun h h1 h2 => ?_, fun h h1 h2 => ?_, fun h h1 => ?_⟩
  · rw [heq h, levelFor, if_pos h1]
  · rw [heq h, levelFor, if_neg (by omega), if_pos h1]
  · rw [heq h, levelFor, if_neg (by omega), if_neg (by omega), if_pos h1]
  · rw [heq h, levelFor, if_neg (by omega), if_neg (by omega), if_neg (by omega), if_pos h1]
  · rw [heq h, levelFor, if_neg (by omega), if_neg (by omega), if_neg (by omega), if_neg (by omega)]

/-! ## The reservation -/

/-- From `d` to `e` no slot is newly reserved, and a slot still reserved, when it was listed, keeps its revision and is
listed. -/
def Guards (d e : Device) : Prop :=
  ∀ i, e.channel.reservation = some i → d.channel.reservation = some i ∧
    (isListed (d.slot i).state = true →
      (e.slot i).revision = (d.slot i).revision ∧ isListed (e.slot i).state = true)

namespace Guards

theorem refl (d : Device) : Guards d d := fun _ h => ⟨h, fun k => ⟨rfl, k⟩⟩

theorem trans {a b c : Device} (h : Guards a b) (k : Guards b c) : Guards a c := fun i hi =>
  have ⟨hb, hbc⟩ := k i hi
  have ⟨ha, hab⟩ := h i hb
  ⟨ha, fun hl => have ⟨h1, h2⟩ := hab hl; have ⟨h3, h4⟩ := hbc h2; ⟨h3.trans h1, h4⟩⟩

/-- What leaves the records and the reservation alone. -/
theorem of_changes {l : List Part} {d e : Device} (h : ChangesOnly l d e) (hs : .slots ∉ l := by simp)
    (hr : .reservation ∉ l := by simp) : Guards d e := fun i hi => by
  have hslot : e.slot i = d.slot i := congrArg (tableGet Record.free · i) (h .slots hs)
  exact ⟨(h .reservation hr).symm.trans hi, fun hl => by rw [hslot]; exact ⟨rfl, hl⟩⟩

theorem of_none {d e : Device} (h : e.channel.reservation = none) : Guards d e := fun i hi => by
  rw [h] at hi
  cases hi

theorem ite {a b c : Device} {p : Prop} [Decidable p] (h : p → Guards a b) (k : ¬p → Guards a c) :
    Guards a (if p then b else c) := by
  split
  · exact h ‹_›
  · exact k ‹_›

theorem forEach {α : Type} {f : α → Device → Device} (h : ∀ x d, Guards d (f x d)) (l : List α) (d : Device) :
    Guards d (forEach l f d) := by
  induction l generalizing d with
  | nil => exact refl d
  | cons x l ih => exact (h x d).trans (ih (f x d))

/-- Writing a slot that is not listed, or a record with the same revision that is listed too. -/
theorem setSlot {d : Device} {i : Slot} {x : Record}
    (h : isListed (d.slot i).state = true → x.revision = (d.slot i).revision ∧ isListed x.state = true) :
    Guards d (d.setSlot i x) := fun j hj => by
  refine ⟨hj, fun hl => ?_⟩
  rw [Device.slot_setSlot]
  split
  · next e => exact e ▸ h (e ▸ hl)
  · exact ⟨rfl, hl⟩

theorem endReservation (d : Device) : Guards d (endReservation d) := of_none rfl

end Guards

theorem reservation_endReservationOn (i : Slot) (d : Device) :
    (endReservationOn i d).channel.reservation = reservationAfter i d.channel.reservation := by
  unfold endReservationOn reservationAfter
  split
  · rfl
  · rfl

/-- A written record is no longer reserved, and the others stand. -/
theorem writeRecord_guards (i : Slot) (x : Record) (d : Device) : Guards d (writeRecord i x d) := fun j hj => by
  rw [writeRecord, reservation_endReservationOn] at hj
  have hres : (d.setSlot i { x with revision := x.revision + 1 }).channel.reservation = d.channel.reservation := rfl
  rw [hres, reservationAfter] at hj
  split at hj
  · cases hj
  · next hne =>
    refine ⟨hj, fun hl => ?_⟩
    have hij : j ≠ i := fun e => hne (e ▸ hj)
    have hslot : (writeRecord i x d).slot j = d.slot j := by
      rw [writeRecord, (endReservationOn_changes i _).slot_eq (by simp) j, Device.slot_setSlot_other _ _ _ _ hij]
    rw [hslot]
    exact ⟨rfl, hl⟩

end Sys2Proof.Machine
end


section
/-! PROOFS. The slots that are named: what keeps the identity of every slot, releases at most DELISTING slots that nothing
names, and names no slot anew but a listed one. -/

namespace Sys2Proof.Machine

-- One theorem after another: so many proofs waiting on one another at once would need a thread each.
set_option Elab.async false

/-! ## The relation -/

/-- A tape entry or a ribbon's last-shown slot names the slot (R20, R80). -/
def Named (d : Device) (i : Slot) : Prop :=
  (∃ x ∈ d.tape.entries, x.body.slot? = some i) ∨ ∃ r, (d.ribbon r).lastShown = some i

/-- Two records of one instrument: both listed or neither, both FREE or neither, with the same symbol and bound rows. -/
structure SameInstrument (x y : Record) : Prop where
  listed : isListed y.state = isListed x.state
  free : y.state = .free ↔ x.state = .free
  symbol : y.symbol = x.symbol
  boundRows : y.boundRows = x.boundRows

theorem SameInstrument.refl (x : Record) : SameInstrument x x := ⟨rfl, Iff.rfl, rfl, rfl⟩

theorem SameInstrument.trans {x y z : Record} (h : SameInstrument x y) (k : SameInstrument y z) : SameInstrument x z :=
  ⟨k.listed.trans h.listed, k.free.trans h.free, k.symbol.trans h.symbol, k.boundRows.trans h.boundRows⟩

theorem delisting_iff (s : SlotState) : s = .delisting ↔ isListed s = false ∧ s ≠ .free := by
  cases s <;> simp [isListed]

theorem SameInstrument.delisting {x y : Record} (h : SameInstrument x y) :
    y.state = .delisting ↔ x.state = .delisting := by
  rw [delisting_iff, delisting_iff, h.listed, Ne, h.free]

/-- The slot was DELISTING and holds no instrument now, and nothing names it any more (R20). -/
structure Freed (d e : Device) (i : Slot) : Prop where
  delisting : (d.slot i).state = .delisting
  free : SameInstrument Record.free (e.slot i)
  unnamed : ¬ Named e i

/-- What every change but LIST, DELIST, BIND, UNBIND and RESTART does to the slots and to what names them. -/
structure NamesKept (d e : Device) : Prop where
  guards : Guards d e
  directory : e.directory = d.directory
  slot : ∀ i, SameInstrument (d.slot i) (e.slot i) ∨ Freed d e i
  named : ∀ i, Named e i → Named d i ∨ isListed (d.slot i).state = true
  binding : ∀ r, (e.row r).binding = (d.row r).binding
  watched : ∀ w ∈ e.watches, (∃ v ∈ d.watches, v.slot = w.slot) ∨ isListed (d.slot w.slot).state = true
  paged : ∀ l p i, (e.dealer l).entry p = some i → (d.dealer l).entry p = some i ∨ isListed (d.slot i).state = true

namespace NamesKept

theorem refl (d : Device) : NamesKept d d :=
  ⟨.refl d, rfl, fun _ => .inl (.refl _), fun _ => .inl, fun _ => rfl, fun w h => .inl ⟨w, h, rfl⟩, fun _ _ _ => .inl⟩

/-- A slot is listed before exactly when it is listed after: a freed slot is listed at neither time. -/
theorem listed {d e : Device} (h : NamesKept d e) (i : Slot) :
    isListed (e.slot i).state = isListed (d.slot i).state := by
  obtain hs | hf := h.slot i
  · exact hs.listed
  · rw [hf.free.listed, hf.delisting]
    rfl

theorem trans {a b c : Device} (h : NamesKept a b) (k : NamesKept b c) : NamesKept a c where
  guards := h.guards.trans k.guards
  directory := k.directory.trans h.directory
  slot i := by
    obtain hs | hf := h.slot i
    · obtain ks | kf := k.slot i
      · exact .inl (hs.trans ks)
      · exact .inr ⟨hs.delisting.1 kf.delisting, kf.free, kf.unnamed⟩
    · have hfree : (b.slot i).state = .free := hf.free.free.2 rfl
      have hc : SameInstrument (b.slot i) (c.slot i) :=
        (k.slot i).resolve_right fun kf => nomatch hfree.symm.trans kf.delisting
      refine .inr ⟨hf.delisting, hf.free.trans hc, fun hn => (k.named i hn).elim hf.unnamed (fun hl => ?_)⟩
      rw [hfree] at hl
      cases hl
  named i hi := (k.named i hi).elim (h.named i) (fun hl => .inr (h.listed i ▸ hl))
  binding r := (k.binding r).trans (h.binding r)
  watched w hw := by
    obtain ⟨v, hv, hvw⟩ | hl := k.watched w hw
    · rw [← hvw]
      exact h.watched v hv
    · exact .inr (h.listed _ ▸ hl)
  paged l p i hi := (k.paged l p i hi).elim (h.paged l p i) (fun hl => .inr (h.listed i ▸ hl))

theorem after {a b c : Device} (k : NamesKept b c) (h : NamesKept a b) : NamesKept a c := h.trans k

theorem ite {a b c : Device} {p : Prop} [Decidable p] (h : p → NamesKept a b) (k : ¬p → NamesKept a c) :
    NamesKept a (if p then b else c) := by
  split
  · exact h ‹_›
  · exact k ‹_›

theorem forEach {α : Type} {f : α → Device → Device} (h : ∀ x d, NamesKept d (f x d)) (l : List α) (d : Device) :
    NamesKept d (forEach l f d) := by
  induction l generalizing d with
  | nil => exact refl d
  | cons x l ih => exact (h x d).trans (ih (f x d))

/-- What names no slot itself may change freely; the tape and the ribbons, the rows and the dealers as far as shown. -/
theorem of_changes {d e : Device}
    (h : ChangesOnly [.link, .resetHeld, .settle, .notices, .tape, .ribbons, .segments, .lines, .layouts, .rows,
      .terminals, .dealers, .watches] d e)
    (hn : ∀ i, Named e i → Named d i ∨ isListed (d.slot i).state = true)
    (hb : ∀ r, (e.row r).binding = (d.row r).binding)
    (hw : ∀ w ∈ e.watches, (∃ v ∈ d.watches, v.slot = w.slot) ∨ isListed (d.slot w.slot).state = true)
    (hp : ∀ l p i, (e.dealer l).entry p = some i → (d.dealer l).entry p = some i ∨ isListed (d.slot i).state = true) :
    NamesKept d e where
  guards := .of_changes h
  directory := h .directory (by simp)
  slot i := .inl (h.slot_eq (by simp) i ▸ .refl _)
  named := hn
  binding := hb
  watched := hw
  paged := hp

theorem of_idle {d e : Device}
    (h : ChangesOnly [.link, .resetHeld, .settle, .notices, .segments, .lines, .layouts, .terminals] d e) :
    NamesKept d e :=
  of_changes (h.mono (by simp))
    (fun i hi => by
      have ht : e.tape = d.tape := h .tape (by simp)
      have hr (r : RibbonNo) : e.ribbon r = d.ribbon r := h.ribbon_eq (by simp) r
      simp only [Named, ht, hr] at hi
      exact .inl hi)
    (fun r => by rw [h.row_eq (by simp) r])
    (fun w hw => .inl ⟨w, h .watches (by simp) ▸ hw, rfl⟩)
    (fun l p i hi => .inl (h.dealer_eq (by simp) l ▸ hi))

theorem of_rows {d e : Device}
    (h : ChangesOnly [.link, .resetHeld, .settle, .notices, .segments, .lines, .layouts, .rows, .terminals] d e)
    (hb : ∀ r, (e.row r).binding = (d.row r).binding) : NamesKept d e :=
  of_changes (h.mono (by simp))
    (fun i hi => by
      have ht : e.tape = d.tape := h .tape (by simp)
      have hr (r : RibbonNo) : e.ribbon r = d.ribbon r := h.ribbon_eq (by simp) r
      simp only [Named, ht, hr] at hi
      exact .inl hi)
    hb
    (fun w hw => .inl ⟨w, h .watches (by simp) ▸ hw, rfl⟩)
    (fun l p i hi => .inl (h.dealer_eq (by simp) l ▸ hi))

theorem of_ribbons {d e : Device}
    (h : ChangesOnly [.link, .resetHeld, .settle, .notices, .tape, .ribbons] d e)
    (hn : ∀ i, Named e i → Named d i ∨ isListed (d.slot i).state = true) : NamesKept d e :=
  of_changes (h.mono (by simp)) hn
    (fun r => by rw [h.row_eq (by simp) r])
    (fun w hw => .inl ⟨w, h .watches (by simp) ▸ hw, rfl⟩)
    (fun l p i hi => .inl (h.dealer_eq (by simp) l ▸ hi))

theorem of_terminals {d e : Device}
    (h : ChangesOnly [.link, .resetHeld, .settle, .notices, .terminals, .dealers, .watches] d e)
    (hw : ∀ w ∈ e.watches, (∃ v ∈ d.watches, v.slot = w.slot) ∨ isListed (d.slot w.slot).state = true)
    (hp : ∀ l p i, (e.dealer l).entry p = some i → (d.dealer l).entry p = some i ∨ isListed (d.slot i).state = true) :
    NamesKept d e :=
  of_changes (h.mono (by simp))
    (fun i hi => by
      have ht : e.tape = d.tape := h .tape (by simp)
      have hr (r : RibbonNo) : e.ribbon r = d.ribbon r := h.ribbon_eq (by simp) r
      simp only [Named, ht, hr] at hi
      exact .inl hi)
    (fun r => by rw [h.row_eq (by simp) r]) hw hp

end NamesKept

/-! ## The tape and the ribbons -/

theorem raise_names (d : Device) (n : Notice) : NamesKept d (d.raise n) := .of_idle ((raise_changes d n).mono (by simp))

theorem setRibbon_names {d : Device} {r : RibbonNo} {x : Ribbon} (h : ∀ i, x.lastShown = some i → Named d i) :
    NamesKept d (d.setRibbon r x) :=
  .of_ribbons ((setRibbon_changes d r x).mono (by simp)) fun i hi => by
    obtain ⟨y, hy, hi⟩ | ⟨q, hq⟩ := hi
    · exact .inl (.inl ⟨y, hy, hi⟩)
    · rw [Device.ribbon_setRibbon] at hq
      split at hq
      · exact .inl (h i hq)
      · exact .inl (.inr ⟨q, hq⟩)

/-- A change of a ribbon that keeps its last-shown slot or forgets it. -/
theorem modRibbon_names {d : Device} {r : RibbonNo} {f : Ribbon → Ribbon}
    (h : ∀ x i, (f x).lastShown = some i → x.lastShown = some i := by intros; assumption) :
    NamesKept d (d.modRibbon r f) :=
  setRibbon_names fun _ hi => .inr ⟨r, h _ _ hi⟩

theorem setTape_names {d : Device} {t : Tape}
    (h : ∀ x ∈ t.entries, ∀ i, x.body.slot? = some i → Named d i ∨ isListed (d.slot i).state = true) :
    NamesKept d (d.setTape t) :=
  .of_ribbons ((setTape_changes d t).mono (by simp)) fun i hi => by
    obtain ⟨x, hx, hi⟩ | hr := hi
    · exact h x hx i hi
    · exact .inl (.inr hr)

/-- A tape whose entries are among those that stood. -/
theorem setTape_names_of_bodies {d : Device} {t : Tape} (h : ∀ x ∈ t.entries, ∃ y ∈ d.tape.entries, y.body = x.body) :
    NamesKept d (d.setTape t) :=
  setTape_names fun x hx _ hi => have ⟨y, hy, hyx⟩ := h x hx; .inl (.inl ⟨y, hy, hyx ▸ hi⟩)

theorem evaluateDelay_names (r : RibbonNo) (d : Device) : NamesKept d (evaluateDelay r d) :=
  .ite (fun _ => .refl d) (fun _ => (raise_names _ _).after (setRibbon_names (fun _ hi => .inr ⟨r, hi⟩)))

theorem joinRibbon_names (len : Nat) (r : RibbonNo) (d : Device) : NamesKept d (joinRibbon len r d) :=
  (evaluateDelay_names r _).after modRibbon_names

/-- The slot of an offered entry is listed, if it names one. -/
def NamesListed (d : Device) (b : EntryBody) : Prop := ∀ i, b.slot? = some i → isListed (d.slot i).state = true

theorem namesListed_of_none {d : Device} {b : EntryBody} (h : b.slot? = none) : NamesListed d b := fun _ hi =>
  nomatch h.symm.trans hi

theorem appendEntry_names {b : EntryBody} {d : Device} (h : NamesListed d b) : NamesKept d (appendEntry b d) := by
  refine .trans (setTape_names fun x hx i hi => ?_) (.forEach (joinRibbon_names _) _ _)
  obtain hx | hx := List.mem_append.1 hx
  · exact .inl (.inl ⟨x, hx, hi⟩)
  · rw [List.mem_singleton.1 hx] at hi
    exact .inr (h i hi)

theorem mem_countGap {l : List Entry} {x : Entry} (h : x ∈ countGap l) : x ∈ l ∨ x.body.isGap = true := by
  unfold countGap at h
  split at h
  · split at h
    · obtain h | h := List.mem_append.1 h
      · exact .inl (List.mem_of_mem_dropLast h)
      · rw [List.mem_singleton.1 h]
        exact .inr rfl
    · exact .inl h
  · exact .inl h

theorem slot?_of_isGap {b : EntryBody} (h : b.isGap = true) : b.slot? = none := by
  cases b with
  | gap => rfl
  | _ => cases h

theorem offer_names {b : EntryBody} {d : Device} (h : NamesListed d b) : NamesKept d (offer b d).1 := by
  have hcount : NamesKept d (d.setTape { d.tape with entries := countGap d.tape.entries }) :=
    setTape_names fun x hx i hi => by
      obtain hx | hx := mem_countGap hx
      · exact .inl (.inl ⟨x, hx, hi⟩)
      · rw [slot?_of_isGap hx] at hi
        cases hi
  unfold offer
  split
  · exact .refl d
  · split
    · exact appendEntry_names h
    · split
      · exact hcount.trans (raise_names _ _)
      · split
        · exact (appendEntry_names (namesListed_of_none rfl)).trans (raise_names _ _)
        · exact .refl d

theorem lastShown_forgetSlot (i : Slot) (r q : RibbonNo) (d : Device) :
    ((forgetSlot i r d).ribbon q).lastShown = if q = r ∧ (d.ribbon q).lastShown = some i then none else (d.ribbon q).lastShown := by
  unfold forgetSlot
  split
  · next h =>
    rw [Device.modRibbon_eq, Device.ribbon_setRibbon]
    by_cases hq : q = r
    · subst hq
      simp [h]
    · simp [hq]
  · next h =>
    by_cases hq : q = r
    · subst hq
      simp [h]
    · simp [hq]

theorem lastShown_forEach_forgetSlot (i : Slot) (l : List RibbonNo) (q : RibbonNo) (d : Device) :
    ((forEach l (forgetSlot i) d).ribbon q).lastShown =
      if q ∈ l ∧ (d.ribbon q).lastShown = some i then none else (d.ribbon q).lastShown := by
  induction l generalizing d with
  | nil => simp [forEach]
  | cons r l ih =>
    show ((forEach l (forgetSlot i) (forgetSlot i r d)).ribbon q).lastShown = _
    rw [ih, lastShown_forgetSlot]
    by_cases hq : q = r
    · subst hq
      by_cases hi : (d.ribbon q).lastShown = some i <;> simp [hi]
    · simp [hq]

theorem forgetSlot_changes (i : Slot) (r : RibbonNo) (d : Device) : ChangesOnly [.ribbons] d (forgetSlot i r d) :=
  .ite (modRibbon_changes d r _) (.refl _ d)

/-- Freeing a slot writes its record and makes each ribbon that shows it forget it; nothing else changes. -/
theorem lastShown_freeSlot (i : Slot) (d : Device) (q : RibbonNo) :
    ((freeSlot i d).ribbon q).lastShown = if (d.ribbon q).lastShown = some i then none else (d.ribbon q).lastShown := by
  rw [freeSlot, lastShown_forEach_forgetSlot]
  simp [everyRibbon]

theorem slot_freeSlot (i j : Slot) (d : Device) : (freeSlot i d).slot j = if j = i then Record.free else d.slot j := by
  rw [freeSlot, (ChangesOnly.forEach (forgetSlot_changes i) everyRibbon _).slot_eq (by simp), Device.slot_setSlot]

theorem releaseCheck_names (i : Slot) (d : Device) : NamesKept d (releaseCheck i d) := by
  refine .ite (fun ⟨hstate, hnamed⟩ => ?_) (fun _ => .refl d)
  have hc := freeSlot_changes i d
  have htape : (freeSlot i d).tape = d.tape := hc .tape (by simp)
  have hnot : ∀ x ∈ d.tape.entries, x.body.slot? ≠ some i := by simpa [tapeNames] using hnamed
  have hless (j : Slot) (hj : Named (freeSlot i d) j) : j ≠ i ∧ Named d j := by
    obtain ⟨x, hx, hxj⟩ | ⟨q, hq⟩ := hj
    · rw [htape] at hx
      exact ⟨fun h => hnot x hx (h ▸ hxj), .inl ⟨x, hx, hxj⟩⟩
    · rw [lastShown_freeSlot] at hq
      split at hq
      · cases hq
      · next h => exact ⟨fun hji => h (hji ▸ hq), .inr ⟨q, hq⟩⟩
  exact {
    guards := (Guards.setSlot (fun hl => by rw [hstate] at hl; cases hl)).trans
      (.of_changes (ChangesOnly.forEach (forgetSlot_changes i) everyRibbon (d.setSlot i Record.free)))
    directory := hc .directory (by simp)
    slot := fun j => by
      by_cases hj : j = i
      · subst hj
        refine .inr ⟨hstate, ?_, fun h => (hless j h).1 rfl⟩
        rw [slot_freeSlot, if_pos rfl]
        exact .refl _
      · rw [slot_freeSlot, if_neg hj]
        exact .inl (.refl _)
    named := fun j hj => .inl (hless j hj).2
    binding := fun r => by rw [hc.row_eq (by simp) r]
    watched := fun w hw => .inl ⟨w, hc .watches (by simp) ▸ hw, rfl⟩
    paged := fun l p j hj => .inl (hc.dealer_eq (by simp) l ▸ hj) }

theorem releaseEntry_names (x : Entry) (d : Device) : NamesKept d (releaseEntry x d) := by
  unfold releaseEntry
  split
  · exact releaseCheck_names _ d
  · exact .refl d

theorem sweepTape_names (d : Device) : NamesKept d (sweepTape d) := by
  have h : NamesKept d (forEach (d.tape.entries.filter (fun x => x.pending.isEmpty)) releaseEntry
      (d.setTape { d.tape with entries := d.tape.entries.filter (fun x => !x.pending.isEmpty) })) :=
    (setTape_names_of_bodies fun x hx => ⟨x, List.mem_of_mem_filter hx, rfl⟩).trans (.forEach releaseEntry_names _ _)
  exact .ite (fun _ => h.trans (raise_names _ _)) (fun _ => h)

theorem leavePending_names (r : RibbonNo) (id : Nat) (d : Device) : NamesKept d (leavePending r id d) :=
  setTape_names_of_bodies fun x hx => by
    obtain ⟨y, hy, rfl⟩ := List.mem_map.1 hx
    exact ⟨y, hy, by split <;> rfl⟩

theorem leaveEvery_names (r : RibbonNo) (d : Device) : NamesKept d (leaveEvery r d) :=
  setTape_names_of_bodies fun x hx => by
    obtain ⟨y, hy, rfl⟩ := List.mem_map.1 hx
    exact ⟨y, hy, rfl⟩

theorem stopRibbon_names (r : RibbonNo) (d : Device) : NamesKept d (stopRibbon r d) := by
  have hstop : NamesKept d (d.modRibbon r stoppedRibbon) := modRibbon_names (fun _ _ => nofun)
  have htold (e : Device) : NamesKept e (sweepTape (leaveEvery r (e.reportStopped r))) :=
    (NamesKept.of_idle ((reportStopped_changes e r).mono (by simp))).trans
      ((leaveEvery_names r _).trans (sweepTape_names _))
  exact (htold _).after (.ite (fun _ => hstop.trans (raise_names _ _)) (fun _ => hstop))

theorem endDrain_names (r : RibbonNo) (d : Device) : NamesKept d (endDrain r d) :=
  (stopRibbon_names r d).trans (raise_names _ _)

theorem beginEntry_names {r : RibbonNo} {y : Entry} {d : Device} (hy : y ∈ d.tape.entries) :
    NamesKept d (beginEntry r y d) := by
  have hstart : NamesKept d (evaluateDelay r (d.modRibbon r (fun x =>
      { x with current := some y.id, backlog := x.backlog - y.normalLength }))) :=
    (evaluateDelay_names r _).after modRibbon_names
  refine hstart.trans (setRibbon_names fun i hi => .inl ⟨y, ?_, ?_⟩)
  · have htape := ((modRibbon_changes d r (fun x =>
      { x with current := some y.id, backlog := x.backlog - y.normalLength })).andThen (evaluateDelay_changes r _)
      (n := [.ribbons, .notices]) (by simp) (by simp)) .tape (by simp)
    exact htape ▸ hy
  · dsimp only at hi
    split at hi
    · next h => rw [h]; exact hi
    · next h => rw [h]; exact hi
    · cases hi

theorem finishEntry_names (r : RibbonNo) (id : Nat) (d : Device) : NamesKept d (finishEntry r id d) := by
  have hleft : NamesKept d (sweepTape (leavePending r id ((d.modRibbon r (fun x =>
      { x with current := none, phase := .separator, pos := 0, text := [] })).reportReached r id))) :=
    ((leavePending_names r id _).trans (sweepTape_names _)).after
      ((NamesKept.of_idle ((reportReached_changes _ r id).mono (by simp))).after modRibbon_names)
  exact .ite (fun _ => hleft.trans (endDrain_names r _)) (fun _ => hleft)

theorem shift_names (r : RibbonNo) (c : Byte) (d : Device) : NamesKept d (shift r c d) := modRibbon_names

theorem textCharacter_names (r : RibbonNo) (d : Device) : NamesKept d (textCharacter r d) := by
  refine .ite (fun _ => (shift_names r _ d).trans modRibbon_names) fun _ => ?_
  split
  · exact (shift_names r _ d).trans (finishEntry_names r _ _)
  · exact (shift_names r _ d).trans modRibbon_names

theorem markerCharacter_names (r : RibbonNo) (d : Device) : NamesKept d (markerCharacter r d) :=
  .ite (fun _ => (shift_names r _ d).trans modRibbon_names) (fun _ => (shift_names r _ d).trans modRibbon_names)

theorem separatorCharacter_names (r : RibbonNo) (d : Device) : NamesKept d (separatorCharacter r d) :=
  .ite (fun _ => (shift_names r _ d).trans modRibbon_names) (fun _ => (shift_names r _ d).trans modRibbon_names)

theorem idleCharacter_names (r : RibbonNo) (d : Device) : NamesKept d (idleCharacter r d) := by
  unfold idleCharacter
  split
  · exact shift_names r _ d
  · next y hy =>
    have hbegun : NamesKept d (beginEntry r y d) := beginEntry_names (List.mem_of_find?_eq_some hy)
    exact .ite (fun _ => hbegun.trans (markerCharacter_names r _)) (fun _ => hbegun.trans (textCharacter_names r _))

theorem characterWork_names (r : RibbonNo) (d : Device) : NamesKept d (characterWork r d) := by
  refine .ite (fun _ => shift_names r _ d) fun _ => ?_
  split
  · exact idleCharacter_names r d
  · exact markerCharacter_names r d
  · exact textCharacter_names r d
  · exact separatorCharacter_names r d

theorem pacing_names (r : RibbonNo) (d : Device) : NamesKept d (pacing r d) := by
  have hset (x : Ribbon) (h : x.lastShown = (d.ribbon r).lastShown) : NamesKept d (d.setRibbon r x) :=
    setRibbon_names fun i hi => .inr ⟨r, h ▸ hi⟩
  exact .ite (fun _ => .ite (fun _ => (characterWork_names r _).after (hset _ rfl)) (fun _ => hset _ rfl)) (fun _ => .refl d)

theorem RibbonWork.names {w : Device → Device × Answer} (h : RibbonWork w) (d : Device) : NamesKept d (w d).1 := by
  have hset (r : RibbonNo) (x : Ribbon) (h : x.lastShown = (d.ribbon r).lastShown) : NamesKept d (d.setRibbon r x) :=
    setRibbon_names fun i hi => .inr ⟨r, h ▸ hi⟩
  cases h with
  | bulletin f => exact offer_names (namesListed_of_none rfl)
  | setup f =>
    unfold setupRibbon
    dsimp only
    split
    · exact .refl d
    · exact hset _ _ rfl
  | start r =>
    unfold startRibbon
    dsimp only
    split
    · exact .refl d
    · exact hset _ _ rfl
  | stop f =>
    unfold stopByMode stopImmediate stopDrain
    dsimp only
    split
    · split
      · exact .refl d
      · exact stopRibbon_names _ d
    · split
      · exact .refl d
      · exact .refl d
      · exact endDrain_names _ d
      · split
        · exact endDrain_names _ d
        · exact hset _ _ rfl
  | align g => exact .forEach (fun r e => modRibbon_names) _ d

end Sys2Proof.Machine
end


section
/-! PROOFS. No event of a board line or of a row changes a binding (R104, R105); nor does a mark. -/

namespace Sys2Proof.Machine

-- One theorem after another: so many proofs waiting on one another at once would need a thread each.
set_option Elab.async false

/-- Every row keeps its binding. -/
def BindingsSame (d e : Device) : Prop := ∀ r, (e.row r).binding = (d.row r).binding

namespace BindingsSame

theorem refl (d : Device) : BindingsSame d d := fun _ => rfl

theorem trans {a b c : Device} (h : BindingsSame a b) (k : BindingsSame b c) : BindingsSame a c :=
  fun r => (k r).trans (h r)

theorem after {a b c : Device} (k : BindingsSame b c) (h : BindingsSame a b) : BindingsSame a c := h.trans k

theorem ite {a b c : Device} {p : Prop} [Decidable p] (h : BindingsSame a b) (k : BindingsSame a c) :
    BindingsSame a (if p then b else c) := by
  split
  · exact h
  · exact k

theorem forEach {α : Type} {f : α → Device → Device} (h : ∀ x d, BindingsSame d (f x d)) (l : List α) (d : Device) :
    BindingsSame d (forEach l f d) := by
  induction l generalizing d with
  | nil => exact refl d
  | cons x l ih => exact (h x d).trans (ih (f x d))

theorem of_changes {l : List Part} {d e : Device} (h : ChangesOnly l d e) (hl : .rows ∉ l := by simp) :
    BindingsSame d e := fun r => by rw [h.row_eq hl r]

end BindingsSame

theorem setRow_binding {d : Device} {r : RowNo} {x : Row} (h : x.binding = (d.row r).binding) :
    BindingsSame d (d.setRow r x) := fun q => by
  rw [Device.row_setRow]
  split
  · next hq => rw [h, hq]
  · rfl

theorem modRow_binding {d : Device} {r : RowNo} {f : Row → Row} (h : ∀ x, (f x).binding = x.binding := by intro; rfl) :
    BindingsSame d (d.modRow r f) := setRow_binding (h _)

theorem enqueueRow_binding (r : RowNo) (d : Device) : BindingsSame d (enqueueRow r d) := by
  unfold enqueueRow
  split
  · exact .refl d
  · exact (BindingsSame.of_changes (modSegment_changes _ _ _)).after modRow_binding

theorem markRow_binding (r : RowNo) (d : Device) : BindingsSame d (markRow r d) := by
  unfold markRow
  split
  · exact (enqueueRow_binding r _).after modRow_binding
  · exact .refl d
  · exact modRow_binding
  · exact modRow_binding
  · exact .refl d
  · exact .refl d

theorem markRows_binding (l : List RowNo) (d : Device) : BindingsSame d (markRows l d) := .forEach markRow_binding l d

theorem releasePassed_binding (r : RowNo) (d : Device) : BindingsSame d (releasePassed r d) :=
  .ite ((enqueueRow_binding r _).after modRow_binding) modRow_binding

theorem exerciseCheck_binding (g : SegNo) (d : Device) : BindingsSame d (exerciseCheck g d) := by
  refine .ite ?_ (.refl d)
  have hend (e : Device) (f : Segment → Segment) : BindingsSame e (((e.modSegment g f).modLine g
      (fun l => { l with pollCursor := none })).raise (.segment g)) :=
    (BindingsSame.of_changes (raise_changes _ _)).after ((BindingsSame.of_changes (modLine_changes _ g _)).after
      (.of_changes (modSegment_changes e g f)))
  exact (BindingsSame.forEach releasePassed_binding _ d).trans (hend _ _)

theorem darken_binding (r : RowNo) (s : Display) (c : Cause) (notice : Bool) (d : Device) :
    BindingsSame d (darken r s c notice d) := by
  have hfail (e : Device) : BindingsSame e (exerciseFail r e) := by
    unfold exerciseFail
    split
    · exact .refl e
    · exact .ite ((exerciseCheck_binding _ _).after (.of_changes (setStep_changes r _ _ e))) (.refl e)
  have hdark : BindingsSame d ((dequeueRow r d).modRow r (fun x => darkRow x s c)) :=
    BindingsSame.after modRow_binding (.of_changes (dequeueRow_changes r d))
  have hreport (e : Device) : BindingsSame e (if 0 < (d.row r).owed then e.reportNotShown else e) :=
    .ite (.of_changes (reportNotShown_changes e)) (.refl e)
  have hraise (e : Device) : BindingsSame e (if notice then e.raise (.row r) else e) :=
    .ite (.of_changes (raise_changes e _)) (.refl e)
  exact ((hdark.trans (hreport _)).trans (hraise _)).trans (hfail _)

theorem enterDown_binding (r : RowNo) (c : Cause) (d : Device) : BindingsSame d (enterDown r c d) :=
  darken_binding r _ c _ d

theorem enterFaulted_binding (r : RowNo) (c : Cause) (cell : Nat) (d : Device) :
    BindingsSame d (enterFaulted r c cell d) := (darken_binding r _ c _ _).after modRow_binding

theorem startMotion_binding (r : RowNo) (g : SegNo) (est : Nat) (d : Device) :
    BindingsSame d (startMotion r g est d) := BindingsSame.after modRow_binding (.of_changes (modSegment_changes d g _))

theorem completeRepaint_binding (r : RowNo) (g : SegNo) (d : Device) : BindingsSame d (completeRepaint r g d) := by
  have hpay (e : Device) : BindingsSame e (payDone r e) :=
    .ite (.refl e) (.ite ((BindingsSame.of_changes (reportShown_changes _)).after modRow_binding) modRow_binding)
  have hdone : BindingsSame d (payDone r (d.modRow r (completedRow (d.segment g).hold))) :=
    (hpay _).after modRow_binding
  exact .ite (((enqueueRow_binding r _).after modRow_binding).after hdone) hdone

theorem takeUse_binding (use : LineUse) (g : SegNo) {work : RowNo → Device → Device}
    (h : ∀ r d, BindingsSame d (work r d)) (d : Device) : BindingsSame d (takeUse use g work d) := by
  unfold takeUse
  split
  · exact .ite (h _ d) (.refl d)
  · exact .refl d

theorem badAnswerTo_binding (g : SegNo) (f : Frame) (d : Device) : BindingsSame d (badAnswerTo g f d) := by
  have hsilent (r : RowNo) (e : Device) : BindingsSame e (takenSilent r e) := by
    unfold takenSilent
    split
    · exact enterDown_binding r _ e
    · exact enterDown_binding r _ e
    · exact enterDown_binding r _ e
    · exact .ite (.refl e) modRow_binding
    · exact .refl e
    · exact .refl e
  have hpoll (e : Device) : BindingsSame e (unansweredPoll g f e) :=
    .ite (.refl e) (.ite ((hsilent _ _).after modRow_binding) modRow_binding)
  have hend : BindingsSame d (endExchange g d) := .of_changes (endExchange_changes g d)
  unfold badAnswerTo
  split
  · exact hend.trans (hpoll _)
  · exact .ite (.of_changes (modLine_changes d g _)) (hend.trans (enterDown_binding _ _ _))

theorem takeAnswer_binding (g : SegNo) (kind addr : Byte) (body : List Byte) (sum : Byte) (spoiled : Bool)
    {act : Frame → Device → Device} (h : ∀ f d, BindingsSame d (act f d)) (d : Device) :
    BindingsSame d (takeAnswer g kind addr body sum spoiled act d) := by
  unfold takeAnswer
  split
  · exact .refl d
  · next f _ =>
    have hheard : BindingsSame d (heard g f (endExchange g d)) :=
      BindingsSame.after (.ite modRow_binding (.refl _)) (.of_changes (endExchange_changes g d))
    exact .ite (hheard.trans (h f _)) (badAnswerTo_binding g f d)

theorem accepted_binding (g : SegNo) (f : Frame) (d : Device) : BindingsSame d (accepted g f d) := by
  unfold accepted
  split
  · split
    · exact (startMotion_binding _ g _ _).after modRow_binding
    · exact .refl d
  · split
    · exact (startMotion_binding _ g _ _).after (.of_changes (setStep_changes _ _ g d))
    · exact .refl d
  · exact modRow_binding
  · exact .refl d

theorem polled_binding (g : SegNo) (state : Byte) (f : Frame) (d : Device) : BindingsSame d (polled g state f d) := by
  have hcompletion (ready moving : Bool) : BindingsSame d (completionAnswer g f.row ready moving d) :=
    .ite (.refl d) <| .ite (enterDown_binding _ _ d) <| .ite modRow_binding <| .ite (completeRepaint_binding _ g d) <|
      (BindingsSame.of_changes (setStep_changes _ _ g _)).after modRow_binding
  have hreadiness (ready : Bool) : BindingsSame d (readinessAnswer f.row ready d) := by
    have hjoin : BindingsSame d ((enqueueRow f.row
        (d.modRow f.row (fun x => { x with shown := none, shownSlot := none }))).raise (.row f.row)) :=
      (BindingsSame.of_changes (raise_changes _ _)).after ((enqueueRow_binding _ _).after modRow_binding)
    unfold readinessAnswer
    split
    · exact .ite (.refl d) (enterDown_binding _ _ d)
    · exact .ite (.refl d) (enterDown_binding _ _ d)
    · exact .ite (.refl d) (.ite hjoin modRow_binding)
    · exact .refl d
    · exact .refl d
    · exact .refl d
  unfold polled
  split
  · exact .refl d
  · split
    · exact hcompletion _ _
    · exact hreadiness _
    · exact .refl d

theorem echoed_binding (g : SegNo) (sensed : List Byte) (f : Frame) (d : Device) :
    BindingsSame d (echoed g sensed f d) := by
  refine .ite (.ite ?_ (enterFaulted_binding _ _ _ d)) (.refl d)
  exact (exerciseCheck_binding g _).after ((BindingsSame.of_changes (setStep_changes _ _ g _)).after modRow_binding)

theorem startRepaint_binding (g : SegNo) (r : RowNo) (d : Device) : BindingsSame d (startRepaint g r d) := by
  refine (BindingsSame.of_changes (sendFrame_changes g _ r _ _)).after
    (BindingsSame.after (setRow_binding ?_) (.of_changes (modSegment_changes d g _)))
  rfl

theorem startPattern_binding (g : SegNo) (r : RowNo) (d : Device) : BindingsSame d (startPattern g r d) :=
  (BindingsSame.of_changes (sendFrame_changes g _ r _ _)).after
    ((BindingsSame.of_changes (setStep_changes r _ g _)).after modRow_binding)

theorem startCompletionPoll_binding (g : SegNo) (r : RowNo) (d : Device) :
    BindingsSame d (startCompletionPoll g r d) :=
  (BindingsSame.of_changes (sendFrame_changes g _ r _ _)).after
    (BindingsSame.after modRow_binding (.of_changes (modLine_changes d g _)))

theorem stallExpired_binding (r : RowNo) (d : Device) : BindingsSame d (stallExpired r d) := by
  unfold stallExpired
  dsimp only
  split
  · split
    · exact .refl d
    · exact .ite (enterFaulted_binding _ _ _ d) (.ite (enterFaulted_binding _ _ _ d) (.refl d))
  · exact .refl d

theorem badAnswerNow_binding (g : SegNo) (d : Device) : BindingsSame d (badAnswerNow g d) := by
  unfold badAnswerNow
  split
  · exact badAnswerTo_binding g _ d
  · exact .refl d

theorem pollWaitExpired_binding (r : RowNo) (d : Device) : BindingsSame d (pollWaitExpired r d) := by
  unfold pollWaitExpired
  split
  · exact modRow_binding
  · exact .refl d

theorem BoardEvent.binding {f : Device → Device} (h : BoardEvent f) (d : Device) : BindingsSame d (f d) := by
  cases h with
  | repaint g => exact takeUse_binding _ g (startRepaint_binding g) d
  | lampChange g => exact takeUse_binding _ g (fun r e => .of_changes (sendFrame_changes g _ r _ e)) d
  | completionPoll g => exact takeUse_binding _ g (startCompletionPoll_binding g) d
  | readinessPoll g => exact takeUse_binding _ g (fun r e => .of_changes (startReadinessPoll_changes g r e)) d
  | echoRequest g => exact takeUse_binding _ g (fun r e => .of_changes (sendFrame_changes g _ r _ e)) d
  | pattern g => exact takeUse_binding _ g (startPattern_binding g) d
  | frameSent g => exact .of_changes (frameSent_changes g d)
  | ack g addr sum spoiled => exact takeAnswer_binding g _ _ _ _ _ (accepted_binding g) d
  | nak g addr sum spoiled => exact takeAnswer_binding g _ _ _ _ _ (fun _ e => .refl e) d
  | status g addr state sum spoiled => exact takeAnswer_binding g _ _ _ _ _ (polled_binding g state) d
  | echo g addr sensed sum spoiled => exact takeAnswer_binding g _ _ _ _ _ (echoed_binding g sensed) d
  | badAnswer g => exact badAnswerNow_binding g d
  | stall r => exact stallExpired_binding r d
  | hold r => exact .ite (setRow_binding rfl) (.refl d)
  | pollWait r => exact pollWaitExpired_binding r d

theorem BoardEvent.names {f : Device → Device} (h : BoardEvent f) (d : Device) : NamesKept d (f d) :=
  .of_rows ((h.changes d).mono (by simp)) (h.binding d)

theorem markRows_names (l : List RowNo) (d : Device) : NamesKept d (markRows l d) :=
  .of_rows ((markRows_changes l d).mono (by simp)) (markRows_binding l d)

theorem setupSegment_binding (f : SegmentFields) (d : Device) : BindingsSame d (setupSegment f d).1 := by
  have hactivate (g : SegNo) (e : Device) : BindingsSame e (activateSegment g e) :=
    (BindingsSame.forEach (fun r e => modRow_binding) _ _).after
      ((BindingsSame.of_changes (setLine_changes _ g _)).after (.of_changes (modSegment_changes e g _)))
  have hdisable (g : SegNo) (e : Device) : BindingsSame e (disableSegment g e) :=
    (BindingsSame.of_changes (modSegment_changes _ g _)).after <|
      (BindingsSame.forEach (fun r e => BindingsSame.ite (.refl e) (enterDown_binding r _ e)) _ _).after
        ((BindingsSame.of_changes (setLine_changes _ g _)).after (.of_changes (modSegment_changes e g _)))
  have hchange (g : SegNo) (enable : Option Bool) (e : Device) : BindingsSame e (changeSegment g enable e) := by
    unfold changeSegment
    split
    · exact hactivate g e
    · exact hdisable g e
    · exact hdisable g e
    · exact .refl e
  unfold setupSegment
  split
  · exact .refl d
  · exact (BindingsSame.of_changes (modSegment_changes d _ _)).trans (hchange _ _ _)

theorem setupRow_binding (f : RowNo × Option RowUnit) (d : Device) : BindingsSame d (setupRow f d).1 := by
  unfold setupRow
  dsimp only
  split
  · exact .refl d
  · split
    · exact .refl d
    · split
      · exact .refl d
      · have hdown (c : Cause) : BindingsSame d (if (d.row f.1).display = .down then d else enterDown f.1 c d) :=
          .ite (.refl d) (enterDown_binding _ _ d)
        exact BindingsSame.after modRow_binding (hdown _)

theorem clearRow_binding (r : RowNo) (d : Device) : BindingsSame d (clearRow r d).1 := by
  unfold clearRow
  split
  · exact .refl d
  · exact (enqueueRow_binding r _).after modRow_binding

theorem startExercise_binding (f : SegNo × Word) (d : Device) : BindingsSame d (startExercise f d).1 := by
  unfold startExercise
  split
  · exact .refl d
  · exact .refl d
  · exact (exerciseCheck_binding _ _).after (.of_changes (modSegment_changes d _ _))

end Sys2Proof.Machine
end


section
/-! PROOFS. The directory, the bindings and the references stay sound over every step (R5, R6, R20, R26, R154), and the
reservation guards its slot (R8, R9). -/

namespace Sys2Proof.Machine

-- One theorem after another: so many proofs waiting on one another at once would need a thread each.
set_option Elab.async false

/-! ## What the relation gives -/

theorem NamesKept.directorySound {d e : Device} (h : NamesKept d e) (hd : DirectorySound d) : DirectorySound e := by
  refine ⟨h.directory ▸ hd.1, fun s i => ?_⟩
  rw [h.directory, hd.2 s i, h.listed i]
  obtain hs | hf := h.slot i
  · rw [hs.symbol]
  · have hnot : isListed (d.slot i).state ≠ true := by rw [hf.delisting]; simp [isListed]
    simp [hnot]

theorem NamesKept.bindingsSound {d e : Device} (h : NamesKept d e) (hb : BindingsSound d) (hr : ReferencesSound d) :
    BindingsSound e := fun i => by
  obtain ⟨_, _, hbound, _⟩ := hr
  obtain hs | hf := h.slot i
  · rw [hs.boundRows]
    simpa only [h.binding] using hb i
  · rw [hf.free.boundRows]
    refine ⟨Nat.zero_le _, List.nodup_nil, fun r => ⟨fun hm => absurd hm List.not_mem_nil, fun hi => ?_⟩⟩
    rw [h.binding] at hi
    have hl := hbound r i hi
    rw [hf.delisting] at hl
    cases hl

theorem referencesSound_iff (d : Device) : ReferencesSound d ↔
    (∀ i, Named d i → (d.slot i).state ≠ .free) ∧ (∀ r i, (d.row r).binding = some i → isListed (d.slot i).state = true) ∧
      (∀ w ∈ d.watches, isListed (d.slot w.slot).state = true) ∧
      ∀ l p i, (d.dealer l).entry p = some i → isListed (d.slot i).state = true := by
  constructor
  · rintro ⟨htape, hshown, hrest⟩
    exact ⟨fun i hi => hi.elim (fun ⟨x, hx, hxi⟩ => htape x hx i hxi) (fun ⟨r, hr⟩ => hshown r i hr), hrest⟩
  · rintro ⟨hnamed, hrest⟩
    exact ⟨fun x hx i hxi => hnamed i (.inl ⟨x, hx, hxi⟩), fun r i hr => hnamed i (.inr ⟨r, hr⟩), hrest⟩

theorem not_free_of_listed {s : SlotState} (h : isListed s = true) : s ≠ .free := by
  rintro rfl
  cases h

theorem NamesKept.referencesSound {d e : Device} (h : NamesKept d e) (hr : ReferencesSound d) : ReferencesSound e := by
  rw [referencesSound_iff] at hr ⊢
  obtain ⟨hnamed, hbound, hwatched, hpaged⟩ := hr
  refine ⟨fun i hi => ?_, fun r i hi => ?_, fun w hw => ?_, fun l p i hi => ?_⟩
  · have hd : (d.slot i).state ≠ .free := (h.named i hi).elim (hnamed i) not_free_of_listed
    obtain hs | hf := h.slot i
    · rwa [Ne, hs.free]
    · exact absurd hi hf.unnamed
  · rw [h.listed]
    exact hbound r i (h.binding r ▸ hi)
  · rw [h.listed]
    obtain ⟨v, hv, hvw⟩ | hl := h.watched w hw
    · exact hvw ▸ hwatched v hv
    · exact hl
  · rw [h.listed]
    exact (h.paged l p i hi).elim (hpaged l p i) id

theorem Guards.reservationSound {d e : Device} (h : Guards d e) (hd : ReservationSound d) : ReservationSound e :=
  fun i hi => have ⟨hr, hg⟩ := h i hi; (hg (hd i hr)).2

/-- The symbols of the directory are those of listed slots (R5, R6). -/
theorem DirectorySound.lookup {d : Device} (h : DirectorySound d) {s : Text} {i : Slot} (hi : lookup d s = some i) :
    isListed (d.slot i).state = true ∧ (d.slot i).symbol = s := by
  obtain ⟨p, hp, hpi⟩ := Option.map_eq_some_iff.1 hi
  have hs : p.1 = s := by simpa using List.find?_some hp
  refine (h.2 s i).1 ?_
  rw [← hs, ← hpi]
  exact List.mem_of_find?_eq_some hp

/-! ## Terminal lines and dealers -/

theorem modTerminal_names (d : Device) (t : LineNo) (f : Terminal → Terminal) : NamesKept d (d.modTerminal t f) :=
  .of_idle ((modTerminal_changes d t f).mono (by simp))

theorem setTerminal_names (d : Device) (t : LineNo) (x : Terminal) : NamesKept d (d.setTerminal t x) :=
  .of_idle ((setTerminal_changes d t x).mono (by simp))

theorem setDealer_names {d : Device} {t : LineNo} {y : Dealer}
    (h : ∀ p i, y.entry p = some i → (d.dealer t).entry p = some i ∨ isListed (d.slot i).state = true) :
    NamesKept d (d.setDealer t y) :=
  .of_terminals ((setDealer_changes d t y).mono (by simp)) (fun w hw => .inl ⟨w, hw, rfl⟩) fun l p i hi => by
    rw [Device.dealer_setDealer] at hi
    split at hi
    · next hl => exact hl ▸ h p i hi
    · exact .inl hi

theorem modDealer_names {d : Device} {t : LineNo} {f : Dealer → Dealer}
    (h : ∀ y, (f y).page = y.page := by intro; rfl) : NamesKept d (d.modDealer t f) :=
  setDealer_names fun p i hi => .inl (by rwa [Dealer.entry, h] at hi)

theorem setWatches_names {d : Device} {l : List Watch}
    (h : ∀ w ∈ l, (∃ v ∈ d.watches, v.slot = w.slot) ∨ isListed (d.slot w.slot).state = true) :
    NamesKept d (d.setWatches l) :=
  .of_terminals ((setWatches_changes d l).mono (by simp)) h (fun _ _ _ => .inl)

theorem ItemsEntered.names {t : LineNo} {d e : Device} (h : ItemsEntered t d e) : NamesKept d e :=
  .of_terminals (h.parts.mono (by simp)) (fun w hw => .inl ⟨w, h.parts .watches (by simp) ▸ hw, rfl⟩) fun l p i hi => by
    by_cases hl : l = t
    · subst hl
      rw [Dealer.entry, h.page] at hi
      exact .inl hi
    · exact .inl (h.other_dealer l hl ▸ hi)

theorem roomEvent_names (t : LineNo) (d : Device) : NamesKept d (roomEvent t d) := (roomEvent_entered t d).names

theorem offerEcho_names (t : LineNo) (e : Text) (d : Device) : NamesKept d (offerEcho t e d) :=
  .of_idle ((offerEcho_changes t e d).mono (by simp))

theorem oweRedraw_names (t : LineNo) (d : Device) : NamesKept d (oweRedraw t d) :=
  (roomEvent_names t _).after modDealer_names

theorem placeReply_names (t : LineNo) (reply : Text) (d : Device) : NamesKept d (placeReply t reply d) :=
  (modTerminal_names d t _).trans (roomEvent_names t _)

theorem page_foldl_setMark (l : List PageNo) (y : Dealer) :
    (l.foldl (fun y p => y.setMark p true) y).page = y.page := by rw [(foldl_setMark l y).1]

theorem markPages_names (i : Slot) (d : Device) : NamesKept d (markPages i d) :=
  .forEach (fun _ e => .ite (fun _ => .refl e)
    (fun _ => (roomEvent_names _ _).after (modDealer_names (fun _ => page_foldl_setMark _ _)))) everyLine d

theorem listAlert_names (t : LineNo) (a : Alert) (d : Device) : NamesKept d (listAlert t a d) :=
  .ite (fun _ => modDealer_names) (fun _ => .refl d)

theorem evaluateWatch_names (i : Slot) (last : Nat) (t : LineNo) (c : Condition) (d : Device) :
    NamesKept d (evaluateWatch i last t c d) := by
  unfold evaluateWatch
  split
  · exact .refl d
  · next w _ =>
    have hset : NamesKept d (d.setWatches (d.watches.map (fun v =>
        if v = w then { v with state := evaluatedState w last } else v))) := setWatches_names fun v hv => by
      obtain ⟨u, hu, rfl⟩ := List.mem_map.1 hv
      exact .inl ⟨u, hu, by split <;> rfl⟩
    exact .ite (fun _ => hset.trans (listAlert_names t _ _)) (fun _ => hset)

theorem evaluateWatches_names (i : Slot) (last : Price) (d : Device) : NamesKept d (evaluateWatches i last d) := by
  unfold evaluateWatches
  split
  · exact .refl d
  · exact .forEach (fun t e => .ite
      (fun _ => (NamesKept.forEach (evaluateWatch_names i _ t) _ e).trans (roomEvent_names t _)) (fun _ => .refl e)) _ d

theorem completeTest_names (t : LineNo) (d : Device) : NamesKept d (completeTest t d) := by
  unfold completeTest
  split
  · exact .refl d
  · exact ((modTerminal_names d t _).trans (raise_names _ _)).trans (roomEvent_names t _)

theorem receiveTest_names (t : LineNo) (c : Received) (d : Device) : NamesKept d (receiveTest t c d) := by
  unfold receiveTest
  split
  · exact .refl d
  · exact .ite (fun _ => (modTerminal_names d t _).trans (completeTest_names t _)) (fun _ => modTerminal_names d t _)

theorem clearLine_names (t : LineNo) (s : TermState) (d : Device) : NamesKept d (clearLine t s d) :=
  (modTerminal_names d t _).trans (show NamesKept _ (Device.modDealer _ t (fun y => { y with alerts := [] })) from modDealer_names)

theorem TerminalWork.names {w : Device → Device × Answer} (h : TerminalWork w) (d : Device) : NamesKept d (w d).1 := by
  cases h with
  | setup f =>
    have hswitch (t : LineNo) (enable : Option Bool) (e : Device) : NamesKept e (switchLine t enable e) := by
      unfold switchLine
      split
      · exact .ite (fun _ => (modTerminal_names e t _).trans (oweRedraw_names t _)) (fun _ => modTerminal_names e t _)
      · exact clearLine_names t _ e
      · exact clearLine_names t _ e
      · exact .refl e
    unfold setupLine
    split
    · exact .refl d
    · exact (modTerminal_names d _ _).trans (hswitch _ _ _)
  | text f =>
    unfold hostTextFor
    dsimp only
    split
    · exact .refl d
    · split
      · exact .refl d
      · exact (modTerminal_names d _ _).trans (roomEvent_names _ _)
  | test f =>
    unfold startTest
    dsimp only
    split
    · exact .refl d
    · split
      · exact .refl d
      · split
        · exact .refl d
        · exact (setTerminal_names d _ _).trans (.of_idle ((startTestCharacter_changes _ _).mono (by simp)))

/-! ## Dealer commands -/

theorem readSymbol_listed {d : Device} (hd : DirectorySound d) {s : Text} {i : Slot} (h : readSymbol d s = .ok i) :
    isListed (d.slot i).state = true := by
  unfold readSymbol at h
  split at h
  · split at h
    · next j hj =>
      cases h
      exact (hd.lookup hj).1
    · cases h
  · cases h

theorem lookupAll_listed {d : Device} (hd : DirectorySound d) {l : List Text} {r : List Slot} (h : lookupAll d l = some r) :
    ∀ i ∈ r, isListed (d.slot i).state = true := by
  induction l generalizing r with
  | nil =>
    cases h
    exact fun i hi => absurd hi List.not_mem_nil
  | cons s l ih =>
    unfold lookupAll at h
    split at h
    · next j r' hj hr =>
      cases h
      intro i hi
      obtain rfl | hi := List.mem_cons.1 hi
      · exact (hd.lookup hj).1
      · exact ih hr i hi
    · cases h

theorem entry_setEntry (y : Dealer) (p q : PageNo) (s : Option Slot) :
    (y.setEntry p s).entry q = if q = p then s else y.entry q := by
  unfold Dealer.entry Dealer.setEntry
  split
  · next h => rw [h]; exact tableGet_set_same _ _ _ _
  · next h => exact tableGet_set_other _ _ _ _ _ h

theorem entry_foldl_setEntry (f : PageNo → Option Slot) (l : List PageNo) (y : Dealer) (q : PageNo) :
    (l.foldl (fun y p => y.setEntry p (f p)) y).entry q = if q ∈ l then f q else y.entry q := by
  induction l generalizing y with
  | nil => simp
  | cons p l ih =>
    rw [List.foldl_cons, ih, entry_setEntry]
    by_cases hq : q = p
    · subst hq
      simp
    · simp [hq]

/-- After a page command the entries are the slots it names, in order (R151). -/
theorem entry_setPage (l : List Slot) (y : Dealer) (q : PageNo) : (setPage l y).entry q = l[q.val]? := by
  rw [setPage, Dealer.entry, markAll_eq]
  show (everyPage.foldl (fun y p => y.setEntry p l[p.val]?) y).entry q = _
  rw [entry_foldl_setEntry]
  simp [everyPage]

theorem setPage_names {d : Device} {t : LineNo} {l : List Slot} (h : ∀ i ∈ l, isListed (d.slot i).state = true) :
    NamesKept d (d.modDealer t (setPage l)) :=
  setDealer_names fun p i hi => .inr (h i (List.mem_of_getElem? (entry_setPage l _ p ▸ hi)))

theorem DealerWork.names {t : LineNo} {work : Device → Device × Text} (h : DealerWork t work) {d : Device}
    (hd : DirectorySound d) : NamesKept d (work d).1 := by
  cases h with
  | quote rest =>
    unfold quoteCommand
    split <;> exact .refl d
  | watch rest =>
    unfold watchCommand
    split
    · exact .refl d
    · split
      · exact .refl d
      · next i hi =>
        split
        · exact .refl d
        · split
          · exact .refl d
          · split
            · exact .refl d
            · refine setWatches_names fun w hw => ?_
              obtain hw | hw := List.mem_append.1 hw
              · exact .inl ⟨w, hw, rfl⟩
              · rw [List.mem_singleton.1 hw]
                exact .inr (readSymbol_listed hd hi)
  | remove rest =>
    unfold removeCommand
    split
    · exact .refl d
    · split
      · exact .refl d
      · dsimp only
        split
        · exact .refl d
        · dsimp only
          exact NamesKept.after modDealer_names
            (setWatches_names fun w hw => .inl ⟨w, List.mem_of_mem_filter hw, rfl⟩)
  | page rest =>
    unfold pageCommand
    split
    · exact setPage_names (fun _ h => absurd h List.not_mem_nil)
    · split
      · exact .refl d
      · split
        · exact .refl d
        · next l hl => exact setPage_names (lookupAll_listed hd hl)
  | forward text =>
    unfold forwardCommand
    split
    · exact .refl d
    · split
      · exact .refl d
      · exact (raise_names _ _).after modDealer_names
  | unknown => exact .refl d

theorem answerDealer_names {t : LineNo} {work : Device → Device × Text} (h : DealerWork t work) {d : Device}
    (hd : DirectorySound d) : NamesKept d (answerDealer t work d) := (h.names hd).trans (placeReply_names t _ _)

theorem submit_names (t : LineNo) {d : Device} (hd : DirectorySound d) : NamesKept d (submit t d) := by
  have hechoed (x : Terminal) : NamesKept d (offerEcho t crEcho (d.setTerminal t x)) :=
    (setTerminal_names d t x).trans (offerEcho_names t _ _)
  refine .ite (fun _ => (offerEcho_names t _ d).trans (roomEvent_names t _)) fun _ => ?_
  refine .ite (fun _ => (hechoed _).trans (placeReply_names t _ _)) fun _ => ?_
  refine .ite (fun _ => (hechoed _).trans (roomEvent_names t _)) fun _ => ?_
  obtain ⟨work, hwork, heq⟩ := interpretLine_work t (d.terminal t).input
  rw [show interpretLine t (d.terminal t).input = work from funext heq]
  exact (hechoed _).trans (answerDealer_names hwork ((hechoed _).directorySound hd))

theorem takeCharacter_names (t : LineNo) (c : Byte) {d : Device} (hd : DirectorySound d) :
    NamesKept d (takeCharacter t c d) := by
  have hecho (e : Text) (b : Device) : NamesKept b (roomEvent t (offerEcho t e b)) :=
    (offerEcho_names t e b).trans (roomEvent_names t _)
  have hset (e : Text) (x : Terminal) : NamesKept d (roomEvent t (offerEcho t e (d.setTerminal t x))) :=
    (setTerminal_names d t x).trans (hecho e _)
  exact .ite (fun _ => submit_names t hd) fun _ => .ite (fun _ => .ite (fun _ => hecho _ d) (fun _ => hset _ _)) fun _ =>
    .ite (fun _ => .ite (fun _ => hset _ _) (fun _ => hecho _ d)) (fun _ => .refl d)

theorem presentRises_names (t : LineNo) (d : Device) : NamesKept d (presentRises t d) := by
  have hraised (x : Terminal) : NamesKept d (raiseTerminal t (oweRedraw t (d.setTerminal t x))) :=
    ((setTerminal_names d t x).trans (oweRedraw_names t _)).trans (raise_names _ _)
  unfold presentRises
  dsimp only
  split
  · exact .refl d
  · split
    · exact setTerminal_names d t _
    · exact hraised _
    · exact hraised _
    · exact setTerminal_names d t _

theorem presentFalls_names (t : LineNo) (d : Device) : NamesKept d (presentFalls t d) := by
  have hraised (x : Terminal) : NamesKept d (raiseTerminal t (clearLine t .absent (d.setTerminal t x))) :=
    ((setTerminal_names d t x).trans (clearLine_names t _ _)).trans (raise_names _ _)
  unfold presentFalls
  dsimp only
  split
  · exact .refl d
  · split
    · exact setTerminal_names d t _
    · exact setTerminal_names d t _
    · exact hraised _
    · exact hraised _

theorem characterSent_names (t : LineNo) (d : Device) : NamesKept d (characterSent t d) := by
  have htest (e : Device) : NamesKept e (testCharacterSent t e) := by
    unfold testCharacterSent
    split
    · exact .refl e
    · exact .ite (fun _ => .of_idle ((startTestCharacter_changes t e).mono (by simp)))
        (fun _ => .ite (fun _ => .refl e) (fun _ => modTerminal_names e t _))
  have hafter (e : Device) : NamesKept e (afterCharacter t e) := by
    unfold afterCharacter
    split
    · exact roomEvent_names t e
    · exact htest e
    · exact .refl e
    · exact .refl e
  exact .ite (fun _ => .refl d) (fun _ => (setTerminal_names d t _).trans (hafter _))

theorem TerminalEvent.names {f : Device → Device} (h : TerminalEvent f) {d : Device} (hd : DirectorySound d) :
    NamesKept d (f d) := by
  cases h with
  | character t src c =>
    exact .ite (fun _ => .refl d) fun _ => .ite (fun _ => receiveTest_names t _ d) (fun _ => takeCharacter_names t c hd)
  | breakTaken t src =>
    exact .ite (fun _ => .refl d) fun _ => .ite (fun _ => (setTerminal_names d t _).trans (receiveTest_names t _ _))
      (fun _ => (setTerminal_names d t _).trans (oweRedraw_names t _))
  | lineError t src k =>
    exact .ite (fun _ => .refl d) fun _ => .ite (fun _ => receiveTest_names t _ d)
      (fun _ => (setTerminal_names d t _).trans ((offerEcho_names t _ _).trans (roomEvent_names t _)))
  | rise t => exact presentRises_names t d
  | fall t => exact presentFalls_names t d
  | sent t => exact characterSent_names t d
  | wait t =>
    unfold waitExpired
    split
    · exact .ite (fun _ => completeTest_names t d) (fun _ => .refl d)
    · exact .refl d
  | mark t => exact .ite (fun _ => setTerminal_names d t _) (fun _ => .refl d)
  | dealer t line h => exact .ite (fun _ => answerDealer_names h hd) (fun _ => .refl d)

end Sys2Proof.Machine
end


section
/-! PROOFS. The requests to the quotation store, the bindings and the restart, as to the slots and their names; O20 and O21. -/

namespace Sys2Proof.Machine

-- One theorem after another: so many proofs waiting on one another at once would need a thread each.
set_option Elab.async false

/-! ## Changed records, trades and amendments -/

theorem writeRecord_names {i : Slot} {x : Record} {d : Device}
    (h : SameInstrument (d.slot i) { x with revision := x.revision + 1 }) : NamesKept d (writeRecord i x d) where
  guards := writeRecord_guards i x d
  directory := writeRecord_changes i x d .directory (by simp)
  slot j := by
    by_cases hj : j = i
    · subst hj
      exact .inl (slot_writeRecord_same j x d ▸ h)
    · refine .inl ?_
      rw [writeRecord, (endReservationOn_changes i _).slot_eq (by simp) j, Device.slot_setSlot_other _ _ _ _ hj]
      exact .refl _
  named j hj := by
    have hc := writeRecord_changes i x d
    have ht : (writeRecord i x d).tape = d.tape := hc .tape (by simp)
    have hr (r : RibbonNo) : (writeRecord i x d).ribbon r = d.ribbon r := hc.ribbon_eq (by simp) r
    simp only [Named, ht, hr] at hj
    exact .inl hj
  binding r := by rw [(writeRecord_changes i x d).row_eq (by simp) r]
  watched w hw := .inl ⟨w, writeRecord_changes i x d .watches (by simp) ▸ hw, rfl⟩
  paged l p j hj := .inl ((writeRecord_changes i x d).dealer_eq (by simp) l ▸ hj)

theorem tradedRecord_same (t : TradeItem) (x : Record) (n : Word) :
    SameInstrument x { tradedRecord t x with revision := n } := by
  unfold tradedRecord
  dsimp only
  split <;> exact ⟨rfl, Iff.rfl, rfl, rfl⟩

theorem isListed_of_trading {s : SlotState} (h : s = .trading) : isListed s = true := by
  rw [h]
  rfl

theorem applyTrade_names {t : TradeItem} {d : Device} (h : (d.slot t.slot).state = .trading) :
    NamesKept d (applyTrade t d) := by
  have hwrite : NamesKept d (writeRecord t.slot (tradedRecord t (d.slot t.slot)) d) :=
    writeRecord_names (tradedRecord_same t _ _)
  have hlisted : isListed ((writeRecord t.slot (tradedRecord t (d.slot t.slot)) d).slot t.slot).state = true :=
    (hwrite.listed _).trans (isListed_of_trading h)
  have hoffer : NamesKept d (if t.onTape then
      offerEntry (.print t.slot t.price t.shares) (writeRecord t.slot (tradedRecord t (d.slot t.slot)) d)
      else writeRecord t.slot (tradedRecord t (d.slot t.slot)) d) :=
    .ite (fun _ => hwrite.trans (offer_names fun i hi => by cases hi; exact hlisted)) (fun _ => hwrite)
  have hmark (e : Device) : NamesKept e (markPages t.slot (markRows (e.slot t.slot).boundRows e)) :=
    (markRows_names _ e).trans (markPages_names _ _)
  exact (hoffer.trans (hmark _)).trans (.ite (fun _ => .refl _) (fun _ => evaluateWatches_names _ _ _))

theorem applyItems_names (l : List TradeItem) (n : Nat) (d : Device) : NamesKept d (applyItems l n d).1 := by
  induction l generalizing n d with
  | nil => exact .refl d
  | cons t l ih =>
    unfold applyItems
    split
    · exact .refl d
    · next h => exact (applyTrade_names (not_not.1 h)).trans (ih _ _)

theorem amendedRecord_same (f : AmendFields) (x : Record) (n : Word) :
    SameInstrument x { amendedRecord f x with revision := n } := ⟨rfl, Iff.rfl, rfl, rfl⟩

theorem endReservation_names (d : Device) : NamesKept d (endReservation d) :=
  ⟨.endReservation d, rfl, fun _ => .inl (.refl _), fun _ => .inl, fun _ => rfl, fun w h => .inl ⟨w, h, rfl⟩,
    fun _ _ _ => .inl⟩

theorem amendHandOffs_names {f : AmendFields} {x y : Record} {d : Device}
    (h : isListed (d.slot f.slot).state = true) : NamesKept d (amendHandOffs f x y d) := by
  have hoffer : NamesKept d (match f.print, y.last with
      | true, some p => offerEntry (.corr f.slot p) d
      | _, _ => d) := by
    split
    · exact offer_names fun i hi => by cases hi; exact h
    · exact .refl d
  have hmark (e : Device) : NamesKept e (markPages f.slot (markRows y.boundRows e)) :=
    (markRows_names _ e).trans (markPages_names _ _)
  exact (hoffer.trans (hmark _)).trans (.ite (fun _ => evaluateWatches_names _ _ _) (fun _ => .refl _))

theorem amendSlot_names {f : AmendFields} {d : Device} (h : ReservationSound d) : NamesKept d (amendSlot f d).1 := by
  unfold amendSlot
  dsimp only
  split
  · exact endReservation_names d
  · next hres =>
    split
    · exact endReservation_names d
    · have hwrite : NamesKept d (writeRecord f.slot (amendedRecord f (d.slot f.slot)) (endReservation d)) :=
        (endReservation_names d).trans (writeRecord_names (amendedRecord_same f _ _))
      exact hwrite.trans (amendHandOffs_names ((hwrite.listed _).trans (h _ (not_not.1 hres))))

theorem rolledRecord_same {x : Record} (n : Word) (h : isListed x.state = true) :
    SameInstrument x { rolledRecord x with revision := n } :=
  ⟨h.symm, ⟨nofun, fun hf => absurd hf (not_free_of_listed h)⟩, rfl, rfl⟩

theorem rollSlot_names {i : Slot} {d : Device} (h : isListed (d.slot i).state = true) : NamesKept d (rollSlot i d) :=
  (writeRecord_names (rolledRecord_same _ h)).trans ((markRows_names _ _).trans (markPages_names _ _))

theorem forEach_cons {α : Type} (x : α) (l : List α) (f : α → Device → Device) (d : Device) :
    forEach (x :: l) f d = forEach l f (f x d) := rfl

theorem rollSlots_names {l : List Slot} {d : Device} (h : ∀ i ∈ l, isListed (d.slot i).state = true) :
    NamesKept d (forEach l rollSlot d) := by
  induction l generalizing d with
  | nil => exact .refl d
  | cons i l ih =>
    have hi : NamesKept d (rollSlot i d) := rollSlot_names (h i List.mem_cons_self)
    have hl : NamesKept (rollSlot i d) (forEach l rollSlot (rollSlot i d)) :=
      ih fun j hj => (hi.listed j).trans (h j (List.mem_cons_of_mem _ hj))
    rw [forEach_cons]
    exact hi.trans hl

theorem listed_of_mem_listedSlots {i : Slot} {d : Device} (h : i ∈ listedSlots d) : isListed (d.slot i).state = true := by
  rw [listedSlots, List.mem_filter] at h
  exact h.2

@[simp] theorem slot_endReservation (d : Device) (i : Slot) : (endReservation d).slot i = d.slot i := rfl

theorem rearmWatches_names (d : Device) : NamesKept d (rearmWatches d) := setWatches_names fun w hw => by
  obtain ⟨v, hv, rfl⟩ := List.mem_map.1 hw
  exact .inl ⟨v, hv, rfl⟩

theorem dayRollStore_names (d : Device) : NamesKept d (dayRollStore () d).1 := by
  have hroll : NamesKept d (forEach (listedSlots d) rollSlot (endReservation d)) :=
    (endReservation_names d).trans (rollSlots_names fun i hi => by
      rw [slot_endReservation]
      exact listed_of_mem_listedSlots hi)
  unfold dayRollStore
  exact (rearmWatches_names _).after hroll

/-! ## The conditions together -/

/-- The directory stays sound, and with it the reservation, the bindings and the references. -/
structure StoreKept (d e : Device) : Prop where
  directory : DirectorySound d → DirectorySound e
  rest : DirectorySound d → ReservationSound d → BindingsSound d → ReferencesSound d →
    ReservationSound e ∧ BindingsSound e ∧ ReferencesSound e

theorem StoreKept.refl (d : Device) : StoreKept d d := ⟨id, fun _ hr hb hf => ⟨hr, hb, hf⟩⟩

theorem NamesKept.store {d e : Device} (h : NamesKept d e) : StoreKept d e :=
  ⟨h.directorySound, fun _ hr hb hf => ⟨h.guards.reservationSound hr, h.bindingsSound hb hf, h.referencesSound hf⟩⟩

/-- What the directory or the reservation must be sound for. -/
theorem StoreKept.of_names {d e : Device} (hd : DirectorySound d → DirectorySound e)
    (h : DirectorySound d → ReservationSound d → NamesKept d e) : StoreKept d e :=
  ⟨hd, fun hs hr hb hf => (h hs hr).store.rest hs hr hb hf⟩

/-! ## LIST (R11) -/

theorem symbolLt_trans {a b c : Text} (h : symbolLt a b = true) (k : symbolLt b c = true) : symbolLt a c = true := by
  induction a generalizing b c with
  | nil =>
    cases c with
    | nil => cases b <;> simp [symbolLt] at k
    | cons z c => rfl
  | cons x a ih =>
    cases b with
    | nil => simp [symbolLt] at h
    | cons y b =>
      cases c with
      | nil => simp [symbolLt] at k
      | cons z c =>
        simp only [symbolLt] at h k ⊢
        split at h
        · next hxy =>
          subst hxy
          split at k
          · next hxz => rw [if_pos hxz]; exact ih h k
          · next hxz => rw [if_neg hxz]; exact k
        · next hxy =>
          have hlt : x.toNat < y.toNat := of_decide_eq_true h
          split at k
          · next hyz => subst hyz; rw [if_neg hxy]; exact h
          · have hlt' : y.toNat < z.toNat := of_decide_eq_true k
            rw [if_neg (fun e => by rw [e] at hlt; omega)]
            exact decide_eq_true (by omega)

theorem symbolLt_of_not {a b : Text} (h : symbolLt a b = false) (hne : a ≠ b) : symbolLt b a = true := by
  induction a generalizing b with
  | nil =>
    cases b with
    | nil => exact absurd rfl hne
    | cons y b => simp [symbolLt] at h
  | cons x a ih =>
    cases b with
    | nil => rfl
    | cons y b =>
      simp only [symbolLt] at h ⊢
      split at h
      · next hxy =>
        rw [if_pos hxy.symm]
        exact ih h (fun e => hne (by rw [hxy, e]))
      · next hxy =>
        have hge : ¬ x.toNat < y.toNat := of_decide_eq_false h
        have hne' : x.toNat ≠ y.toNat := fun e => hxy (BitVec.eq_of_toNat_eq e)
        rw [if_neg (Ne.symm hxy)]
        exact decide_eq_true (by omega)

theorem mem_insertSymbol (s : Text) (i : Slot) (l : List (Text × Slot)) (p : Text × Slot) :
    p ∈ insertSymbol s i l ↔ p = (s, i) ∨ p ∈ l := by
  induction l with
  | nil => simp [insertSymbol]
  | cons q l ih =>
    unfold insertSymbol
    split
    · simp
    · simp only [List.mem_cons, ih]
      tauto

theorem insertSymbol_sorted {s : Text} {i : Slot} {l : List (Text × Slot)} (hs : ∀ p ∈ l, p.1 ≠ s)
    (h : l.Pairwise (fun a b => symbolLt a.1 b.1 = true)) :
    (insertSymbol s i l).Pairwise (fun a b => symbolLt a.1 b.1 = true) := by
  induction l with
  | nil => exact List.pairwise_singleton _ _
  | cons q l ih =>
    obtain ⟨hq, hl⟩ := List.pairwise_cons.1 h
    unfold insertSymbol
    split
    · next hlt =>
      refine List.pairwise_cons.2 ⟨fun p hp => ?_, h⟩
      obtain rfl | hp := List.mem_cons.1 hp
      · exact hlt
      · exact symbolLt_trans hlt (hq p hp)
    · next hlt =>
      refine List.pairwise_cons.2 ⟨fun p hp => ?_, ih (fun p hp => hs p (List.mem_cons_of_mem _ hp)) hl⟩
      obtain rfl | hp := (mem_insertSymbol s i l p).1 hp
      · exact symbolLt_of_not (by simpa using hlt) (hs q List.mem_cons_self).symm
      · exact hq p hp

theorem lookup_eq_none_iff (d : Device) (s : Text) : lookup d s = none ↔ ∀ p ∈ d.directory, p.1 ≠ s := by
  simp [lookup]

/-- The device after an accepted LIST. -/
theorem listed_store {f : ListFields} {d : Device} (hfree : (d.slot f.slot).state = .free)
    (hnew : lookup d f.symbol = none) :
    StoreKept d ((d.setSlot f.slot (listedRecord f)).setDirectory (insertSymbol f.symbol f.slot d.directory)) := by
  have hslot (j : Slot) : ((d.setSlot f.slot (listedRecord f)).setDirectory
      (insertSymbol f.symbol f.slot d.directory)).slot j = if j = f.slot then listedRecord f else d.slot j :=
    by rw [Device.slot_setDirectory, Device.slot_setSlot]
  have hunlisted {j : Slot} (hj : isListed (d.slot j).state = true) : j ≠ f.slot := by
    rintro rfl
    rw [hfree] at hj
    cases hj
  refine ⟨fun ⟨hsorted, hmem⟩ => ⟨insertSymbol_sorted ((lookup_eq_none_iff d _).1 hnew) hsorted, fun s j => ?_⟩,
    fun _ hres hbound hrefs => ⟨fun j hj => ?_, fun j => ?_, ?_⟩⟩
  · rw [hslot, Device.directory_setDirectory, mem_insertSymbol, hmem s j]
    by_cases hj : j = f.slot
    · subst hj
      rw [if_pos rfl, hfree]
      constructor
      · rintro (h | ⟨h, _⟩)
        · exact ⟨rfl, (congrArg Prod.fst h).symm⟩
        · cases h
      · rintro ⟨_, h⟩
        exact .inl (by rw [← h]; rfl)
    · rw [if_neg hj]
      exact ⟨fun h => h.resolve_left (fun e => hj (congrArg Prod.snd e)), .inr⟩
  · rw [hslot, if_neg (hunlisted (hres j hj))]
    exact hres j hj
  · rw [hslot]
    split
    · next hj =>
      refine ⟨Nat.zero_le _, List.nodup_nil, fun r => ⟨fun h => absurd h List.not_mem_nil, fun h => ?_⟩⟩
      exact absurd hj (hunlisted (hrefs.2.2.1 r j h))
    · exact hbound j
  · rw [referencesSound_iff] at hrefs ⊢
    obtain ⟨hnamed, hrows, hwatched, hpaged⟩ := hrefs
    have hkeep {j : Slot} (hj : isListed (d.slot j).state = true) :
        isListed (((d.setSlot f.slot (listedRecord f)).setDirectory
          (insertSymbol f.symbol f.slot d.directory)).slot j).state = true := by
      rw [hslot, if_neg (hunlisted hj)]
      exact hj
    refine ⟨fun j hj => ?_, fun r j hj => hkeep (hrows r j hj), fun w hw => hkeep (hwatched w hw),
      fun l p j hj => hkeep (hpaged l p j hj)⟩
    have hne : j ≠ f.slot := by
      rintro rfl
      exact hnamed _ hj hfree
    rw [hslot, if_neg hne]
    exact hnamed j hj

end Sys2Proof.Machine
end


section
/-! PROOFS. A DELIST, a BIND, a RESTART: the parts they leave, field by field; then O20 and O21. -/

namespace Sys2Proof.Machine

-- One theorem after another: so many proofs waiting on one another at once would need a thread each.
set_option Elab.async false

/-! ## DELIST (R19) -/

/-- The device of a DELIST before its slot is freed: the pair gone, the record DELISTING, the rows unbound and marked, and
the slot withdrawn from the dealer service. -/
def withdrawn (i : Slot) (d : Device) : Device :=
  delistWatches i (d.slot i).symbol (forEach (d.slot i).boundRows unbindAndMark
    (writeRecord i { d.slot i with state := .delisting, boundRows := [] }
      (d.setDirectory (d.directory.filter (fun p => p.2 ≠ i)))))

/-- A DELIST leaves the slot DELISTING while the tape names it, and else frees it (R19, R20). -/
theorem delistSlot_named {i : Slot} {d : Device} (h : isListed (d.slot i).state = true) (hn : tapeNames d i = true) :
    delistSlot i d = (withdrawn i d, accept [slotStateCode .delisting]) := by
  unfold delistSlot
  rw [if_neg (by simp [h]), if_pos hn]
  rfl

theorem delistSlot_unnamed {i : Slot} {d : Device} (h : isListed (d.slot i).state = true) (hn : tapeNames d i = false) :
    delistSlot i d = (freeSlot i (withdrawn i d), accept [slotStateCode .free]) := by
  unfold delistSlot
  rw [if_neg (by simp [h]), if_neg (by simp [hn])]
  rfl

theorem delistSlot_of_not_listed {i : Slot} {d : Device} (h : isListed (d.slot i).state = false) :
    delistSlot i d = (d, refuse .wrongState) := if_pos h

/-- The parts a withdrawal reaches after the record is written. -/
theorem withdrawn_changes_record (i : Slot) (d : Device) :
    ChangesOnly [.rows, .segments, .watches, .terminals, .dealers]
      (writeRecord i { d.slot i with state := .delisting, boundRows := [] }
        (d.setDirectory (d.directory.filter (fun p => p.2 ≠ i)))) (withdrawn i d) :=
  (ChangesOnly.forEach unbindAndMark_changes _ _).andThen (delistWatches_changes i _ _) (by simp) (by simp)

theorem withdrawn_changes (i : Slot) (d : Device) :
    ChangesOnly [.directory, .slots, .reservation, .rows, .segments, .watches, .terminals, .dealers] d (withdrawn i d) :=
  ((setDirectory_changes d _).andThen (writeRecord_changes i _ _) (n := [.directory, .slots, .reservation, .rows,
    .segments, .watches, .terminals, .dealers]) (by simp) (by simp)).trans ((withdrawn_changes_record i d).mono (by simp))

theorem slot_withdrawn (i j : Slot) (d : Device) : (withdrawn i d).slot j =
    if j = i then { d.slot i with state := .delisting, boundRows := [], revision := (d.slot i).revision + 1 }
    else d.slot j := by
  rw [(withdrawn_changes_record i d).slot_eq (by simp) j, writeRecord,
    (endReservationOn_changes i _).slot_eq (by simp) j, Device.slot_setSlot, Device.slot_setDirectory]

theorem directory_withdrawn (i : Slot) (d : Device) :
    (withdrawn i d).directory = d.directory.filter (fun p => p.2 ≠ i) :=
  (withdrawn_changes_record i d .directory (by simp)).trans (writeRecord_changes i _ _ .directory (by simp))

theorem reservation_writeRecord (i : Slot) (x : Record) (d : Device) :
    (writeRecord i x d).channel.reservation = reservationAfter i d.channel.reservation :=
  reservation_endReservationOn i _

theorem reservation_withdrawn (i : Slot) (d : Device) :
    (withdrawn i d).channel.reservation = reservationAfter i d.channel.reservation :=
  (withdrawn_changes_record i d .reservation (by simp)).trans (reservation_writeRecord i _ _)

theorem binding_unbindAndMark (r q : RowNo) (d : Device) :
    ((unbindAndMark r d).row q).binding = if q = r then none else (d.row q).binding := by
  rw [unbindAndMark, markRow_binding, Device.modRow_eq, Device.row_setRow]
  split <;> rfl

theorem binding_forEach_unbindAndMark (l : List RowNo) (q : RowNo) (d : Device) :
    ((forEach l unbindAndMark d).row q).binding = if q ∈ l then none else (d.row q).binding := by
  induction l generalizing d with
  | nil => simp [forEach]
  | cons r l ih =>
    rw [forEach_cons, ih, binding_unbindAndMark]
    by_cases hq : q = r <;> simp [hq]

theorem binding_withdrawn (i : Slot) (q : RowNo) (d : Device) :
    ((withdrawn i d).row q).binding = if q ∈ (d.slot i).boundRows then none else (d.row q).binding := by
  rw [withdrawn, (delistWatches_changes i _ _).row_eq (by simp) q, binding_forEach_unbindAndMark,
    (writeRecord_changes i _ _).row_eq (by simp) q, Device.row_setDirectory]

theorem watches_delistTerminal (i : Slot) (symbol : Text) (t : LineNo) (d : Device) :
    (delistTerminal i symbol t d).watches = d.watches.filter (fun w => !(w.terminal == t && w.slot == i)) := by
  unfold delistTerminal
  dsimp only
  split
  · next h =>
    have hnone : ∀ w ∈ d.watches, (!(w.terminal == t && w.slot == i)) = true := by
      intro w hw
      have := List.any_eq_false.1 h.1 w hw
      simpa [imp_iff_not_or] using this
    exact (List.filter_eq_self.2 hnone).symm
  · exact roomEvent_changes t _ .watches (by simp)

theorem watches_forEach_delistTerminal (i : Slot) (symbol : Text) (l : List LineNo) (d : Device) :
    (forEach l (delistTerminal i symbol) d).watches =
      d.watches.filter (fun w => !(decide (w.terminal ∈ l) && w.slot == i)) := by
  induction l generalizing d with
  | nil => simp [forEach]
  | cons t l ih =>
    rw [forEach_cons, ih, watches_delistTerminal, List.filter_filter]
    congr 1
    funext w
    by_cases hw : w.terminal = t <;> by_cases hs : w.slot = i <;> simp [hw, hs]

theorem watches_delistWatches (i : Slot) (symbol : Text) (d : Device) :
    (delistWatches i symbol d).watches = d.watches.filter (fun w => w.slot ≠ i) := by
  rw [delistWatches, watches_forEach_delistTerminal]
  congr 1
  funext w
  by_cases hs : w.slot = i <;> simp [everyLine, hs]

theorem watches_withdrawn (i : Slot) (d : Device) : (withdrawn i d).watches = d.watches.filter (fun w => w.slot ≠ i) := by
  have hsame : (forEach (d.slot i).boundRows unbindAndMark (writeRecord i
      { d.slot i with state := .delisting, boundRows := [] }
      (d.setDirectory (d.directory.filter (fun p => p.2 ≠ i))))).watches = d.watches :=
    (ChangesOnly.forEach unbindAndMark_changes _ _ .watches (by simp)).trans
      (writeRecord_changes i _ _ .watches (by simp))
  rw [withdrawn, watches_delistWatches, hsame]

theorem entry_foldl_emptyEntry (l : List PageNo) (y : Dealer) (q : PageNo) :
    (l.foldl (fun y p => (y.setEntry p none).setMark p true) y).entry q = if q ∈ l then none else y.entry q := by
  induction l generalizing y with
  | nil => simp
  | cons p l ih =>
    have hmark : ((y.setEntry p none).setMark p true).entry q = (y.setEntry p none).entry q := rfl
    rw [List.foldl_cons, ih, hmark, entry_setEntry]
    by_cases hq : q = p <;> simp [hq]

theorem entry_of_entered {t k : LineNo} {d e : Device} (h : ItemsEntered t d e) (p : PageNo) :
    (e.dealer k).entry p = (d.dealer k).entry p := by
  by_cases hk : k = t
  · subst hk
    rw [Dealer.entry, h.page]
    rfl
  · rw [h.other_dealer k hk]

theorem entry_delistTerminal (i : Slot) (symbol : Text) (t k : LineNo) (p : PageNo) (d : Device) :
    ((delistTerminal i symbol t d).dealer k).entry p =
      if k = t ∧ (d.dealer k).entry p = some i then none else (d.dealer k).entry p := by
  unfold delistTerminal
  dsimp only
  split
  · next h =>
    refine (if_neg ?_).symm
    rintro ⟨rfl, hp⟩
    have := List.filter_eq_nil_iff.1 h.2 p (List.mem_finRange p)
    simp [hp] at this
  · rw [entry_of_entered (roomEvent_entered t _) p, Device.modDealer_eq, Device.dealer_setDealer]
    split
    · next hk =>
      subst hk
      rw [entry_foldl_emptyEntry]
      have hrest : (if (d.watches.any fun w => w.terminal == k && w.slot == i) && takesAlerts (d.terminal k) then
          (d.dealer k).entry p else (d.dealer k).entry p) = (d.dealer k).entry p := ite_self _
      rw [apply_ite (fun z => Dealer.entry z p)]
      refine if_congr ?_ rfl hrest
      simp [everyPage]
    · next hk => rw [if_neg (fun h => hk h.1), Device.dealer_setWatches]

theorem entry_forEach_delistTerminal (i : Slot) (symbol : Text) (l : List LineNo) (k : LineNo) (p : PageNo) (d : Device) :
    ((forEach l (delistTerminal i symbol) d).dealer k).entry p =
      if k ∈ l ∧ (d.dealer k).entry p = some i then none else (d.dealer k).entry p := by
  induction l generalizing d with
  | nil => simp [forEach]
  | cons t l ih =>
    rw [forEach_cons, ih, entry_delistTerminal]
    by_cases hk : k = t <;> by_cases hp : (d.dealer k).entry p = some i <;> simp [hk, hp]

theorem entry_withdrawn (i : Slot) (k : LineNo) (p : PageNo) (d : Device) : ((withdrawn i d).dealer k).entry p =
    if (d.dealer k).entry p = some i then none else (d.dealer k).entry p := by
  have hsame : (forEach (d.slot i).boundRows unbindAndMark (writeRecord i
      { d.slot i with state := .delisting, boundRows := [] }
      (d.setDirectory (d.directory.filter (fun p => p.2 ≠ i))))).dealer k = d.dealer k :=
    ((ChangesOnly.forEach unbindAndMark_changes _ _).dealer_eq (by simp) k).trans
      ((writeRecord_changes i _ _).dealer_eq (by simp) k)
  rw [withdrawn, delistWatches, entry_forEach_delistTerminal, hsame]
  simp [everyLine]

end Sys2Proof.Machine
end


section
/-! PROOFS. The store stays sound over DELIST, BIND, UNBIND, FETCH, RESTART and the reset; O20 and O21. -/

namespace Sys2Proof.Machine

-- One theorem after another: so many proofs waiting on one another at once would need a thread each.
set_option Elab.async false

/-! ## DELIST (R19) -/

/-- What a DELIST of slot i leaves, as far as the slots and their names go. -/
structure Delisted (i : Slot) (d e : Device) : Prop where
  unlisted : isListed (e.slot i).state = false
  unbound : (e.slot i).boundRows = []
  other : ∀ j, j ≠ i → e.slot j = d.slot j
  directory : e.directory = d.directory.filter (fun p => p.2 ≠ i)
  reservation : e.channel.reservation = reservationAfter i d.channel.reservation
  binding : ∀ r, (e.row r).binding = if r ∈ (d.slot i).boundRows then none else (d.row r).binding
  watches : e.watches = d.watches.filter (fun w => w.slot ≠ i)
  entry : ∀ l p, (e.dealer l).entry p = if (d.dealer l).entry p = some i then none else (d.dealer l).entry p
  named : ∀ j, Named e j → Named d j
  named_self : Named e i → (e.slot i).state ≠ .free

theorem withdrawn_delisted (i : Slot) (d : Device) : Delisted i d (withdrawn i d) where
  unlisted := by rw [slot_withdrawn, if_pos rfl]; rfl
  unbound := by rw [slot_withdrawn, if_pos rfl]
  other j hj := by rw [slot_withdrawn, if_neg hj]
  directory := directory_withdrawn i d
  reservation := reservation_withdrawn i d
  binding r := binding_withdrawn i r d
  watches := watches_withdrawn i d
  entry l p := entry_withdrawn i l p d
  named j hj := by
    have ht : (withdrawn i d).tape = d.tape := withdrawn_changes i d .tape (by simp)
    have hr (r : RibbonNo) : (withdrawn i d).ribbon r = d.ribbon r := (withdrawn_changes i d).ribbon_eq (by simp) r
    simpa only [Named, ht, hr] using hj
  named_self _ := by rw [slot_withdrawn, if_pos rfl]; simp

theorem freed_delisted {i : Slot} {d : Device} (hn : tapeNames d i = false) :
    Delisted i d (freeSlot i (withdrawn i d)) := by
  have hnot : ∀ x ∈ d.tape.entries, x.body.slot? ≠ some i := by simpa [tapeNames] using hn
  have hw := withdrawn_delisted i d
  have hc := freeSlot_changes i (withdrawn i d)
  have ht : (freeSlot i (withdrawn i d)).tape = d.tape :=
    (hc .tape (by simp)).trans (withdrawn_changes i d .tape (by simp))
  exact {
    unlisted := by rw [slot_freeSlot, if_pos rfl]; rfl
    unbound := by rw [slot_freeSlot, if_pos rfl]; rfl
    other := fun j hj => by rw [slot_freeSlot, if_neg hj]; exact hw.other j hj
    directory := (hc .directory (by simp)).trans hw.directory
    reservation := (hc .reservation (by simp)).trans hw.reservation
    binding := fun r => by rw [hc.row_eq (by simp) r]; exact hw.binding r
    watches := (hc .watches (by simp)).trans hw.watches
    entry := fun l p => by rw [hc.dealer_eq (by simp) l]; exact hw.entry l p
    named := fun j hj => by
      obtain ⟨x, hx, hxj⟩ | ⟨r, hr⟩ := hj
      · exact .inl ⟨x, ht ▸ hx, hxj⟩
      · rw [lastShown_freeSlot] at hr
        split at hr
        · cases hr
        · exact hw.named j (.inr ⟨r, hr⟩)
    named_self := fun hj => by
      obtain ⟨x, hx, hxi⟩ | ⟨r, hr⟩ := hj
      · exact absurd hxi (hnot x (ht ▸ hx))
      · rw [lastShown_freeSlot] at hr
        split at hr
        · cases hr
        · next hne => exact absurd hr hne }

theorem delistSlot_delisted {i : Slot} {d : Device} (h : isListed (d.slot i).state = true) :
    Delisted i d (delistSlot i d).1 := by
  cases hn : tapeNames d i with
  | true =>
    rw [delistSlot_named h hn]
    dsimp only
    exact withdrawn_delisted i d
  | false =>
    rw [delistSlot_unnamed h hn]
    dsimp only
    exact freed_delisted hn

theorem Delisted.guards {i : Slot} {d e : Device} (h : Delisted i d e) : Guards d e := fun j hj => by
  rw [h.reservation, reservationAfter] at hj
  split at hj
  · cases hj
  · next hne =>
    rw [h.other j (fun e => hne (e ▸ hj))]
    exact ⟨hj, fun hl => ⟨rfl, hl⟩⟩

theorem Delisted.store {i : Slot} {d e : Device} (h : Delisted i d e) : StoreKept d e := by
  have hlisted {j : Slot} (hj : j ≠ i) (hl : isListed (d.slot j).state = true) : isListed (e.slot j).state = true :=
    h.other j hj ▸ hl
  refine ⟨fun ⟨hsorted, hmem⟩ => ⟨h.directory ▸ hsorted.filter _, fun s j => ?_⟩,
    fun _ hres hbound hrefs => ⟨h.guards.reservationSound hres, fun j => ?_, ?_⟩⟩
  · rw [h.directory, List.mem_filter, hmem]
    by_cases hj : j = i
    · subst hj
      simp [h.unlisted]
    · simp [h.other j hj, hj]
  · obtain ⟨hlen, hdup, hiff⟩ := hbound j
    by_cases hj : j = i
    · subst hj
      rw [h.unbound]
      refine ⟨Nat.zero_le _, List.nodup_nil, fun r => ⟨fun hr => absurd hr List.not_mem_nil, fun hr => ?_⟩⟩
      rw [h.binding] at hr
      split at hr
      · cases hr
      · next hnot => exact absurd ((hiff r).2 hr) hnot
    · rw [h.other j hj]
      refine ⟨hlen, hdup, fun r => ?_⟩
      rw [hiff, h.binding]
      split
      · next hr =>
        rw [((hbound i).2.2 r).1 hr]
        simp [Ne.symm hj]
      · rfl
  · rw [referencesSound_iff] at hrefs ⊢
    obtain ⟨hnamed, hrows, hwatched, hpaged⟩ := hrefs
    refine ⟨fun j hj => ?_, fun r j hj => ?_, fun w hw => ?_, fun l p j hj => ?_⟩
    · by_cases hji : j = i
      · exact hji ▸ h.named_self (hji ▸ hj)
      · rw [h.other j hji]
        exact hnamed j (h.named j hj)
    · rw [h.binding] at hj
      split at hj
      · cases hj
      · next hnot =>
        refine hlisted (fun hji => hnot ?_) (hrows r j hj)
        subst hji
        exact ((hbound j).2.2 r).2 hj
    · rw [h.watches, List.mem_filter] at hw
      exact hlisted (of_decide_eq_true hw.2) (hwatched w hw.1)
    · rw [h.entry] at hj
      split at hj
      · cases hj
      · next hne => exact hlisted (fun hji => hne (hji ▸ hj)) (hpaged l p j hj)

/-! ## BIND and UNBIND (R26, R104, R105) -/

/-- The bindings have changed and nothing else of the slots. -/
structure Rebound (d e : Device) : Prop where
  changes : ChangesOnly [.slots, .rows, .segments] d e
  slot : ∀ i, e.slot i = { d.slot i with boundRows := (e.slot i).boundRows }
  bound : ∀ r i, (e.row r).binding = some i → (d.row r).binding = some i ∨ isListed (d.slot i).state = true

theorem Rebound.refl (d : Device) : Rebound d d := ⟨.refl _ d, fun _ => rfl, fun _ _ => .inl⟩

theorem Rebound.guards {d e : Device} (h : Rebound d e) : Guards d e := fun i hi =>
  ⟨(h.changes .reservation (by simp)).symm.trans hi, fun hl => by rw [h.slot i]; exact ⟨rfl, hl⟩⟩

theorem Rebound.store {d e : Device} (h : Rebound d e) (hb : BindingsSound d → BindingsSound e) : StoreKept d e := by
  have hstate (i : Slot) : (e.slot i).state = (d.slot i).state := by rw [h.slot i]
  have hsymbol (i : Slot) : (e.slot i).symbol = (d.slot i).symbol := by rw [h.slot i]
  have hdir : e.directory = d.directory := h.changes .directory (by simp)
  refine ⟨fun hd => ⟨hdir ▸ hd.1, fun s i => ?_⟩,
    fun _ hres hbound hrefs => ⟨h.guards.reservationSound hres, hb hbound, ?_⟩⟩
  · rw [hdir, hstate, hsymbol]
    exact hd.2 s i
  · obtain ⟨htape, hshown, hrows, hwatched, hpaged⟩ := hrefs
    have ht : e.tape = d.tape := h.changes .tape (by simp)
    have hw : e.watches = d.watches := h.changes .watches (by simp)
    unfold ReferencesSound
    simp only [hstate, ht, hw, h.changes.ribbon_eq (by simp), h.changes.dealer_eq (by simp)]
    exact ⟨htape, hshown, fun r i hi => (h.bound r i hi).elim (hrows r i) id, hwatched, hpaged⟩

theorem slot_removeBinding (r : RowNo) (i : Slot) (d : Device) : (removeBinding r d).slot i =
    if (d.row r).binding = some i then { d.slot i with boundRows := (d.slot i).boundRows.filter (· ≠ r) }
    else d.slot i := by
  unfold removeBinding
  split
  · next k hk =>
    rw [Device.modSlot_eq, Device.slot_setSlot, hk]
    by_cases hik : i = k
    · subst hik
      simp
    · simp [hik, Ne.symm hik]
  · next hnone => simp [hnone]

theorem row_removeBinding (r q : RowNo) (d : Device) : (removeBinding r d).row q = d.row q :=
  (removeBinding_changes r d).row_eq (by simp) q

theorem unbindRow_slot (r : RowNo) (i : Slot) (d : Device) : (unbindRow r d).1.slot i = (removeBinding r d).slot i :=
  (unbindAndMark_changes r _).slot_eq (by simp) i

theorem unbindRow_binding (r q : RowNo) (d : Device) :
    ((unbindRow r d).1.row q).binding = if q = r then none else (d.row q).binding := by
  show ((unbindAndMark r (removeBinding r d)).row q).binding = _
  rw [binding_unbindAndMark, row_removeBinding]

theorem unbindRow_rebound (r : RowNo) (d : Device) : Rebound d (unbindRow r d).1 where
  changes := unbindRow_changes r d
  slot i := by
    rw [unbindRow_slot, slot_removeBinding]
    split <;> rfl
  bound q i hi := by
    rw [unbindRow_binding] at hi
    split at hi
    · cases hi
    · exact .inl hi

/-- A row stands in the lists after it has been taken out of the list of its slot. -/
theorem mem_boundRows_removeBinding {d : Device} (h : BindingsSound d) (r q : RowNo) (i : Slot) :
    q ∈ ((removeBinding r d).slot i).boundRows ↔ q ≠ r ∧ (d.row q).binding = some i := by
  have hi := (h i).2.2 q
  rw [slot_removeBinding]
  split
  · next hr =>
    simp only [List.mem_filter, decide_eq_true_eq, hi]
    exact and_comm
  · next hr =>
    rw [hi]
    refine ⟨fun hq => ⟨?_, hq⟩, And.right⟩
    rintro rfl
    exact hr hq

theorem boundRows_removeBinding_sublist (r : RowNo) (i : Slot) (d : Device) :
    List.Sublist ((removeBinding r d).slot i).boundRows (d.slot i).boundRows := by
  rw [slot_removeBinding]
  split
  · exact List.filter_sublist
  · exact .refl _

theorem unbindRow_bindings {r : RowNo} {d : Device} (h : BindingsSound d) : BindingsSound (unbindRow r d).1 := fun i => by
  have hsub := boundRows_removeBinding_sublist r i d
  rw [unbindRow_slot]
  refine ⟨hsub.length_le.trans (h i).1, hsub.nodup (h i).2.1, fun q => ?_⟩
  rw [mem_boundRows_removeBinding h, unbindRow_binding]
  split
  · next hq => simp [hq]
  · next hq => simp [hq]

/-- The three ways of a BIND (R104). -/
theorem bindRow_cases (r : RowNo) (i : Slot) (l : LayoutNo) (d : Device) :
    bindRow (r, i, l) d =
      if isListed (d.slot i).state = false then (d, refuse .notListed)
      else if 4 ≤ (d.slot i).boundRows.length ∧ r ∉ (d.slot i).boundRows then (d, refuse .noSpace)
      else (markRow r ((if (d.row r).binding = some i then d
          else (removeBinding r d).modSlot i (fun x => { x with boundRows := x.boundRows ++ [r] })).modRow r
            (fun y => { y with binding := some i, layout := l })), accept []) := rfl

section
variable {r : RowNo} {i : Slot} {l : LayoutNo} {d e : Device}

/-- The device after the row's binding is set and before its mark. -/
theorem bound_slot (j : Slot) : (markRow r ((if (d.row r).binding = some i then d
      else (removeBinding r d).modSlot i (fun x => { x with boundRows := x.boundRows ++ [r] })).modRow r
        (fun y => { y with binding := some i, layout := l }))).slot j =
    if (d.row r).binding = some i then d.slot j
    else if j = i then { (removeBinding r d).slot i with boundRows := ((removeBinding r d).slot i).boundRows ++ [r] }
    else (removeBinding r d).slot j := by
  rw [(markRow_changes r _).slot_eq (by simp) j, Device.modRow_eq, Device.slot_setRow]
  split
  · rfl
  · rw [Device.modSlot_eq, Device.slot_setSlot]

theorem bound_binding (q : RowNo) : ((markRow r ((if (d.row r).binding = some i then d
      else (removeBinding r d).modSlot i (fun x => { x with boundRows := x.boundRows ++ [r] })).modRow r
        (fun y => { y with binding := some i, layout := l }))).row q).binding =
    if q = r then some i else (d.row q).binding := by
  rw [markRow_binding, Device.modRow_eq, Device.row_setRow]
  split
  · rfl
  · split
    · rfl
    · rw [Device.modSlot_eq, Device.row_setSlot, row_removeBinding]

end

theorem bindRow_rebound (f : RowNo × Slot × LayoutNo) (d : Device) : Rebound d (bindRow f d).1 := by
  obtain ⟨r, i, l⟩ := f
  have hc := bindRow_changes (r, i, l) d
  rw [bindRow_cases] at hc ⊢
  split at hc
  · next h => rw [if_pos h]; exact .refl d
  · next hl =>
    split at hc
    · next h => rw [if_neg hl, if_pos h]; exact .refl d
    · next h =>
      rw [if_neg hl, if_neg h]
      refine ⟨hc, fun j => ?_, fun q j hj => ?_⟩
      · dsimp only
        rw [bound_slot]
        split
        · rfl
        · rw [slot_removeBinding, slot_removeBinding]
          split
          · next hj =>
            subst hj
            rfl
          · split <;> rfl
      · dsimp only at hj
        rw [bound_binding] at hj
        split at hj
        · cases hj
          exact .inr (by simpa using hl)
        · exact .inl hj

theorem bindRow_bindings {f : RowNo × Slot × LayoutNo} {d : Device} (h : BindingsSound d) :
    BindingsSound (bindRow f d).1 := by
  obtain ⟨r, i, l⟩ := f
  rw [bindRow_cases]
  split
  · exact h
  · split
    · exact h
    · next hroom =>
      intro j
      dsimp only
      rw [bound_slot]
      simp only [bound_binding]
      obtain ⟨hlen, hdup, hiff⟩ := h j
      split
      · next hbound =>
        refine ⟨hlen, hdup, fun q => ?_⟩
        rw [hiff]
        split
        · next hq => rw [hq, hbound]
        · rfl
      · next hbound =>
        have hsub := boundRows_removeBinding_sublist r j d
        have hmem := mem_boundRows_removeBinding h r
        split
        · next hj =>
          subst hj
          have hnot : r ∉ (d.slot j).boundRows := fun hr => hbound ((hiff r).1 hr)
          refine ⟨?_, (hsub.nodup hdup).append (List.nodup_singleton r) ?_, fun q => ?_⟩
          · have := hsub.length_le
            have : ¬ 4 ≤ (d.slot j).boundRows.length := fun h4 => hroom ⟨h4, hnot⟩
            rw [List.length_append, List.length_singleton]
            omega
          · intro q hq hqr
            rw [List.mem_singleton.1 hqr] at hq
            exact ((hmem r j).1 hq).1 rfl
          · rw [List.mem_append, hmem, List.mem_singleton]
            by_cases hq : q = r <;> simp [hq]
        · next hj =>
          refine ⟨hsub.length_le.trans hlen, hsub.nodup hdup, fun q => ?_⟩
          rw [hmem]
          by_cases hq : q = r <;> simp [hq, Ne.symm hj]

/-! ## RESTART and the reset (R28, R63, R179, R180) -/

theorem slot_forEach_setSlot_free (l : List Slot) (i : Slot) (d : Device) :
    (forEach l (fun i d => d.setSlot i Record.free) d).slot i = if i ∈ l then Record.free else d.slot i := by
  induction l generalizing d with
  | nil => simp [forEach]
  | cons j l ih =>
    rw [forEach_cons, ih, Device.slot_setSlot]
    by_cases hi : i = j <;> simp [hi]

/-- A RESTART frees the DELISTING slots (R28). -/
theorem slot_restartStore (i : Slot) (d : Device) :
    (restartStore d).slot i = if (d.slot i).state = .delisting then Record.free else d.slot i := by
  rw [restartStore, slot_forEach_setSlot_free]
  refine if_congr ?_ rfl rfl
  rw [List.mem_filter]
  simp [everySlot]

theorem restartStore_changes (d : Device) : ChangesOnly [.slots] d (restartStore d) :=
  .forEach (fun i e => setSlot_changes e i _) _ d

theorem ribbon_forEach_modRibbon (f : Ribbon → Ribbon) (l : List RibbonNo) (hl : l.Nodup) (r : RibbonNo) (d : Device) :
    (forEach l (fun r d => d.modRibbon r f) d).ribbon r = if r ∈ l then f (d.ribbon r) else d.ribbon r := by
  induction l generalizing d with
  | nil => simp [forEach]
  | cons q l ih =>
    obtain ⟨hq, hl⟩ := List.nodup_cons.1 hl
    rw [forEach_cons, ih hl, Device.modRibbon_eq, Device.ribbon_setRibbon]
    by_cases hr : r = q
    · subst hr
      simp [hq]
    · simp [hr]

/-- A RESTART stops every ribbon (R84). -/
theorem ribbon_restartTape (r : RibbonNo) (d : Device) : (restartTape d).ribbon r = stoppedRibbon (d.ribbon r) := by
  rw [restartTape, ribbon_forEach_modRibbon _ everyRibbon (List.nodup_finRange 4),
    if_pos (show r ∈ everyRibbon from List.mem_finRange r), Device.ribbon_setTape]

theorem restartTape_changes (d : Device) : ChangesOnly [.tape, .ribbons] d (restartTape d) :=
  (setTape_changes d _).andThen (.forEach (fun r e => modRibbon_changes e r _) _ _) (l := [.tape]) (m := [.ribbons])
    (by simp) (by simp)

theorem tape_restartTape (d : Device) : (restartTape d).tape = { d.tape with entries := [] } :=
  ChangesOnly.forEach (fun r e => modRibbon_changes e r _) everyRibbon _ .tape (by simp)

theorem not_named_restartTape (i : Slot) (d : Device) : ¬ Named (restartTape d) i := by
  rintro (⟨x, hx, _⟩ | ⟨r, hr⟩)
  · rw [tape_restartTape] at hx
    exact absurd hx List.not_mem_nil
  · rw [ribbon_restartTape] at hr
    cases hr

theorem restartStore_restartTape_names (d : Device) : NamesKept d (restartTape (restartStore d)) := by
  have hc := (restartStore_changes d).andThen (restartTape_changes _) (n := [.slots, .tape, .ribbons]) (by simp) (by simp)
  have hslot (i : Slot) : (restartTape (restartStore d)).slot i =
      if (d.slot i).state = .delisting then Record.free else d.slot i := by
    rw [(restartTape_changes _).slot_eq (by simp), slot_restartStore]
  have hkept (i : Slot) : SameInstrument (d.slot i) ((restartTape (restartStore d)).slot i) ∨
      Freed d (restartTape (restartStore d)) i := by
    by_cases h : (d.slot i).state = .delisting
    · exact .inr ⟨h, by rw [hslot, if_pos h]; exact .refl _, not_named_restartTape i _⟩
    · exact .inl (by rw [hslot, if_neg h]; exact .refl _)
  exact {
    guards := fun i hi => ⟨(hc .reservation (by simp)).symm.trans hi, fun hl => by
      rw [hslot, if_neg (fun h => by rw [h] at hl; cases hl)]
      exact ⟨rfl, hl⟩⟩
    directory := hc .directory (by simp)
    slot := hkept
    named := fun i hi => absurd hi (not_named_restartTape i _)
    binding := fun r => by rw [hc.row_eq (by simp) r]
    watched := fun w hw => .inl ⟨w, hc .watches (by simp) ▸ hw, rfl⟩
    paged := fun l p i hi => .inl (hc.dealer_eq (by simp) l ▸ hi) }

theorem restartRow_changes (r : RowNo) (d : Device) : ChangesOnly [.rows] d (restartRow r d) :=
  .ite (modRow_changes d r _) (modRow_changes d r _)

theorem restartSegment_changes (g : SegNo) (d : Device) : ChangesOnly [.segments, .lines] d (restartSegment g d) :=
  (modSegment_changes d g _).andThen (setLine_changes _ g _) (by simp) (by simp)

theorem restartTerminal_names (t : LineNo) (d : Device) : NamesKept d (restartTerminal t d) := by
  have hcleared : NamesKept d ((d.modTerminal t restartedTerminal).modDealer t
      (fun y => { y with alerts := [], forward := [] })) := NamesKept.after modDealer_names (modTerminal_names d t _)
  exact .ite (fun _ => hcleared.trans (oweRedraw_names t _)) (fun _ => hcleared)

theorem restartAll_names (d : Device) : NamesKept d (restartAll d) := by
  have hrows (e : Device) : NamesKept e (forEach everyRow restartRow e) :=
    .of_rows ((ChangesOnly.forEach restartRow_changes everyRow e).mono (by simp))
      (BindingsSame.forEach (fun r b => .ite modRow_binding modRow_binding) everyRow e)
  have hsegments (e : Device) : NamesKept e (forEach everySegment restartSegment e) :=
    .of_idle ((ChangesOnly.forEach restartSegment_changes everySegment e).mono (by simp))
  have hlines (e : Device) : NamesKept e (forEach everyLine restartTerminal e) := .forEach restartTerminal_names everyLine e
  have hchannel (e : Device) : NamesKept e ((restartChannel e).setNotices []) :=
    ⟨.of_none rfl, rfl, fun _ => .inl (.refl _), fun _ => .inl, fun _ => rfl, fun w h => .inl ⟨w, h, rfl⟩,
      fun _ _ _ => .inl⟩
  exact (hchannel _).after ((hlines _).after ((hrows _).after ((hsegments _).after (restartStore_restartTape_names d))))

theorem powerOnAgain_store (d : Device) : StoreKept d (powerOnAgain d) := by
  have h : NamesKept Device.powerOn (powerOnAgain d) := .of_idle ((powerOnAgain_changes d).mono (by simp))
  exact ⟨fun _ => h.directorySound directorySound_powerOn, fun _ _ _ _ =>
    h.store.rest directorySound_powerOn reservationSound_powerOn bindingsSound_powerOn referencesSound_powerOn⟩

/-! ## Every request -/

theorem fetchSlot_store (i : Slot) (reserve : Bool) (d : Device) : StoreKept d (fetchSlot i reserve d).1 := by
  unfold fetchSlot
  split
  · exact .refl d
  · next h =>
    dsimp only
    split
    · next hr =>
      refine ⟨id, fun _ _ hb hf => ⟨fun j hj => ?_, hb, hf⟩⟩
      cases hj
      simpa [hr] using h
    · exact .refl d

theorem ChangesOnly.directorySound {l : List Part} {d e : Device} (h : ChangesOnly l d e) (hl : .slots ∉ l := by simp)
    (hm : .directory ∉ l := by simp) (hd : DirectorySound d) : DirectorySound e := by
  have hdir : e.directory = d.directory := h .directory hm
  unfold DirectorySound at hd ⊢
  simpa only [hdir, h.slot_eq hl] using hd

theorem amendSlot_directory (f : AmendFields) {d : Device} (hd : DirectorySound d) : DirectorySound (amendSlot f d).1 := by
  have hended : DirectorySound (endReservation d) := (endReservation_names d).directorySound hd
  unfold amendSlot
  dsimp only
  split
  · exact hended
  · split
    · exact hended
    · exact (amendHandOffs_changes _ _ _ _).directorySound (by simp [handOffParts]) (by simp [handOffParts])
        ( (writeRecord_names (amendedRecord_same f _ _)).directorySound hended)

/-- A SET-STATE is accepted in a listed state, and leaves one (R18). -/
theorem listed_of_stateAfter {w : StateWord} {x y : SlotState} (h : stateAfter w x = some y) :
    isListed x = true ∧ isListed y = true := by
  unfold stateAfter at h
  split at h
  · cases h
    exact ⟨rfl, rfl⟩
  · cases h
    exact ⟨rfl, rfl⟩
  · cases h
    exact ⟨rfl, rfl⟩
  · cases h

theorem MarketWork.store {w : Device → Device × Answer} (h : MarketWork w) (d : Device) : StoreKept d (w d).1 := by
  cases h with
  | list f =>
    unfold listInstrument
    split
    · exact .refl d
    · next hfree =>
      split
      · exact .refl d
      · next hnew => exact listed_store (not_not.1 hfree) (by simpa using hnew)
  | delist i =>
    by_cases h : isListed (d.slot i).state = true
    · exact (delistSlot_delisted h).store
    · rw [delistSlot_of_not_listed (by simpa using h)]
      exact .refl d
  | trade t =>
    unfold tradeOne
    split
    · exact .refl d
    · next h => exact (applyTrade_names (not_not.1 h)).store
  | block l => exact (applyItems_names l 0 d).store
  | quote f =>
    unfold quoteSlot
    dsimp only
    split
    · exact .refl d
    · have hwrite : NamesKept d (writeRecord f.slot { d.slot f.slot with bid := f.bid, ask := f.ask } d) :=
        writeRecord_names ⟨rfl, Iff.rfl, rfl, rfl⟩
      dsimp only
      exact (((markPages_names _ _).after (markRows_names _ _)).after hwrite).store
  | setState f =>
    unfold Machine.setState
    dsimp only
    split
    · exact .refl d
    · next s hs =>
      have hboth : isListed (d.slot f.1).state = true ∧ isListed s = true := listed_of_stateAfter hs
      have hwrite : NamesKept d (writeRecord f.1 { d.slot f.1 with state := s } d) :=
        writeRecord_names ⟨hboth.2.trans hboth.1.symm,
          iff_of_false (not_free_of_listed hboth.2) (not_free_of_listed hboth.1), rfl, rfl⟩
      have hoffer : NamesKept _ (offerEntry (.state f.1 f.2) (writeRecord f.1 { d.slot f.1 with state := s } d)) :=
        offer_names (fun i hi => by cases hi; exact (hwrite.listed _).trans hboth.1)
      dsimp only
      exact (((markPages_names _ _).after (markRows_names _ _)).after (hoffer.after hwrite)).store
  | fetch f =>
    unfold fetchTarget
    split
    · exact fetchSlot_store _ _ d
    · split
      · exact fetchSlot_store _ _ d
      · exact .refl d
  | amend f =>
    exact .of_names (amendSlot_directory f) (fun _ hr => amendSlot_names hr)
  | amendRefused a => exact (endReservation_names d).store
  | dayRoll => exact (dayRollStore_names d).store

theorem BoardWork.store {w : Device → Device × Answer} (h : BoardWork w) (d : Device) : StoreKept d (w d).1 := by
  cases h with
  | segmentSetup f => exact (NamesKept.of_rows ((setupSegment_changes f d).mono (by simp)) (setupSegment_binding f d)).store
  | layout f =>
    exact NamesKept.store (.of_rows ((replaceLayout_changes f d).mono (by simp))
      ((markRows_binding _ _).after (.of_changes (setLayout_changes d f.1 f.2))))
  | bind f => exact (bindRow_rebound f d).store bindRow_bindings
  | unbind r => exact (unbindRow_rebound r d).store unbindRow_bindings
  | rowClear r => exact (NamesKept.of_rows ((clearRow_changes r d).mono (by simp)) (clearRow_binding r d)).store
  | rowSetup f => exact (NamesKept.of_rows ((setupRow_changes f d).mono (by simp)) (setupRow_binding f d)).store
  | exercise f => exact (NamesKept.of_rows ((startExercise_changes f d).mono (by simp)) (startExercise_binding f d)).store

theorem settleNow_binding (d : Device) : BindingsSame d (settleNow () d).1 := by
  have howed : BindingsSame d (setOwed d) := .forEach (fun _ _ => modRow_binding) everyRow d
  unfold settleNow
  split
  · exact .refl d
  · exact (BindingsSame.of_changes (openSettle_changes _)).after
      ((BindingsSame.of_changes (modSettle_changes _ _)).after howed)

theorem settleNow_names (d : Device) : NamesKept d (settleNow () d).1 :=
  .of_rows ((settleNow_changes d).mono (by simp)) (settleNow_binding d)

theorem LinkChange.names {a b : Device} (h : LinkChange a b) : NamesKept a b := .of_idle (h.mono (by simp))

theorem StoreKept.trans {a b c : Device} (h : StoreKept a b) (k : StoreKept b c) : StoreKept a c where
  directory hd := k.directory (h.directory hd)
  rest hd hr hb hf := have ⟨hr', hb', hf'⟩ := h.rest hd hr hb hf; k.rest (h.directory hd) hr' hb' hf'

theorem TerminalEvent.store {f : Device → Device} (h : TerminalEvent f) (d : Device) : StoreKept d (f d) :=
  .of_names (h.changes d).directorySound (fun hd _ => h.names hd)

theorem store_stepLaw : StepLaw StoreKept where
  refl := .refl
  link h k l := (h.names.store.trans k).trans l.names.store
  reset := powerOnAgain_store
  raises l d := (NamesKept.of_idle ((foldl_raise_changes l d).mono (by simp))).store
  forwarded t d := NamesKept.store modDealer_names
  pacing r d := (pacing_names r d).store
  board h d := (h.names d).store
  terminal h d := h.store d
  marketWork h d := h.store d
  ribbonWork h d := (h.names d).store
  boardWork h d := h.store d
  terminalWork h d := (h.names d).store
  collect d := (NamesKept.of_idle ((collectNotice_changes d).mono (by simp))).store
  settle d := (settleNow_names d).store
  restart d := (restartAll_names d).store

/-- Settles O20: each meaning keeps the identity of the slots and names no slot anew but a listed one, or is one of LIST,
DELIST, BIND and UNBIND. -/
theorem everyStepKeepsDirectorySound : Obligations.EveryStepKeepsDirectorySound := fun _ _ h hd =>
  have hkept := store_stepLaw.step h
  ⟨hkept.directory hd, fun hr hb hf => (hkept.rest hd hr hb hf).2⟩

/-! ## The reservation's guard (R8, R9) -/

/-- The reservation stays on a listed slot, and a slot reserved before and after keeps its revision. -/
structure ReservationKept (d e : Device) : Prop where
  sound : ReservationSound d → ReservationSound e
  revision : ReservationSound d → ∀ i, d.channel.reservation = some i → e.channel.reservation = some i →
    (e.slot i).revision = (d.slot i).revision

theorem Guards.reservation {d e : Device} (h : Guards d e) : ReservationKept d e where
  sound := h.reservationSound
  revision hs i hd he := ((h i he).2 (hs i hd)).1

/-- A change of the link before and after is not seen. -/
theorem ReservationKept.link {a b c d : Device} (h : LinkChange a b) (k : ReservationKept b c) (l : LinkChange c d) :
    ReservationKept a d where
  sound hs := (Guards.of_changes l).reservationSound (k.sound ((Guards.of_changes h).reservationSound hs))
  revision hs i ha hd := by
    rw [l.slot_eq (by simp) i, ← h.slot_eq (by simp) i]
    exact k.revision ((Guards.of_changes h).reservationSound hs) i ((h .reservation (by simp)).trans ha)
      ((l .reservation (by simp)).symm.trans hd)

theorem fetchSlot_reservation (i : Slot) (reserve : Bool) (d : Device) : ReservationKept d (fetchSlot i reserve d).1 := by
  unfold fetchSlot
  split
  · exact (Guards.refl d).reservation
  · next h =>
    dsimp only
    split
    · next hr =>
      refine ⟨fun _ j hj => ?_, fun _ _ _ _ => rfl⟩
      cases hj
      simpa [hr] using h
    · exact (Guards.refl d).reservation

theorem tradeParts_guards {d e : Device} (h : ChangesOnly handOffParts d e) : Guards d e :=
  .of_changes h (by simp [handOffParts]) (by simp [handOffParts])

theorem applyTrade_guards (t : TradeItem) (d : Device) : Guards d (applyTrade t d) :=
  (writeRecord_guards _ _ d).trans (tradeParts_guards (tradeHandOffs_changes t _))

theorem applyItems_guards (l : List TradeItem) (n : Nat) (d : Device) : Guards d (applyItems l n d).1 := by
  induction l generalizing n d with
  | nil => exact .refl d
  | cons t l ih =>
    unfold applyItems
    split
    · exact .refl d
    · exact (applyTrade_guards t d).trans (ih _ _)

theorem amendSlot_guards (f : AmendFields) (d : Device) : Guards d (amendSlot f d).1 := by
  unfold amendSlot
  dsimp only
  split
  · exact .endReservation d
  · split
    · exact .endReservation d
    · exact ((Guards.endReservation d).trans (writeRecord_guards _ _ _)).trans
        (tradeParts_guards (amendHandOffs_changes f _ _ _))

theorem MarketWork.reservation {w : Device → Device × Answer} (h : MarketWork w) (d : Device) :
    ReservationKept d (w d).1 := by
  have hmark (i : Slot) (l : List RowNo) (e : Device) : Guards e (markPages i (markRows l e)) :=
    .of_changes ((markRows_changes l e).andThen (markPages_changes i _)
      (n := [.rows, .segments, .terminals, .dealers]) (by simp) (by simp))
  cases h with
  | list f =>
    unfold listInstrument
    split
    · exact (Guards.refl d).reservation
    · next hfree =>
      split
      · exact (Guards.refl d).reservation
      · have hset : Guards d (d.setSlot f.slot (listedRecord f)) := .setSlot fun hl => by
          rw [not_not.1 hfree] at hl
          cases hl
        exact (hset.trans (.of_changes (setDirectory_changes _ _))).reservation
  | delist i =>
    by_cases h : isListed (d.slot i).state = true
    · exact (delistSlot_delisted h).guards.reservation
    · rw [delistSlot_of_not_listed (by simpa using h)]
      exact (Guards.refl d).reservation
  | trade t =>
    unfold tradeOne
    split
    · exact (Guards.refl d).reservation
    · exact (applyTrade_guards t d).reservation
  | block l => exact (applyItems_guards l 0 d).reservation
  | quote f =>
    unfold quoteSlot
    dsimp only
    split
    · exact (Guards.refl d).reservation
    · dsimp only
      exact ((writeRecord_guards _ _ d).trans (hmark _ _ _)).reservation
  | setState f =>
    unfold Machine.setState
    dsimp only
    split
    · exact (Guards.refl d).reservation
    · dsimp only
      have hoffer (b : EntryBody) (e : Device) : Guards e (offerEntry b e) := .of_changes (offer_changes b e)
      exact (((writeRecord_guards _ _ d).trans (hoffer _ _)).trans (hmark _ _ _)).reservation
  | fetch f =>
    unfold fetchTarget
    split
    · exact fetchSlot_reservation _ _ d
    · split
      · exact fetchSlot_reservation _ _ d
      · exact (Guards.refl d).reservation
  | amend f => exact (amendSlot_guards f d).reservation
  | amendRefused a => exact (Guards.endReservation d).reservation
  | dayRoll => exact (dayRollStore_names d).guards.reservation

theorem BoardWork.guards {w : Device → Device × Answer} (h : BoardWork w) (d : Device) : Guards d (w d).1 := by
  cases h with
  | segmentSetup f => exact .of_changes (setupSegment_changes f d)
  | layout f => exact .of_changes (replaceLayout_changes f d)
  | bind f => exact (bindRow_rebound f d).guards
  | unbind r => exact (unbindRow_rebound r d).guards
  | rowClear r => exact .of_changes (clearRow_changes r d)
  | rowSetup f => exact .of_changes (setupRow_changes f d)
  | exercise f => exact .of_changes (startExercise_changes f d)

theorem reservation_powerOnAgain (d : Device) : (powerOnAgain d).channel.reservation = none :=
  powerOnAgain_changes d .reservation (by simp)

theorem reservation_stepLaw : StepLaw ReservationKept where
  refl d := (Guards.refl d).reservation
  link := .link
  reset d := (Guards.of_none (reservation_powerOnAgain d)).reservation
  raises l d := (Guards.of_changes (foldl_raise_changes l d)).reservation
  forwarded t d := (Guards.of_changes (modDealer_changes d t _)).reservation
  pacing r d := (pacing_names r d).guards.reservation
  board h d := (h.names d).guards.reservation
  terminal h d := (Guards.of_changes (h.changes d)).reservation
  marketWork h d := h.reservation d
  ribbonWork h d := (h.names d).guards.reservation
  boardWork h d := (h.guards d).reservation
  terminalWork h d := (Guards.of_changes (h.changes d)).reservation
  collect d := (Guards.of_changes (collectNotice_changes d)).reservation
  settle d := (settleNow_names d).guards.reservation
  restart d := (restartAll_names d).guards.reservation

/-- Settles O21: every write of a record ends a reservation on its slot (R7, R9), and no other meaning changes a revision of
a listed slot. -/
theorem reservationGuardsTheRevision : Obligations.ReservationGuardsTheRevision := fun _ _ i h hs =>
  have hkept := reservation_stepLaw.step h
  ⟨hkept.sound hs, hkept.revision hs i⟩

end Sys2Proof.Machine
end


section
/-! PROOFS. The tape's limits, its pending sets and the numbers of its entries stay sound over every step (R49, R53, R54,
R56, R58); O33. -/

namespace Sys2Proof.Machine

-- One theorem after another: so many proofs waiting on one another at once would need a thread each.
set_option Elab.async false

/-! ## The conditions on the entries -/

/-- A RUNNING or DRAINING ribbon, which may stand in pending sets (R56). -/
def Live (x : Ribbon) : Prop := x.state = .running ∨ x.state = .draining

/-- The limits of the queue, the GAP counts, and the numbers of the entries. -/
structure EntriesFit (l : List Entry) (next : Nat) : Prop where
  length : l.length ≤ 512
  entries : (l.filter (fun x => !x.body.isGap)).length ≤ 511
  full : l.length = 512 → tailIsGap l = true
  counts : ∀ x ∈ l, ∀ n, x.body = .gap n → 1 ≤ n ∧ n ≤ 65535
  rising : (l.map (·.id)).Pairwise (· < ·)
  below : ∀ x ∈ l, x.id < next

/-- Every pending set names RUNNING and DRAINING ribbons alone. -/
def PendingLive (d : Device) (l : List Entry) : Prop := ∀ x ∈ l, ∀ r ∈ x.pending, Live (d.ribbon r)

theorem tapeSound_iff (d : Device) : TapeSound d ↔ EntriesFit d.tape.entries d.tape.nextId ∧
    (∀ x ∈ d.tape.entries, x.pending ≠ []) ∧ PendingLive d d.tape.entries := by
  constructor
  · rintro ⟨h1, h2, h3, h4, h5, h6, h7⟩
    exact ⟨⟨h1, h2, h3, h4, h6, h7⟩, fun x hx => (h5 x hx).1, fun x hx => (h5 x hx).2⟩
  · rintro ⟨⟨h1, h2, h3, h4, h6, h7⟩, h8, h9⟩
    exact ⟨h1, h2, h3, h4, fun x hx => ⟨h8 x hx, h9 x hx⟩, h6, h7⟩

theorem tailIsGap_append (l : List Entry) (x : Entry) : tailIsGap (l ++ [x]) = x.body.isGap := by
  simp [tailIsGap]

theorem EntriesFit.filter {l : List Entry} {next : Nat} (h : EntriesFit l next) (p : Entry → Bool) :
    EntriesFit (l.filter p) next where
  length := (List.length_filter_le p l).trans h.length
  entries := (List.filter_sublist.filter _).length_le.trans h.entries
  full hl := by
    have heq : l.filter p = l := List.filter_sublist.eq_of_length_le (by rw [hl]; exact h.length)
    rw [heq] at hl ⊢
    exact h.full hl
  counts x hx := h.counts x (List.mem_of_mem_filter hx)
  rising := h.rising.sublist (List.filter_sublist.map _)
  below x hx := h.below x (List.mem_of_mem_filter hx)

/-- A change of the pending sets alone. -/
theorem EntriesFit.map {l : List Entry} {next : Nat} (h : EntriesFit l next) {f : Entry → Entry}
    (hid : ∀ x, (f x).id = x.id) (hbody : ∀ x, (f x).body = x.body) : EntriesFit (l.map f) next where
  length := by rw [List.length_map]; exact h.length
  entries := by
    rw [List.filter_map, List.length_map]
    refine le_of_eq_of_le (congrArg List.length (List.filter_congr fun x _ => ?_)) h.entries
    simp [hbody]
  full hl := by
    rw [List.length_map] at hl
    have htail := h.full hl
    unfold tailIsGap at htail ⊢
    rw [List.getLast?_map]
    cases hlast : l.getLast? with
    | none => rw [hlast] at htail; cases htail
    | some x => rw [hlast] at htail; simpa [hbody] using htail
  counts x hx n hn := by
    obtain ⟨y, hy, rfl⟩ := List.mem_map.1 hx
    exact h.counts y hy n (hbody y ▸ hn)
  rising := by
    rw [List.map_map, show (fun x : Entry => x.id) ∘ f = (·.id) from funext hid]
    exact h.rising
  below x hx := by
    obtain ⟨y, hy, rfl⟩ := List.mem_map.1 hx
    rw [hid]
    exact h.below y hy

/-- An entry at the tail, with the next number (R53). -/
theorem EntriesFit.append {l : List Entry} {next : Nat} (h : EntriesFit l next) {b : EntryBody} {n : Nat}
    {set : List RibbonNo} (hroom : l.length ≤ 510 ∨ (l.length ≤ 511 ∧ b.isGap = true))
    (hcount : ∀ k, b = .gap k → 1 ≤ k ∧ k ≤ 65535) : EntriesFit (l ++ [⟨next, b, n, set⟩]) (next + 1) where
  length := by
    rw [List.length_append, List.length_singleton]
    omega
  entries := by
    rw [List.filter_append, List.length_append]
    obtain hl | ⟨_, hb⟩ := hroom
    · have h1 := List.length_filter_le (fun x : Entry => !x.body.isGap) l
      have h2 := List.length_filter_le (fun x : Entry => !x.body.isGap) [⟨next, b, n, set⟩]
      rw [List.length_singleton] at h2
      omega
    · have : [(⟨next, b, n, set⟩ : Entry)].filter (fun x => !x.body.isGap) = [] := by simp [hb]
      rw [this]
      exact h.entries
  full hl := by
    rw [List.length_append, List.length_singleton] at hl
    rw [tailIsGap_append]
    exact (hroom.resolve_left (by omega)).2
  counts x hx k hk := by
    obtain hx | hx := List.mem_append.1 hx
    · exact h.counts x hx k hk
    · rw [List.mem_singleton.1 hx] at hk
      exact hcount k hk
  rising := by
    rw [List.map_append, List.pairwise_append]
    refine ⟨h.rising, List.pairwise_singleton _ _, fun a ha b hb => ?_⟩
    obtain ⟨x, hx, rfl⟩ := List.mem_map.1 ha
    rw [List.mem_singleton.1 hb]
    exact h.below x hx
  below x hx := by
    obtain hx | hx := List.mem_append.1 hx
    · exact (h.below x hx).trans (Nat.lt_succ_self _)
    · rw [List.mem_singleton.1 hx]
      exact Nat.lt_succ_self _

/-- One more offer counted into the GAP at the tail: only its count changes (R54). -/
theorem countGap_eq (l : List Entry) :
    countGap l = l ∨ ∃ init x n, l = init ++ [x] ∧ x.body = .gap n ∧
      countGap l = init ++ [{ x with body := .gap (min (n + 1) 65535) }] := by
  unfold countGap
  split
  · next x hx =>
    split
    · next n hn =>
      refine .inr ⟨l.dropLast, x, n, ?_, hn, rfl⟩
      exact (List.dropLast_append_getLast? x hx).symm
    · exact .inl rfl
  · exact .inl rfl

theorem EntriesFit.countGap {l : List Entry} {next : Nat} (h : EntriesFit l next) : EntriesFit (countGap l) next := by
  obtain heq | ⟨init, x, n, rfl, hn, heq⟩ := countGap_eq l
  · rw [heq]
    exact h
  · rw [heq]
    have hx : x ∈ init ++ [x] := by simp
    exact {
      length := by simpa using h.length
      entries := by simpa [List.filter_append, EntryBody.isGap, hn] using h.entries
      full := fun _ => tailIsGap_append _ _
      counts := fun y hy k hk => by
        obtain hy | hy := List.mem_append.1 hy
        · exact h.counts y (List.mem_append_left _ hy) k hk
        · rw [List.mem_singleton.1 hy] at hk
          cases hk
          have := h.counts x hx n hn
          omega
      rising := by simpa using h.rising
      below := fun y hy => by
        obtain hy | hy := List.mem_append.1 hy
        · exact h.below y (List.mem_append_left _ hy)
        · rw [List.mem_singleton.1 hy]
          exact h.below x hx }

/-- The pending sets that stand after a count are those that stood before. -/
theorem mem_countGap_pending {l : List Entry} {x : Entry} (h : x ∈ countGap l) : ∃ y ∈ l, y.pending = x.pending := by
  obtain heq | ⟨init, y, n, rfl, _, heq⟩ := countGap_eq l
  · exact ⟨x, heq ▸ h, rfl⟩
  · rw [heq] at h
    obtain h | h := List.mem_append.1 h
    · exact ⟨x, List.mem_append_left _ h, rfl⟩
    · rw [List.mem_singleton.1 h]
      exact ⟨y, by simp, rfl⟩

/-! ## Ribbon states -/

/-- No ribbon changes its state. -/
def StatesSame (d e : Device) : Prop := ∀ r, (e.ribbon r).state = (d.ribbon r).state

namespace StatesSame

theorem refl (d : Device) : StatesSame d d := fun _ => rfl

theorem trans {a b c : Device} (h : StatesSame a b) (k : StatesSame b c) : StatesSame a c := fun r => (k r).trans (h r)

theorem after {a b c : Device} (k : StatesSame b c) (h : StatesSame a b) : StatesSame a c := h.trans k

theorem ite {a b c : Device} {p : Prop} [Decidable p] (h : StatesSame a b) (k : StatesSame a c) :
    StatesSame a (if p then b else c) := by
  split
  · exact h
  · exact k

theorem forEach {α : Type} {f : α → Device → Device} (h : ∀ x d, StatesSame d (f x d)) (l : List α) (d : Device) :
    StatesSame d (forEach l f d) := by
  induction l generalizing d with
  | nil => exact refl d
  | cons x l ih => exact (h x d).trans (ih (f x d))

theorem of_changes {l : List Part} {d e : Device} (h : ChangesOnly l d e) (hl : .ribbons ∉ l := by simp) :
    StatesSame d e := fun r => by rw [h.ribbon_eq hl r]

theorem live {d e : Device} (h : StatesSame d e) {r : RibbonNo} : Live (e.ribbon r) ↔ Live (d.ribbon r) := by
  rw [Live, Live, h r]

end StatesSame

theorem setRibbon_states {d : Device} {r : RibbonNo} {x : Ribbon} (h : x.state = (d.ribbon r).state) :
    StatesSame d (d.setRibbon r x) := fun q => by
  rw [Device.ribbon_setRibbon]
  split
  · next hq => rw [h, hq]
  · rfl

theorem modRibbon_states {d : Device} {r : RibbonNo} {f : Ribbon → Ribbon}
    (h : ∀ x, (f x).state = x.state := by intro; rfl) : StatesSame d (d.modRibbon r f) := setRibbon_states (h _)

theorem evaluateDelay_states (r : RibbonNo) (d : Device) : StatesSame d (evaluateDelay r d) :=
  .ite (.refl d) ((StatesSame.of_changes (raise_changes _ _)).after (setRibbon_states rfl))

theorem joinRibbon_states (len : Nat) (r : RibbonNo) (d : Device) : StatesSame d (joinRibbon len r d) :=
  (evaluateDelay_states r _).after modRibbon_states

theorem appendEntry_states (b : EntryBody) (d : Device) : StatesSame d (appendEntry b d) :=
  (StatesSame.forEach (joinRibbon_states _) _ _).after (.of_changes (setTape_changes d _))

theorem releaseEntry_states (x : Entry) (d : Device) : StatesSame d (releaseEntry x d) := by
  have hfree (i : Slot) : StatesSame d (freeSlot i d) :=
    (StatesSame.forEach (fun r e => StatesSame.ite modRibbon_states (.refl e)) _ _).after
      (.of_changes (setSlot_changes d i _))
  unfold releaseEntry
  split
  · exact .ite (hfree _) (.refl d)
  · exact .refl d

theorem sweepTape_states (d : Device) : StatesSame d (sweepTape d) := by
  have hgone : StatesSame d (forEach (d.tape.entries.filter (fun x => x.pending.isEmpty)) releaseEntry
      (d.setTape { d.tape with entries := d.tape.entries.filter (fun x => !x.pending.isEmpty) })) :=
    (StatesSame.forEach releaseEntry_states _ _).after (.of_changes (setTape_changes d _))
  exact .ite (hgone.trans (.of_changes (raise_changes _ _))) hgone

/-! ## The tape after each operation -/

theorem tape_appendEntry (b : EntryBody) (d : Device) : (appendEntry b d).tape =
    ⟨d.tape.entries ++ [⟨d.tape.nextId, b, normalLength d b, pendingSet d b⟩], d.tape.nextId + 1⟩ :=
  ChangesOnly.forEach (joinRibbon_changes _) _ _ .tape (by simp)

theorem tape_sweepTape (d : Device) :
    (sweepTape d).tape = { d.tape with entries := d.tape.entries.filter (fun x => !x.pending.isEmpty) } := by
  have hgone : (forEach (d.tape.entries.filter (fun x => x.pending.isEmpty)) releaseEntry
      (d.setTape { d.tape with entries := d.tape.entries.filter (fun x => !x.pending.isEmpty) })).tape =
      { d.tape with entries := d.tape.entries.filter (fun x => !x.pending.isEmpty) } :=
    ChangesOnly.forEach releaseEntry_changes _ _ .tape (by simp)
  unfold sweepTape
  dsimp only
  split
  · exact Eq.trans (raise_changes _ _ .tape (by simp)) hgone
  · exact hgone

/-! ## What keeps the tape sound -/

/-- The tape is sound after when it was before. -/
structure TapeKept (d e : Device) : Prop where
  sound : TapeSound d → TapeSound e

theorem TapeKept.refl (d : Device) : TapeKept d d := ⟨id⟩

theorem TapeKept.trans {a b c : Device} (h : TapeKept a b) (k : TapeKept b c) : TapeKept a c := ⟨k.sound ∘ h.sound⟩

theorem TapeKept.after {a b c : Device} (k : TapeKept b c) (h : TapeKept a b) : TapeKept a c := h.trans k

theorem TapeKept.ite {a b c : Device} {p : Prop} [Decidable p] (h : p → TapeKept a b) (k : ¬p → TapeKept a c) :
    TapeKept a (if p then b else c) := by
  split
  · exact h ‹_›
  · exact k ‹_›

theorem TapeKept.forEach {α : Type} {f : α → Device → Device} (h : ∀ x d, TapeKept d (f x d)) (l : List α) (d : Device) :
    TapeKept d (forEach l f d) := by
  induction l generalizing d with
  | nil => exact .refl d
  | cons x l ih => exact (h x d).trans (ih _)

/-- The same tape, with no ribbon less live. -/
theorem TapeKept.of_live {d e : Device} (ht : e.tape = d.tape) (hr : ∀ r, Live (d.ribbon r) → Live (e.ribbon r)) :
    TapeKept d e := by
  refine ⟨fun h => ?_⟩
  rw [tapeSound_iff] at h ⊢
  rw [ht]
  exact ⟨h.1, h.2.1, fun x hx r hm => hr r (h.2.2 x hx r hm)⟩

theorem TapeKept.of_states {d e : Device} (ht : e.tape = d.tape) (hs : StatesSame d e) : TapeKept d e :=
  .of_live ht (fun _ => hs.live.2)

theorem TapeKept.of_changes {l : List Part} {d e : Device} (h : ChangesOnly l d e) (ht : .tape ∉ l := by simp)
    (hr : .ribbons ∉ l := by simp) : TapeKept d e := .of_states (h .tape ht) (.of_changes h hr)

theorem setRibbon_tapeKept {d : Device} {r : RibbonNo} {x : Ribbon} (h : Live (d.ribbon r) → Live x) :
    TapeKept d (d.setRibbon r x) := .of_live rfl fun q hq => by
  rw [Device.ribbon_setRibbon]
  split
  · next he => exact h (he ▸ hq)
  · exact hq

theorem modRibbon_tapeKept {d : Device} {r : RibbonNo} {f : Ribbon → Ribbon} (h : ∀ x, Live x → Live (f x)) :
    TapeKept d (d.modRibbon r f) := setRibbon_tapeKept (h _)

theorem mem_pendingSet {d : Device} {b : EntryBody} {r : RibbonNo} :
    r ∈ pendingSet d b ↔ (d.ribbon r).state = .running ∧ selects d r b = true := by
  simp [pendingSet, everyRibbon]

/-- A GAP is for every RUNNING ribbon, so for some whenever any entry is (R52, R53). -/
theorem pendingSet_gap_ne_nil {d : Device} {b : EntryBody} {n : Nat} (h : pendingSet d b ≠ []) :
    pendingSet d (.gap n) ≠ [] := by
  obtain ⟨r, hr⟩ := List.exists_mem_of_ne_nil _ h
  exact List.ne_nil_of_mem (mem_pendingSet.2 ⟨(mem_pendingSet.1 hr).1, rfl⟩)

theorem appendEntry_tapeKept {b : EntryBody} {d : Device} (hset : pendingSet d b ≠ [])
    (hroom : d.tape.entries.length ≤ 510 ∨ (d.tape.entries.length ≤ 511 ∧ b.isGap = true))
    (hcount : ∀ k, b = .gap k → 1 ≤ k ∧ k ≤ 65535) : TapeKept d (appendEntry b d) := by
  refine ⟨fun h => ?_⟩
  rw [tapeSound_iff] at h ⊢
  obtain ⟨hfit, hne, hlive⟩ := h
  rw [tape_appendEntry]
  refine ⟨hfit.append hroom hcount, fun x hx => ?_, fun x hx r hr => ?_⟩
  · obtain hx | hx := List.mem_append.1 hx
    · exact hne x hx
    · rw [List.mem_singleton.1 hx]
      exact hset
  · rw [(appendEntry_states b d).live]
    obtain hx | hx := List.mem_append.1 hx
    · exact hlive x hx r hr
    · rw [List.mem_singleton.1 hx] at hr
      exact .inl (mem_pendingSet.1 hr).1

theorem countGap_tapeKept (d : Device) : TapeKept d (d.setTape { d.tape with entries := countGap d.tape.entries }) := by
  refine ⟨fun h => ?_⟩
  rw [tapeSound_iff] at h ⊢
  obtain ⟨hfit, hne, hlive⟩ := h
  refine ⟨hfit.countGap, fun x hx => ?_, fun x hx r hr => ?_⟩
  · obtain ⟨y, hy, hyx⟩ := mem_countGap_pending hx
    exact hyx ▸ hne y hy
  · obtain ⟨y, hy, hyx⟩ := mem_countGap_pending hx
    exact hlive y hy r (hyx ▸ hr)

/-- An offer keeps the tape sound, in each of its outcomes (R52 to R55). -/
theorem offer_tapeKept {b : EntryBody} (d : Device) (hb : b.isGap = false) : TapeKept d (offer b d).1 := by
  unfold offer
  split
  · exact .refl d
  · next hset =>
    split
    · next hroom =>
      exact appendEntry_tapeKept hset (.inl hroom) (fun k hk => by rw [hk] at hb; cases hb)
    · split
      · exact (countGap_tapeKept d).trans (.of_changes (raise_changes _ _))
      · split
        · next hroom =>
          have hroom' : d.tape.entries.length ≤ 511 := Nat.le_of_lt_succ hroom
          exact (appendEntry_tapeKept (pendingSet_gap_ne_nil hset) (.inr ⟨hroom', rfl⟩)
            (fun k hk => by cases hk; omega)).trans (.of_changes (raise_changes _ _))
        · exact .refl d

/-- A sweep of entries that fit, whose pending sets name live ribbons alone, leaves the tape sound (R57). -/
theorem sweepTape_tapeSound {d : Device} (hfit : EntriesFit d.tape.entries d.tape.nextId)
    (hlive : PendingLive d d.tape.entries) : TapeSound (sweepTape d) := by
  rw [tapeSound_iff, tape_sweepTape]
  refine ⟨hfit.filter _, fun x hx => ?_, fun x hx r hr => ?_⟩
  · have := (List.mem_filter.1 hx).2
    simpa using this
  · rw [(sweepTape_states d).live]
    exact hlive x (List.mem_of_mem_filter hx) r hr

theorem entries_leaveEvery (r : RibbonNo) (d : Device) : (leaveEvery r d).tape =
    { d.tape with entries := d.tape.entries.map (fun x => { x with pending := x.pending.filter (· ≠ r) }) } := rfl

/-- A ribbon that has left every pending set may be in any state; the other ribbons have kept theirs. -/
theorem sweep_leaveEvery_tapeKept {d e : Device} (r : RibbonNo) (ht : e.tape = d.tape)
    (hs : ∀ q, q ≠ r → (e.ribbon q).state = (d.ribbon q).state) : TapeKept d (sweepTape (leaveEvery r e)) := by
  refine ⟨fun h => ?_⟩
  rw [tapeSound_iff] at h
  obtain ⟨hfit, _, hlive⟩ := h
  refine sweepTape_tapeSound ?_ fun x hx q hq => ?_
  · rw [entries_leaveEvery, ht]
    exact hfit.map (fun _ => rfl) (fun _ => rfl)
  · rw [entries_leaveEvery, ht] at hx
    obtain ⟨y, hy, rfl⟩ := List.mem_map.1 hx
    obtain ⟨hq, hne⟩ := List.mem_filter.1 hq
    have := hlive y hy q hq
    rwa [Live, ← hs q (of_decide_eq_true hne)] at this

theorem stopRibbon_tapeKept (r : RibbonNo) (d : Device) : TapeKept d (stopRibbon r d) := by
  refine sweep_leaveEvery_tapeKept r ?_ fun q hq => ?_
  · rw [reportStopped_changes _ r .tape (by simp)]
    split
    · exact raise_changes _ _ .tape (by simp)
    · rfl
  · rw [(reportStopped_changes _ r).ribbon_eq (by simp)]
    have hmod : (d.modRibbon r stoppedRibbon).ribbon q = d.ribbon q := Device.ribbon_setRibbon_other d r q _ hq
    split
    · rw [(raise_changes _ _).ribbon_eq (by simp), hmod]
    · rw [hmod]

theorem endDrain_tapeKept (r : RibbonNo) (d : Device) : TapeKept d (endDrain r d) :=
  (stopRibbon_tapeKept r d).trans (.of_changes (raise_changes _ _))

theorem sweep_leavePending_tapeKept {d e : Device} (r : RibbonNo) (id : Nat) (ht : e.tape = d.tape) (hs : StatesSame d e) :
    TapeKept d (sweepTape (leavePending r id e)) := by
  refine ⟨fun h => ?_⟩
  rw [tapeSound_iff] at h
  obtain ⟨hfit, _, hlive⟩ := h
  have htape : (leavePending r id e).tape = { d.tape with entries := d.tape.entries.map (fun x =>
      if x.id = id then { x with pending := x.pending.filter (· ≠ r) } else x) } := by rw [← ht]; rfl
  refine sweepTape_tapeSound ?_ fun x hx q hq => ?_
  · rw [htape]
    exact hfit.map (fun x => by split <;> rfl) (fun x => by split <;> rfl)
  · rw [htape] at hx
    obtain ⟨y, hy, rfl⟩ := List.mem_map.1 hx
    have hmem : q ∈ y.pending := by
      split at hq
      · exact List.mem_of_mem_filter hq
      · exact hq
    exact hs.live.2 (hlive y hy q hmem)

theorem finishEntry_tapeKept (r : RibbonNo) (id : Nat) (d : Device) : TapeKept d (finishEntry r id d) := by
  have hleft : TapeKept d (sweepTape (leavePending r id ((d.modRibbon r (fun x =>
      { x with current := none, phase := .separator, pos := 0, text := [] })).reportReached r id))) :=
    sweep_leavePending_tapeKept r id (reportReached_changes _ r id .tape (by simp))
      ((StatesSame.of_changes (reportReached_changes _ r id)).after modRibbon_states)
  exact .ite (fun _ => hleft.trans (endDrain_tapeKept r _)) (fun _ => hleft)

theorem beginEntry_tapeKept (r : RibbonNo) (y : Entry) (d : Device) : TapeKept d (beginEntry r y d) := by
  refine .of_states (beginEntry_changes r y d .tape (by simp)) ?_
  have hstart : StatesSame d (evaluateDelay r (d.modRibbon r (fun x =>
      { x with current := some y.id, backlog := x.backlog - y.normalLength }))) :=
    (evaluateDelay_states r _).after modRibbon_states
  exact hstart.trans (setRibbon_states rfl)

theorem shift_modRibbon_tapeKept {r : RibbonNo} {c : Byte} {f : Ribbon → Ribbon} {d : Device}
    (h : ∀ x, (f x).state = x.state := by intro; rfl) : TapeKept d ((shift r c d).modRibbon r f) :=
  .of_states rfl ((modRibbon_states h).after modRibbon_states)

theorem textCharacter_tapeKept (r : RibbonNo) (d : Device) : TapeKept d (textCharacter r d) := by
  refine .ite (fun _ => shift_modRibbon_tapeKept) fun _ => ?_
  split
  · exact (finishEntry_tapeKept r _ _).after (modRibbon_tapeKept (fun _ => id))
  · exact shift_modRibbon_tapeKept

theorem markerCharacter_tapeKept (r : RibbonNo) (d : Device) : TapeKept d (markerCharacter r d) :=
  .ite (fun _ => shift_modRibbon_tapeKept) (fun _ => shift_modRibbon_tapeKept)

theorem idleCharacter_tapeKept (r : RibbonNo) (d : Device) : TapeKept d (idleCharacter r d) := by
  unfold idleCharacter
  split
  · exact modRibbon_tapeKept (fun _ => id)
  · exact .ite (fun _ => (beginEntry_tapeKept r _ d).trans (markerCharacter_tapeKept r _))
      (fun _ => (beginEntry_tapeKept r _ d).trans (textCharacter_tapeKept r _))

theorem characterWork_tapeKept (r : RibbonNo) (d : Device) : TapeKept d (characterWork r d) := by
  refine .ite (fun _ => modRibbon_tapeKept (fun _ => id)) fun _ => ?_
  split
  · exact idleCharacter_tapeKept r d
  · exact markerCharacter_tapeKept r d
  · exact textCharacter_tapeKept r d
  · exact .ite (fun _ => shift_modRibbon_tapeKept) (fun _ => shift_modRibbon_tapeKept)

theorem pacing_tapeKept (r : RibbonNo) (d : Device) : TapeKept d (pacing r d) := by
  have hset (x : Ribbon) (h : x.state = (d.ribbon r).state) : TapeKept d (d.setRibbon r x) :=
    .of_states rfl (setRibbon_states h)
  exact .ite (fun _ => .ite (fun _ => (characterWork_tapeKept r _).after (hset _ rfl)) (fun _ => hset _ rfl))
    (fun _ => .refl d)

theorem RibbonWork.tapeKept {w : Device → Device × Answer} (h : RibbonWork w) (d : Device) : TapeKept d (w d).1 := by
  cases h with
  | bulletin f => exact offer_tapeKept d rfl
  | setup f =>
    unfold setupRibbon
    dsimp only
    split
    · exact .refl d
    · exact setRibbon_tapeKept id
  | start r =>
    unfold startRibbon
    dsimp only
    split
    · exact .refl d
    · next hstopped =>
      refine setRibbon_tapeKept fun hlive => ?_
      rw [Live, not_not.1 hstopped] at hlive
      simp at hlive
  | stop f =>
    unfold stopByMode stopImmediate stopDrain
    dsimp only
    split
    · split
      · exact .refl d
      · exact stopRibbon_tapeKept _ d
    · split
      · exact .refl d
      · exact .refl d
      · exact endDrain_tapeKept _ d
      · split
        · exact endDrain_tapeKept _ d
        · exact setRibbon_tapeKept (fun _ => .inr rfl)
  | align g => exact TapeKept.forEach (fun r e => modRibbon_tapeKept (fun _ _ => .inl rfl)) _ d

/-! ## The market, the restart and the step -/

theorem marks_changes (i : Slot) (l : List RowNo) (d : Device) :
    ChangesOnly [.rows, .segments, .terminals, .dealers] d (markPages i (markRows l d)) :=
  (markRows_changes l d).andThen (markPages_changes i _) (by simp) (by simp)

theorem marks_tapeKept (i : Slot) (l : List RowNo) (d : Device) : TapeKept d (markPages i (markRows l d)) :=
  .of_changes (marks_changes i l d)

theorem writeRecord_tapeKept (i : Slot) (x : Record) (d : Device) : TapeKept d (writeRecord i x d) :=
  .of_changes (writeRecord_changes i x d)

theorem tradeHandOffs_tapeKept (t : TradeItem) (d : Device) : TapeKept d (tradeHandOffs t d) := by
  have hoffer : TapeKept d (if t.onTape then offerEntry (.print t.slot t.price t.shares) d else d) :=
    .ite (fun _ => offer_tapeKept d rfl) (fun _ => .refl d)
  have hmarks (e : Device) : TapeKept e (markPages t.slot (markRows (e.slot t.slot).boundRows e)) := marks_tapeKept _ _ e
  exact TapeKept.ite (fun _ => hoffer.trans (hmarks _))
    (fun _ => (hoffer.trans (hmarks _)).trans (.of_changes (evaluateWatches_changes _ _ _)))

theorem applyTrade_tapeKept (t : TradeItem) (d : Device) : TapeKept d (applyTrade t d) :=
  (writeRecord_tapeKept _ _ d).trans (tradeHandOffs_tapeKept t _)

theorem applyItems_tapeKept (l : List TradeItem) (n : Nat) (d : Device) : TapeKept d (applyItems l n d).1 := by
  induction l generalizing n d with
  | nil => exact .refl d
  | cons t l ih =>
    unfold applyItems
    split
    · exact .refl d
    · exact (applyTrade_tapeKept t d).trans (ih _ _)

theorem amendHandOffs_tapeKept (f : AmendFields) (x y : Record) (d : Device) : TapeKept d (amendHandOffs f x y d) := by
  have hoffer : TapeKept d (match f.print, y.last with
      | true, some p => offerEntry (.corr f.slot p) d
      | _, _ => d) := by
    split
    · exact offer_tapeKept d rfl
    · exact .refl d
  exact TapeKept.ite (fun _ => (hoffer.trans (marks_tapeKept _ _ _)).trans (.of_changes (evaluateWatches_changes _ _ _)))
    (fun _ => hoffer.trans (marks_tapeKept _ _ _))

theorem delistSlot_tapeKept (i : Slot) (d : Device) : TapeKept d (delistSlot i d).1 := by
  have hw : TapeKept d (withdrawn i d) := .of_changes (withdrawn_changes i d)
  cases hl : isListed (d.slot i).state with
  | false =>
    rw [delistSlot_of_not_listed hl]
    exact .refl d
  | true =>
    cases hn : tapeNames d i with
    | true =>
      rw [delistSlot_named hl hn]
      dsimp only
      exact hw
    | false =>
      rw [delistSlot_unnamed hl hn]
      dsimp only
      have hfree (e : Device) : StatesSame e (freeSlot i e) :=
        (StatesSame.forEach (fun r b => StatesSame.ite modRibbon_states (.refl b)) _ _).after
          (.of_changes (setSlot_changes e i _))
      exact hw.trans (.of_states (freeSlot_changes i _ .tape (by simp)) (hfree _))

theorem dayRollStore_changes (d : Device) :
    ChangesOnly [.slots, .reservation, .rows, .segments, .terminals, .dealers, .watches] d (dayRollStore () d).1 := by
  have hroll (i : Slot) (e : Device) :
      ChangesOnly [.slots, .reservation, .rows, .segments, .terminals, .dealers, .watches] e (rollSlot i e) :=
    (writeRecord_changes i (rolledRecord (e.slot i)) e).andThen (marks_changes i _ _) (by simp) (by simp)
  have hrolled : ChangesOnly [.slots, .reservation, .rows, .segments, .terminals, .dealers, .watches] d
      (forEach (listedSlots d) rollSlot (endReservation d)) :=
    ((endReservation_changes d).mono (by simp)).trans (.forEach hroll _ _)
  exact hrolled.trans ((setWatches_changes _ _).mono (by simp))

theorem MarketWork.tapeKept {w : Device → Device × Answer} (h : MarketWork w) (d : Device) : TapeKept d (w d).1 := by
  cases h with
  | list f =>
    unfold listInstrument
    split
    · exact .refl d
    · split
      · exact .refl d
      · exact .of_changes ((setSlot_changes d _ _).andThen (setDirectory_changes _ _) (n := [.slots, .directory])
          (by simp) (by simp))
  | delist i => exact delistSlot_tapeKept i d
  | trade t =>
    unfold tradeOne
    split
    · exact .refl d
    · exact applyTrade_tapeKept t d
  | block l => exact applyItems_tapeKept l 0 d
  | quote f =>
    unfold quoteSlot
    dsimp only
    split
    · exact .refl d
    · dsimp only
      exact (writeRecord_tapeKept _ _ d).trans (marks_tapeKept _ _ _)
  | setState f =>
    unfold Machine.setState
    dsimp only
    split
    · exact .refl d
    · dsimp only
      have hoffer (b : EntryBody) (hb : b.isGap = false) (e : Device) : TapeKept e (offerEntry b e) := offer_tapeKept e hb
      exact ((writeRecord_tapeKept _ _ d).trans (hoffer _ rfl _)).trans (marks_tapeKept _ _ _)
  | fetch f =>
    have hfetch (i : Slot) (reserve : Bool) : TapeKept d (fetchSlot i reserve d).1 := by
      unfold fetchSlot
      split
      · exact .refl d
      · exact .ite (fun _ => .of_changes (setChannel_changes d _)) (fun _ => .refl d)
    unfold fetchTarget
    split
    · exact hfetch _ _
    · split
      · exact hfetch _ _
      · exact .refl d
  | amend f =>
    have hended : TapeKept d (endReservation d) := .of_changes (endReservation_changes d)
    unfold amendSlot
    dsimp only
    split
    · exact hended
    · split
      · exact hended
      · exact (hended.trans (writeRecord_tapeKept _ _ _)).trans (amendHandOffs_tapeKept _ _ _ _)
  | amendRefused a => exact .of_changes (endReservation_changes d)
  | dayRoll => exact .of_changes (dayRollStore_changes d)

theorem BoardWork.changes {w : Device → Device × Answer} (h : BoardWork w) (d : Device) :
    ChangesOnly (.slots :: .layouts :: boardParts) d (w d).1 := by
  cases h with
  | segmentSetup f => exact (setupSegment_changes f d).mono (by simp)
  | layout f => exact (replaceLayout_changes f d).mono (by simp)
  | bind f => exact (bindRow_changes f d).mono (by simp)
  | unbind r => exact (unbindRow_changes r d).mono (by simp)
  | rowClear r => exact (clearRow_changes r d).mono (by simp)
  | rowSetup f => exact (setupRow_changes f d).mono (by simp)
  | exercise f => exact (startExercise_changes f d).mono (by simp)

theorem restartTerminal_changes (t : LineNo) (d : Device) : ChangesOnly [.terminals, .dealers] d (restartTerminal t d) := by
  have hcleared : ChangesOnly [.terminals, .dealers] d ((d.modTerminal t restartedTerminal).modDealer t
      (fun y => { y with alerts := [], forward := [] })) :=
    (modTerminal_changes d t _).andThen (modDealer_changes _ t _) (by simp) (by simp)
  exact .ite (hcleared.trans (oweRedraw_changes t _)) hcleared

/-- The parts a RESTART reaches after the store and the tape. -/
theorem restartAll_changes_tape (d : Device) :
    ChangesOnly [.rows, .segments, .lines, .terminals, .dealers, .link, .reservation, .settle, .notices]
      (restartTape (restartStore d)) (restartAll d) := by
  have hchannel (e : Device) : ChangesOnly [.link, .reservation, .settle, .notices] e ((restartChannel e).setNotices []) :=
    (setChannel_changes e _).andThen (setNotices_changes _ _) (by simp) (by simp)
  exact (((ChangesOnly.forEach restartSegment_changes everySegment _).mono (by simp)).trans
    ((ChangesOnly.forEach restartRow_changes everyRow _).mono (by simp))).trans
    (((ChangesOnly.forEach restartTerminal_changes everyLine _).mono (by simp)).trans ((hchannel _).mono (by simp)))

theorem restartAll_tapeKept (d : Device) : TapeKept d (restartAll d) := by
  refine TapeKept.after (.of_changes (restartAll_changes_tape d)) ⟨fun _ => ?_⟩
  rw [tapeSound_iff, tape_restartTape]
  exact ⟨⟨Nat.zero_le _, Nat.zero_le _, nofun, fun _ h => absurd h List.not_mem_nil, List.Pairwise.nil,
    fun _ h => absurd h List.not_mem_nil⟩, fun _ h => absurd h List.not_mem_nil, fun _ h => absurd h List.not_mem_nil⟩

theorem tape_stepLaw : StepLaw TapeKept where
  refl := .refl
  link h k l := (TapeKept.of_changes h).trans (k.trans (.of_changes l))
  reset d := ⟨fun _ => (TapeKept.of_changes (powerOnAgain_changes d)).sound tapeSound_powerOn⟩
  raises l d := .of_changes (foldl_raise_changes l d)
  forwarded t d := .of_changes (modDealer_changes d t _)
  pacing := pacing_tapeKept
  board h d := .of_changes (h.changes d)
  terminal h d := .of_changes (h.changes d)
  marketWork h d := h.tapeKept d
  ribbonWork h d := h.tapeKept d
  boardWork h d := .of_changes (h.changes d)
  terminalWork h d := .of_changes (h.changes d)
  collect d := .of_changes (collectNotice_changes d)
  settle d := .of_changes (settleNow_changes d)
  restart := restartAll_tapeKept

/-- Settles O33: only an offer, a ribbon's work and a restart reach the tape or a ribbon's state. -/
theorem everyStepKeepsTheTapeSound : Obligations.EveryStepKeepsTheTapeSound := fun _ _ h => (tape_stepLaw.step h).sound

end Sys2Proof.Machine
end


section
/-! PROOFS. The shared operations of the board controller, row by row and segment by segment: marks and the repaint queue
(R94, R95), the exercise (R125, R126), the entry into DOWN and FAULTED (R93), motion and completion (R100, R101). -/

namespace Sys2Proof.Machine

/-! ## Lists without doubles -/

theorem filter_eraseDups {α : Type} [BEq α] [LawfulBEq α] (p : α → Bool) :
    ∀ (n : Nat) (l : List α), l.length ≤ n → l.eraseDups.filter p = (l.filter p).eraseDups := by
  intro n
  induction n with
  | zero =>
    intro l hl
    rw [List.length_eq_zero_iff.1 (Nat.le_zero.1 hl)]
    rfl
  | succ n ih =>
    intro l hl
    cases l with
    | nil => rfl
    | cons a l =>
      have hshort : (l.filter (fun b => !b == a)).length ≤ n :=
        (List.length_filter_le _ l).trans (Nat.le_of_succ_le_succ hl)
      rw [List.eraseDups_cons, List.filter_cons, List.filter_cons, ih _ hshort, List.filter_filter]
      split
      · rw [List.eraseDups_cons, List.filter_filter]
        simp only [Bool.and_comm]
      · next ha =>
        congr 1
        refine List.filter_congr fun b hb => ?_
        by_cases hba : b = a
        · rw [hba]
          simp [ha]
        · simp [hba]

theorem eraseDups_of_nodup {α : Type} [BEq α] [LawfulBEq α] {l : List α} (h : l.Nodup) : l.eraseDups = l := by
  induction l with
  | nil => rfl
  | cons a l ih =>
    obtain ⟨ha, hl⟩ := List.nodup_cons.1 h
    have hfilter : l.filter (fun b => !b == a) = l :=
      List.filter_eq_self.2 fun b hb => by simp [show b ≠ a from fun e => ha (e ▸ hb)]
    rw [List.eraseDups_cons, hfilter, ih hl]

/-! ## Units and segments -/

theorem onSegment_eq_any (x : Row) (g : SegNo) : x.onSegment g = x.rowUnit.any (fun u => u.segment == g) := by
  unfold Row.onSegment
  split
  · next h => rw [h]; rfl
  · next h => rw [h]; rfl

theorem onSegment_of_unit {x : Row} {u : RowUnit} (h : x.rowUnit = some u) : x.onSegment u.segment = true := by
  rw [onSegment_eq_any, h]
  simp

theorem onSegment_iff {x : Row} {g : SegNo} : x.onSegment g = true ↔ ∃ u, x.rowUnit = some u ∧ u.segment = g := by
  rw [onSegment_eq_any, Option.any_eq_true]
  simp

theorem onSegment_unique {x : Row} {g h : SegNo} (hg : x.onSegment g = true) (hh : x.onSegment h = true) : g = h := by
  obtain ⟨u, hu, rfl⟩ := onSegment_iff.1 hg
  obtain ⟨v, hv, rfl⟩ := onSegment_iff.1 hh
  cases hu.symm.trans hv
  rfl

/-! ## The repaint queue (R95) -/

theorem row_modRow (d : Device) (r q : RowNo) (f : Row → Row) :
    (d.modRow r f).row q = if q = r then f (d.row r) else d.row q := by
  rw [Device.modRow_eq, Device.row_setRow]

theorem segment_modSegment (d : Device) (g h : SegNo) (f : Segment → Segment) :
    (d.modSegment g f).segment h = if h = g then f (d.segment g) else d.segment h := by
  rw [Device.modSegment_eq, Device.segment_setSegment]

theorem line_modLine (d : Device) (g h : SegNo) (f : BoardLine → BoardLine) :
    (d.modLine g f).line h = if h = g then f (d.line g) else d.line h := by
  rw [Device.modLine_eq, Device.line_setLine]

theorem row_enqueueRow (r q : RowNo) (d : Device) : (enqueueRow r d).row q =
    if q = r ∧ (d.row r).rowUnit ≠ none then { d.row r with display := .queued } else d.row q := by
  unfold enqueueRow
  split
  · next h => simp [h]
  · next u h =>
    rw [Device.modSegment_eq, Device.row_setSegment, row_modRow]
    simp [h]

theorem segment_enqueueRow (r : RowNo) (g : SegNo) (d : Device) : (enqueueRow r d).segment g =
    { d.segment g with queue := (d.segment g).queue ++ if (d.row r).onSegment g then [r] else [] } := by
  unfold enqueueRow
  split
  · next h => simp [Row.onSegment, h]
  · next u h =>
    rw [segment_modSegment]
    by_cases hg : g = u.segment
    · subst hg
      simp [onSegment_of_unit h, Device.modRow_eq]
    · have hoff : (d.row r).onSegment g = false := by simp [onSegment_eq_any, h, Ne.symm hg]
      simp [hg, hoff, Device.modRow_eq]

theorem row_dequeueRow (r q : RowNo) (d : Device) : (dequeueRow r d).row q = d.row q :=
  (dequeueRow_changes r d).row_eq (by simp) q

theorem segment_dequeueRow (r : RowNo) (g : SegNo) (d : Device) : (dequeueRow r d).segment g =
    { d.segment g with
      queue := if (d.row r).onSegment g then (d.segment g).queue.filter (fun q => q ≠ r) else (d.segment g).queue } := by
  unfold dequeueRow
  split
  · next h => simp [Row.onSegment, h]
  · next u h =>
    rw [segment_modSegment]
    by_cases hg : g = u.segment
    · subst hg
      simp [onSegment_of_unit h]
    · have hoff : (d.row r).onSegment g = false := by simp [onSegment_eq_any, h, Ne.symm hg]
      simp [hg, hoff]

/-! ## Marks (R94) -/

theorem markRow_of_clean {r : RowNo} {d : Device} (h : (d.row r).display = .clean) :
    markRow r d = enqueueRow r (d.modRow r (fun x => { x with lampOffOwed := false })) := by
  unfold markRow
  rw [h]

/-- A row whose repaint is under way is to be painted again (R94). -/
theorem markRow_of_painting {r : RowNo} {d : Device} (h : (d.row r).display = .sending ∨ (d.row r).display = .moving) :
    markRow r d = d.setRow r { d.row r with again := true } := by
  unfold markRow
  obtain h | h := h <;> rw [h] <;> rfl

theorem markRow_of_waiting {r : RowNo} {d : Device}
    (h : (d.row r).display = .queued ∨ (d.row r).display = .down ∨ (d.row r).display = .faulted) : markRow r d = d := by
  unfold markRow
  obtain h | h | h := h <;> rw [h]

theorem markedRow_of_clean {x : Row} (h : x.display = .clean) :
    markedRow x = { x with display := if x.rowUnit = none then .clean else .queued, lampOffOwed := false } := by
  unfold markedRow
  rw [h]

theorem markedRow_of_painting {x : Row} (h : x.display = .sending ∨ x.display = .moving) :
    markedRow x = { x with again := true } := by
  unfold markedRow
  obtain h | h := h <;> simp [h]

theorem markedRow_of_waiting {x : Row} (h : x.display = .queued ∨ x.display = .down ∨ x.display = .faulted) :
    markedRow x = x := by
  unfold markedRow
  obtain h | h | h := h <;> simp [h]

/-- The three kinds of display a mark tells apart. -/
theorem display_cases (s : Display) : s = .clean ∨ (s = .sending ∨ s = .moving) ∨ (s = .queued ∨ s = .down ∨ s = .faulted) := by
  cases s <;> simp

theorem row_markRow (r q : RowNo) (d : Device) :
    (markRow r d).row q = if q = r then markedRow (d.row r) else d.row q := by
  obtain h | h | h := display_cases (d.row r).display
  · rw [markRow_of_clean h, markedRow_of_clean h, row_enqueueRow, row_modRow, row_modRow]
    by_cases hq : q = r
    · subst hq
      by_cases hu : (d.row q).rowUnit = none <;> simp [hu, h]
    · simp [hq]
  · rw [markRow_of_painting h, markedRow_of_painting h, Device.row_setRow]
  · rw [markRow_of_waiting h, markedRow_of_waiting h]
    split
    · next hq => rw [hq]
    · rfl

theorem joining_singleton (d : Device) (g : SegNo) (r : RowNo) :
    joining d g [r] = if (d.row r).display = .clean ∧ (d.row r).onSegment g = true then [r] else [] := by
  unfold joining
  rw [List.filter_singleton, onSegment_eq_any]
  simp

theorem segment_markRow (r : RowNo) (g : SegNo) (d : Device) : (markRow r d).segment g =
    { d.segment g with queue := (d.segment g).queue ++ joining d g [r] } := by
  rw [joining_singleton]
  obtain h | h | h := display_cases (d.row r).display
  · have hon : ({ d.row r with lampOffOwed := false } : Row).onSegment g = (d.row r).onSegment g := rfl
    rw [markRow_of_clean h, segment_enqueueRow, Device.modRow_eq, Device.row_setRow_same, hon, Device.segment_setRow]
    simp [h]
  · have hclean : (d.row r).display ≠ .clean := by obtain h | h := h <;> simp [h]
    simp [markRow_of_painting h, hclean]
  · have hclean : (d.row r).display ≠ .clean := by obtain h | h | h := h <;> simp [h]
    simp [markRow_of_waiting h, hclean]

theorem rowUnit_markedRow (x : Row) : (markedRow x).rowUnit = x.rowUnit := by
  unfold markedRow
  split <;> rfl

theorem onSegment_markedRow (x : Row) (g : SegNo) : (markedRow x).onSegment g = x.onSegment g := by
  rw [onSegment_eq_any, onSegment_eq_any, rowUnit_markedRow]

/-- A second mark adds nothing to the first. -/
theorem markedRow_markedRow (x : Row) : markedRow (markedRow x) = markedRow x := by
  obtain h | h | h := display_cases x.display
  · rw [markedRow_of_clean h]
    by_cases hu : x.rowUnit = none
    · rw [if_pos hu, markedRow_of_clean rfl, if_pos hu]
    · rw [if_neg hu, markedRow_of_waiting (.inl rfl)]
  · rw [markedRow_of_painting h, markedRow_of_painting (x := { x with again := true }) h]
  · rw [markedRow_of_waiting h, markedRow_of_waiting h]

/-- A marked row that has a unit is not CLEAN. -/
theorem not_clean_markedRow {x : Row} {g : SegNo} (h : x.onSegment g = true) : (markedRow x).display ≠ .clean := by
  obtain ⟨u, hu, _⟩ := onSegment_iff.1 h
  unfold markedRow
  cases hx : x.display <;> simp [hx, hu]

theorem row_markRows (l : List RowNo) (q : RowNo) (d : Device) :
    (markRows l d).row q = if q ∈ l then markedRow (d.row q) else d.row q := by
  unfold markRows
  induction l generalizing d with
  | nil => simp [forEach]
  | cons r l ih =>
    rw [forEach_cons, ih, row_markRow]
    by_cases hq : q = r
    · subst hq
      simp [markedRow_markedRow]
    · simp [hq]

/-- After a mark of r the rows that would join are the same but for r. -/
theorem joining_markRow (r : RowNo) (g : SegNo) (l : List RowNo) (d : Device) :
    joining (markRow r d) g l = joining d g (l.filter (fun q => !q == r)) := by
  unfold joining
  rw [List.filter_filter]
  refine List.filter_congr fun q _ => ?_
  rw [row_markRow]
  by_cases hq : q = r
  · subst hq
    rw [if_pos rfl, ← onSegment_eq_any, onSegment_markedRow, beq_self_eq_true, Bool.not_true, Bool.and_false,
      Bool.and_eq_false_iff]
    cases hon : (d.row q).onSegment g with
    | false => exact .inr rfl
    | true => exact .inl (by simpa using not_clean_markedRow hon)
  · simp [hq]

theorem joining_cons (d : Device) (g : SegNo) (r : RowNo) (l : List RowNo) :
    joining d g (r :: l) = joining d g [r] ++ joining d g l := by
  unfold joining
  rw [← List.filter_append]
  rfl

theorem segment_markRows (l : List RowNo) (g : SegNo) (d : Device) : (markRows l d).segment g =
    { d.segment g with queue := (d.segment g).queue ++ joining d g l.eraseDups } := by
  unfold markRows
  induction l generalizing d with
  | nil => simp [forEach, joining]
  | cons r l ih =>
    rw [forEach_cons, ih, segment_markRow, joining_markRow, filter_eraseDups _ _ _ le_rfl, List.eraseDups_cons,
      joining_cons d g r (List.eraseDups _)]
    simp

theorem markedRow_binding (x : Row) (b : Option Slot) :
    markedRow { x with binding := b } = { markedRow x with binding := b } := by
  obtain h | h | h := display_cases x.display
  · rw [markedRow_of_clean h, markedRow_of_clean (x := { x with binding := b }) h]
  · rw [markedRow_of_painting h, markedRow_of_painting (x := { x with binding := b }) h]
  · rw [markedRow_of_waiting h, markedRow_of_waiting (x := { x with binding := b }) h]

theorem row_unbindAndMark (r q : RowNo) (d : Device) : (unbindAndMark r d).row q =
    if q = r then { markedRow (d.row r) with binding := none } else d.row q := by
  rw [unbindAndMark, row_markRow, row_modRow, row_modRow, if_pos rfl, markedRow_binding]
  split <;> rfl

/-- A change of a row that keeps its display and its unit does not change which rows would join. -/
theorem joining_congr {d e : Device} {g : SegNo} (h : ∀ q, (e.row q).display = (d.row q).display ∧
    (e.row q).rowUnit = (d.row q).rowUnit) (l : List RowNo) : joining e g l = joining d g l := by
  unfold joining
  refine List.filter_congr fun q _ => ?_
  rw [(h q).1, (h q).2]

theorem segment_unbindAndMark (r : RowNo) (g : SegNo) (d : Device) : (unbindAndMark r d).segment g =
    { d.segment g with queue := (d.segment g).queue ++ joining d g [r] } := by
  have hsame (q : RowNo) : ((d.modRow r (fun x => { x with binding := none })).row q).display = (d.row q).display ∧
      ((d.modRow r (fun x => { x with binding := none })).row q).rowUnit = (d.row q).rowUnit := by
    rw [row_modRow]
    split
    · next h => rw [h]; exact ⟨rfl, rfl⟩
    · exact ⟨rfl, rfl⟩
  rw [unbindAndMark, segment_markRow, joining_congr hsame, Device.modRow_eq, Device.segment_setRow]

theorem row_forEach_unbindAndMark (l : List RowNo) (q : RowNo) (d : Device) :
    (forEach l unbindAndMark d).row q = if q ∈ l then { markedRow (d.row q) with binding := none } else d.row q := by
  induction l generalizing d with
  | nil => simp [forEach]
  | cons r l ih =>
    rw [forEach_cons, ih, row_unbindAndMark]
    by_cases hq : q = r
    · subst hq
      simp [markedRow_binding, markedRow_markedRow]
    · simp [hq]

theorem segment_forEach_unbindAndMark (l : List RowNo) (g : SegNo) (d : Device) : (forEach l unbindAndMark d).segment g =
    { d.segment g with queue := (d.segment g).queue ++ joining d g l.eraseDups } := by
  induction l generalizing d with
  | nil => simp [forEach, joining]
  | cons r l ih =>
    have hmarked : joining (unbindAndMark r d) g l.eraseDups = joining (markRow r d) g l.eraseDups :=
      joining_congr (fun q => by
        rw [row_unbindAndMark, row_markRow]
        split <;> exact ⟨rfl, rfl⟩) _
    rw [forEach_cons, ih, segment_unbindAndMark, hmarked, joining_markRow, filter_eraseDups _ _ _ le_rfl,
      List.eraseDups_cons, joining_cons d g r (List.eraseDups _)]
    simp

end Sys2Proof.Machine
end


section
/-! PROOFS. The end of an exercise (R125, R126), the entry into DOWN and FAULTED (R93), and the motion of a row (R100, R101),
row by row and segment by segment. -/

namespace Sys2Proof.Machine

/-! ## Reports to the settle record (R176, R177) -/

/-- The settle record after the check for its completion (R177). -/
def settleChecked (x : Settle) : Settle :=
  if x.rowsStillOwing = 0 ∧ x.unsettled = [] then { x with outstanding := false, result := settleResult x } else x

theorem settleCheck_of_paid {d : Device} (h : d.channel.settle.rowsStillOwing = 0 ∧ d.channel.settle.unsettled = []) :
    d.settleCheck =
      (d.modSettle (fun x => { x with outstanding := false, result := settleResult x })).raise .settled := if_pos h

theorem settleCheck_of_owing {d : Device} (h : ¬ (d.channel.settle.rowsStillOwing = 0 ∧ d.channel.settle.unsettled = [])) :
    d.settleCheck = d := if_neg h

theorem settle_settleCheck (d : Device) : d.settleCheck.channel.settle = settleChecked d.channel.settle := by
  unfold settleChecked
  split
  · next h =>
    rw [settleCheck_of_paid h]
    exact raise_changes _ _ .settle (by simp)
  · next h => rw [settleCheck_of_owing h]

theorem mem_settleCheck (d : Device) (n : Notice) : n ∈ d.settleCheck.notices ↔
    n ∈ d.notices ∨ n = .settled ∧ d.channel.settle.rowsStillOwing = 0 ∧ d.channel.settle.unsettled = [] := by
  by_cases h : d.channel.settle.rowsStillOwing = 0 ∧ d.channel.settle.unsettled = []
  · rw [settleCheck_of_paid h, mem_raise]
    exact ⟨fun k => k.symm.imp id (fun e => ⟨e, h⟩), fun k => k.symm.imp (·.1) id⟩
  · rw [settleCheck_of_owing h]
    exact ⟨.inl, fun k => k.resolve_right fun e => h e.2⟩

theorem settle_settleReport (d : Device) (f : Settle → Settle) : (d.settleReport f).channel.settle =
    if d.channel.settle.outstanding then settleChecked (f d.channel.settle) else d.channel.settle := by
  unfold Device.settleReport
  split
  · exact settle_settleCheck _
  · rfl

theorem mem_settleReport (d : Device) (f : Settle → Settle) (n : Notice) : n ∈ (d.settleReport f).notices ↔
    n ∈ d.notices ∨ d.channel.settle.outstanding = true ∧
      n = .settled ∧ (f d.channel.settle).rowsStillOwing = 0 ∧ (f d.channel.settle).unsettled = [] := by
  unfold Device.settleReport
  split
  · next h =>
    rw [mem_settleCheck]
    simp only [h, true_and]
    rfl
  · next h => simp [h]

/-- Devices with the same settle record keep it the same under a report. -/
theorem settle_reportNotShown_congr {d e : Device} (h : e.channel.settle = d.channel.settle) :
    e.reportNotShown.channel.settle = d.reportNotShown.channel.settle := by
  rw [Device.reportNotShown, settle_settleReport, h, Device.reportNotShown, settle_settleReport]

theorem settle_reportShown_congr {d e : Device} (h : e.channel.settle = d.channel.settle) :
    e.reportShown.channel.settle = d.reportShown.channel.settle := by
  rw [Device.reportShown, settle_settleReport, h, Device.reportShown, settle_settleReport]

/-! ## The end of an exercise (R126) -/

/-- A PASSED row when its exercise ends: lamp-off owed is cleared, and a CLEAN row is queued (R126). -/
def passedRow (x : Row) : Row :=
  { x with lampOffOwed := false, display := if x.display == .clean then .queued else x.display }

theorem releasePassed_of_clean {r : RowNo} {d : Device} (h : (d.row r).display = .clean) :
    releasePassed r d = enqueueRow r (d.modRow r (fun x => { x with lampOffOwed := false })) := by
  refine if_pos ?_
  rw [row_modRow, if_pos rfl]
  exact h

theorem releasePassed_of_not_clean {r : RowNo} {d : Device} (h : (d.row r).display ≠ .clean) :
    releasePassed r d = d.modRow r (fun x => { x with lampOffOwed := false }) := by
  refine if_neg ?_
  rw [row_modRow, if_pos rfl]
  exact h

theorem row_releasePassed {r : RowNo} {g : SegNo} {d : Device} (h : (d.row r).onSegment g = true) (q : RowNo) :
    (releasePassed r d).row q = if q = r then passedRow (d.row r) else d.row q := by
  obtain ⟨u, hu, -⟩ := onSegment_iff.1 h
  by_cases hc : (d.row r).display = .clean
  · rw [releasePassed_of_clean hc, row_enqueueRow, row_modRow, row_modRow, if_pos rfl]
    by_cases hq : q = r
    · simp [hq, hu, passedRow, hc]
    · simp [hq]
  · rw [releasePassed_of_not_clean hc, row_modRow]
    simp [passedRow, hc]

theorem segment_releasePassed {r : RowNo} {g : SegNo} {d : Device} (h : (d.row r).onSegment g = true) (k : SegNo) :
    (releasePassed r d).segment k =
      { d.segment k with
        queue := (d.segment k).queue ++ if k = g ∧ (d.row r).display = .clean then [r] else [] } := by
  by_cases hc : (d.row r).display = .clean
  · have hon : ({ d.row r with lampOffOwed := false } : Row).onSegment k = decide (k = g) := by
      by_cases hk : k = g
      · rw [hk, decide_eq_true rfl]
        exact h
      · rw [decide_eq_false hk, ← Bool.not_eq_true]
        exact fun hkr => hk (onSegment_unique hkr h)
    rw [releasePassed_of_clean hc, segment_enqueueRow, row_modRow, if_pos rfl, hon]
    simp [hc, Device.modRow_eq]
  · rw [releasePassed_of_not_clean hc]
    simp [hc, Device.modRow_eq]

theorem row_forEach_releasePassed {g : SegNo} {l : List RowNo} {d : Device} (hl : l.Nodup)
    (hon : ∀ r ∈ l, (d.row r).onSegment g = true) (q : RowNo) :
    (forEach l releasePassed d).row q = if q ∈ l then passedRow (d.row q) else d.row q := by
  induction l generalizing d with
  | nil => simp [forEach]
  | cons r l ih =>
    obtain ⟨hr, hl⟩ := List.nodup_cons.1 hl
    have hrow := row_releasePassed (hon r (by simp))
    have hon' : ∀ s ∈ l, ((releasePassed r d).row s).onSegment g = true := fun s hs => by
      rw [hrow, if_neg (show s ≠ r from fun e => hr (e ▸ hs))]
      exact hon s (by simp [hs])
    rw [forEach_cons, ih hl hon', hrow]
    by_cases hq : q = r
    · subst hq
      simp [hr]
    · simp [hq]

theorem segment_forEach_releasePassed {g : SegNo} {l : List RowNo} {d : Device} (hl : l.Nodup)
    (hon : ∀ r ∈ l, (d.row r).onSegment g = true) (k : SegNo) :
    (forEach l releasePassed d).segment k =
      { d.segment k with
        queue := (d.segment k).queue ++ if k = g then l.filter (fun r => (d.row r).display == .clean) else [] } := by
  induction l generalizing d with
  | nil => simp [forEach]
  | cons r l ih =>
    obtain ⟨hr, hl⟩ := List.nodup_cons.1 hl
    have hrow := row_releasePassed (hon r (by simp))
    have hsame (s : RowNo) (hs : s ∈ l) : (releasePassed r d).row s = d.row s := by
      rw [hrow, if_neg (show s ≠ r from fun e => hr (e ▸ hs))]
    have hon' : ∀ s ∈ l, ((releasePassed r d).row s).onSegment g = true := fun s hs => by
      rw [hsame s hs]
      exact hon s (by simp [hs])
    have hfilter : l.filter (fun s => ((releasePassed r d).row s).display == .clean) =
        l.filter (fun s => (d.row s).display == .clean) := List.filter_congr fun s hs => by rw [hsame s hs]
    rw [forEach_cons, ih hl hon', hfilter, segment_releasePassed (hon r (by simp)), List.filter_cons]
    by_cases hk : k = g <;> by_cases hc : (d.row r).display = .clean <;> simp [hk, hc]

theorem exerciseOver_eq (l : List ExerciseRow) : exerciseOver l = l.all (fun x => stepDone x.step) := rfl

/-- While a listed row is neither PASSED nor FAILED the exercise goes on. -/
theorem exerciseCheck_of_not_over {g : SegNo} {d : Device} (h : exerciseOver (d.segment g).exerciseList = false) :
    exerciseCheck g d = d := by
  unfold exerciseCheck
  exact if_neg fun hc => Bool.false_ne_true (h.symm.trans ((exerciseOver_eq _).trans hc.2))

/-- Of a list in which every row is PASSED or FAILED, the others are the FAILED ones. -/
theorem length_failed_of_over {l : List ExerciseRow} (h : exerciseOver l = true) :
    (l.filter (fun z => z.step == .failed)).length = l.length - (passedOf l).length := by
  induction l with
  | nil => rfl
  | cons z l ih =>
    obtain ⟨hz, hl⟩ : (z.step = .passed ∨ z.step = .failed) ∧ exerciseOver l = true := by
      simpa [exerciseOver] using h
    have hle : (passedOf l).length ≤ l.length := by
      rw [passedOf, List.length_map]
      exact List.length_filter_le _ _
    have ih := ih hl
    obtain hz | hz := hz
    · simpa [passedOf, hz] using ih
    · simp only [passedOf, List.length_map] at ih hle
      simp [passedOf, hz, ih]
      omega

theorem passedOf_sublist (l : List ExerciseRow) : (passedOf l).Sublist (l.map (·.row)) :=
  List.filter_sublist.map _

/-- What the check of R126 finds and does, of a list of rows on the segment. -/
theorem exerciseCheck_goesOn {g : SegNo} {d : Device} (hstate : (d.segment g).state = .exercise)
    (hrows : ((d.segment g).exerciseList.map (·.row)).Nodup)
    (hon : ∀ x ∈ (d.segment g).exerciseList, (d.row x.row).onSegment g = true) :
    ExerciseGoesOn d (exerciseCheck g d) g (d.segment g).exerciseList := by
  have hpassed : (passedOf (d.segment g).exerciseList).Nodup := hrows.sublist (passedOf_sublist _)
  have honPassed : ∀ r ∈ passedOf (d.segment g).exerciseList, (d.row r).onSegment g = true := fun r hr => by
    obtain ⟨x, hx, rfl⟩ := List.mem_map.1 ((passedOf_sublist _).subset hr)
    exact hon x hx
  cases hover : exerciseOver (d.segment g).exerciseList with
  | false =>
    rw [exerciseCheck_of_not_over hover]
    exact ⟨fun _ _ => ⟨rfl, rfl⟩, fun _ => ⟨rfl, rfl, fun _ => rfl⟩, fun h => absurd (hover.symm.trans h) (by simp)⟩
  | true =>
    have hcheck : exerciseCheck g d =
        (((forEach (passedOf (d.segment g).exerciseList) releasePassed d).modSegment g (fun s =>
          { s with
            state := .active, exerciseList := [],
            result := ⟨s.exerciseList.length,
              ((d.segment g).exerciseList.filter (fun x => x.step == .passed)).length,
              ((d.segment g).exerciseList.filter (fun x => x.step == .failed)).length⟩ })).modLine g
            (fun l => { l with pollCursor := none })).raise (.segment g) := by
      unfold exerciseCheck
      dsimp only
      rw [if_pos ⟨hstate, hover⟩]
      rfl
    have hline (k : SegNo) : (forEach (passedOf (d.segment g).exerciseList) releasePassed d).line k = d.line k :=
      (ChangesOnly.forEach releasePassed_changes _ d).line_eq (by simp) k
    have hseg (k : SegNo) : (exerciseCheck g d).segment k =
        if k = g then
          { d.segment g with
            state := .active, exerciseList := [],
            queue := (d.segment g).queue ++
              (passedOf (d.segment g).exerciseList).filter (fun r => (d.row r).display == .clean),
            result := ⟨(d.segment g).exerciseList.length, (passedOf (d.segment g).exerciseList).length,
              (d.segment g).exerciseList.length - (passedOf (d.segment g).exerciseList).length⟩ }
        else d.segment k := by
      rw [hcheck, (raise_changes _ _).segment_eq (by simp), (modLine_changes _ _ _).segment_eq (by simp),
        segment_modSegment, segment_forEach_releasePassed hpassed honPassed,
        segment_forEach_releasePassed hpassed honPassed, length_failed_of_over hover]
      split
      · simp [passedOf]
      · simp
    have hboard (k : SegNo) : (exerciseCheck g d).line k =
        if k = g then { d.line g with pollCursor := none } else d.line k := by
      rw [hcheck, (raise_changes _ _).line_eq (by simp), line_modLine, (modSegment_changes _ _ _).line_eq (by simp),
        (modSegment_changes _ _ _).line_eq (by simp), hline, hline]
    have hrow (r : RowNo) : (exerciseCheck g d).row r =
        if r ∈ passedOf (d.segment g).exerciseList then passedRow (d.row r) else d.row r := by
      rw [hcheck, (raise_changes _ _).row_eq (by simp), (modLine_changes _ _ _).row_eq (by simp),
        (modSegment_changes _ _ _).row_eq (by simp), row_forEach_releasePassed hpassed honPassed]
    refine ⟨fun h hh => ⟨?_, ?_⟩, fun h => absurd (hover.symm.trans h) (by simp), fun _ => ⟨?_, ?_, hrow, ?_⟩⟩
    · rw [hseg, if_neg hh]
    · rw [hboard, if_neg hh]
    · rw [hseg, if_pos rfl]
    · rw [hboard, if_pos rfl]
    · rw [hcheck]
      exact (mem_raise _ _ _).2 (.inl rfl)

/-- The exercise goes on alike from devices with the same rows, lines and segments, but for the list. -/
theorem ExerciseGoesOn.congr {d e d' : Device} {g : SegNo} {l : List ExerciseRow} (h : ExerciseGoesOn d d' g l)
    (hrow : ∀ r, e.row r = d.row r) (hline : ∀ k, e.line k = d.line k) (hother : ∀ k, k ≠ g → e.segment k = d.segment k)
    (hseg : ∃ m, e.segment g = { d.segment g with exerciseList := m }) : ExerciseGoesOn e d' g l := by
  obtain ⟨hothers, hgoes, hends⟩ := h
  obtain ⟨m, hseg⟩ := hseg
  simp only [ExerciseGoesOn, hrow, hline, hseg]
  refine ⟨fun k hk => ?_, hgoes, hends⟩
  rw [hother k hk]
  exact hothers k hk

/-! ## A listed row that fails (R125) -/

theorem segment_setStep (r : RowNo) (f : ExerciseRow → ExerciseRow) (g k : SegNo) (d : Device) :
    (setStep r f g d).segment k =
      if k = g then
        { d.segment g with exerciseList := (d.segment g).exerciseList.map (fun x => if x.row = r then f x else x) }
      else d.segment k := segment_modSegment d g k _

theorem failedIn_eq (r : RowNo) (l : List ExerciseRow) :
    l.map (fun x => if x.row = r then (if stepDone x.step then x else { x with step := .failed }) else x) = failedIn r l := by
  refine List.map_congr_left fun x _ => ?_
  obtain ⟨row, step, est⟩ := x
  by_cases hr : row = r
  · cases step <;> simp [hr, stepDone]
  · simp [hr]

theorem map_row_failedIn (r : RowNo) (l : List ExerciseRow) : (failedIn r l).map (·.row) = l.map (·.row) := by
  rw [failedIn, List.map_map]
  refine List.map_congr_left fun x _ => ?_
  show (if x.row = r ∧ x.step ≠ .passed then { x with step := ExerciseStep.failed } else x).row = x.row
  split <;> rfl

theorem exerciseFail_of_not_exercise {r : RowNo} {u : RowUnit} {d : Device} (hu : (d.row r).rowUnit = some u)
    (h : (d.segment u.segment).state ≠ .exercise) : exerciseFail r d = d := by
  unfold exerciseFail
  rw [hu]
  exact if_neg h

/-- The exercise takes no notice back. -/
theorem mem_exerciseCheck {g : SegNo} {d : Device} {n : Notice} (h : n ∈ d.notices) : n ∈ (exerciseCheck g d).notices := by
  unfold exerciseCheck
  dsimp only
  split
  · refine (mem_raise _ _ _).2 (.inr ?_)
    have hmarks := ChangesOnly.forEach releasePassed_changes (((d.segment g).exerciseList.filter
      (fun x => x.step == .passed)).map (·.row)) d .notices (by simp)
    exact hmarks.symm ▸ h
  · exact h

theorem mem_exerciseFail (r : RowNo) {d : Device} {n : Notice} (h : n ∈ d.notices) : n ∈ (exerciseFail r d).notices := by
  unfold exerciseFail
  split
  · exact h
  · split
    · exact mem_exerciseCheck h
    · exact h

theorem exerciseFail_goesOn {r : RowNo} {u : RowUnit} {d : Device} (hu : (d.row r).rowUnit = some u)
    (hstate : (d.segment u.segment).state = .exercise)
    (hrows : ((d.segment u.segment).exerciseList.map (·.row)).Nodup)
    (hon : ∀ x ∈ (d.segment u.segment).exerciseList, (d.row x.row).onSegment u.segment = true) :
    ExerciseGoesOn d (exerciseFail r d) u.segment (failedIn r (d.segment u.segment).exerciseList) := by
  unfold exerciseFail
  rw [hu]
  simp only [if_pos hstate]
  have hlist : ((setStep r (fun x => if stepDone x.step then x else { x with step := .failed }) u.segment d).segment
      u.segment) = { d.segment u.segment with exerciseList := failedIn r (d.segment u.segment).exerciseList } := by
    rw [segment_setStep, if_pos rfl, failedIn_eq]
  have hgoes := exerciseCheck_goesOn (g := u.segment)
    (d := setStep r (fun x => if stepDone x.step then x else { x with step := .failed }) u.segment d)
    (by rw [hlist]; exact hstate) (by rw [hlist]; exact (map_row_failedIn r _).symm ▸ hrows) (fun x hx => by
      rw [hlist] at hx
      rw [(setStep_changes r _ _ d).row_eq (by simp)]
      have hmem : x.row ∈ (failedIn r (d.segment u.segment).exerciseList).map (·.row) := List.mem_map_of_mem hx
      rw [map_row_failedIn] at hmem
      obtain ⟨y, hy, hyx⟩ := List.mem_map.1 hmem
      rw [← hyx]
      exact hon y hy)
  rw [hlist] at hgoes
  refine hgoes.congr (fun q => ((setStep_changes r _ _ d).row_eq (by simp) q).symm)
    (fun k => ((setStep_changes r _ _ d).line_eq (by simp) k).symm) (fun k hk => ?_) ⟨(d.segment u.segment).exerciseList, ?_⟩
  · rw [segment_setStep, if_neg hk]
  · rw [hlist]

/-! ## Entry into DOWN and FAULTED (R93) -/

/-- The darkening of a row before the exercise looks at it. -/
def darkenOnly (r : RowNo) (s : Display) (c : Cause) (notice : Bool) (d : Device) : Device :=
  let d1 := (dequeueRow r d).modRow r (fun x => darkRow x s c)
  let d2 := if 0 < (d.row r).owed then d1.reportNotShown else d1
  if notice then d2.raise (.row r) else d2

theorem darken_eq (r : RowNo) (s : Display) (c : Cause) (notice : Bool) (d : Device) :
    darken r s c notice d = exerciseFail r (darkenOnly r s c notice d) := rfl

/-- Past the row and its queue, the darkening reaches only the settle record and the notices. -/
theorem darkenOnly_changes (r : RowNo) (s : Display) (c : Cause) (notice : Bool) (d : Device) :
    ChangesOnly [.settle, .notices] ((dequeueRow r d).modRow r (fun x => darkRow x s c)) (darkenOnly r s c notice d) := by
  refine ChangesOnly.ite (ChangesOnly.trans ?_ ((raise_changes _ _).mono (by simp))) ?_ <;>
    exact .ite (reportNotShown_changes _) (.refl _ _)

theorem row_darkenOnly (r q : RowNo) (s : Display) (c : Cause) (notice : Bool) (d : Device) :
    (darkenOnly r s c notice d).row q = if q = r then darkRow (d.row r) s c else d.row q := by
  rw [(darkenOnly_changes r s c notice d).row_eq (by simp), row_modRow, row_dequeueRow, row_dequeueRow]

theorem line_darkenOnly (r : RowNo) (k : SegNo) (s : Display) (c : Cause) (notice : Bool) (d : Device) :
    (darkenOnly r s c notice d).line k = d.line k := by
  rw [(darkenOnly_changes r s c notice d).line_eq (by simp), (modRow_changes _ r _).line_eq (by simp),
    (dequeueRow_changes r d).line_eq (by simp)]

theorem segment_darkenOnly (r : RowNo) (k : SegNo) (s : Display) (c : Cause) (notice : Bool) (d : Device) :
    (darkenOnly r s c notice d).segment k =
      { d.segment k with
        queue := if (d.row r).onSegment k then (d.segment k).queue.filter (fun q => q ≠ r) else (d.segment k).queue } := by
  rw [(darkenOnly_changes r s c notice d).segment_eq (by simp), (modRow_changes _ r _).segment_eq (by simp),
    segment_dequeueRow]

theorem settle_darkenOnly (r : RowNo) (s : Display) (c : Cause) (notice : Bool) (d : Device) :
    (darkenOnly r s c notice d).channel.settle = (if 0 < (d.row r).owed then d.reportNotShown else d).channel.settle := by
  have hdark : ((dequeueRow r d).modRow r (fun x => darkRow x s c)).channel.settle = d.channel.settle :=
    (dequeueRow_changes r d).andThen (modRow_changes _ r _) (n := [.rows, .segments]) (by simp) (by simp) .settle
      (by simp)
  have hreport : (if 0 < (d.row r).owed then ((dequeueRow r d).modRow r (fun x => darkRow x s c)).reportNotShown
      else (dequeueRow r d).modRow r (fun x => darkRow x s c)).channel.settle =
        (if 0 < (d.row r).owed then d.reportNotShown else d).channel.settle := by
    split
    · exact settle_reportNotShown_congr hdark
    · exact hdark
  unfold darkenOnly
  cases notice with
  | false => exact hreport
  | true => exact (raise_changes _ _ .settle (by simp)).trans hreport

/-- The notices of an entry into DOWN or FAULTED, before the exercise looks at it. -/
theorem mem_darkenOnly (r : RowNo) (s : Display) (c : Cause) (notice : Bool) (d : Device) (n : Notice) :
    n ∈ (darkenOnly r s c notice d).notices ↔
      n ∈ (if 0 < (d.row r).owed then d.reportNotShown else d).notices ∨ notice = true ∧ n = .row r := by
  have hchanges : ChangesOnly [.rows, .segments] d ((dequeueRow r d).modRow r (fun x => darkRow x s c)) :=
    (dequeueRow_changes r d).andThen (modRow_changes _ r _) (by simp) (by simp)
  have hreport : n ∈ (if 0 < (d.row r).owed then ((dequeueRow r d).modRow r (fun x => darkRow x s c)).reportNotShown
      else (dequeueRow r d).modRow r (fun x => darkRow x s c)).notices ↔
        n ∈ (if 0 < (d.row r).owed then d.reportNotShown else d).notices := by
    split
    · rw [Device.reportNotShown, mem_settleReport, Device.reportNotShown, mem_settleReport,
        show _ = _ from hchanges .settle (by simp), show _ = _ from hchanges .notices (by simp)]
    · rw [show _ = _ from hchanges .notices (by simp)]
  unfold darkenOnly
  cases notice with
  | false => simpa using hreport
  | true =>
    rw [if_pos rfl, mem_raise]
    simp [hreport, or_comm]

/-- A row with a unit enters DOWN or FAULTED while no exercise runs on its segment. -/
theorem darken_of_not_exercise {r : RowNo} {u : RowUnit} {d : Device} (hu : (d.row r).rowUnit = some u)
    (h : (d.segment u.segment).state ≠ .exercise) (s : Display) (c : Cause) (notice : Bool) :
    darken r s c notice d = darkenOnly r s c notice d := by
  rw [darken_eq]
  refine exerciseFail_of_not_exercise (u := u) ?_ ?_
  · rw [row_darkenOnly, if_pos rfl]
    exact hu
  · rw [segment_darkenOnly]
    exact h

theorem darkRow_eq (x : Row) (s : Display) (c : Cause) : darkRow x s c = darkened x s c x.faultCell := rfl

/-- A row with a unit enters DOWN or FAULTED, with its notice, while an exercise runs on its segment. -/
theorem darken_failsInExercise {r : RowNo} {u : RowUnit} {d : Device} (hu : (d.row r).rowUnit = some u)
    (hstate : (d.segment u.segment).state = .exercise)
    (hrows : ((d.segment u.segment).exerciseList.map (·.row)).Nodup)
    (hon : ∀ x ∈ (d.segment u.segment).exerciseList, (d.row x.row).onSegment u.segment = true) (s : Display) (c : Cause) :
    FailsInExercise d (darken r s c true d) u.segment r (darkRow (d.row r) s c) := by
  have hseg := segment_darkenOnly r u.segment s c true d
  have hrow (q : RowNo) : ((darkenOnly r s c true d).row q).rowUnit = (d.row q).rowUnit := by
    rw [row_darkenOnly]
    split
    · next hq => rw [hq]; rfl
    · rfl
  have hgoes := exerciseFail_goesOn (r := r) (u := u) (d := darkenOnly r s c true d) ((hrow r).trans hu)
    (by rw [hseg]; exact hstate) (by rw [hseg]; exact hrows) (fun x hx => by
      rw [hseg] at hx
      rw [onSegment_eq_any, hrow, ← onSegment_eq_any]
      exact hon x hx)
  have hlist : ((darkenOnly r s c true d).segment u.segment).exerciseList = (d.segment u.segment).exerciseList := by
    rw [hseg]
  rw [hlist] at hgoes
  refine ⟨hgoes.congr (fun q => ?_) (fun k => ?_) (fun k hk => ?_)
    ⟨(d.segment u.segment).exerciseList, ?_⟩, ?_, ?_⟩
  · rw [Device.row_setSegment, Device.row_setRow, row_darkenOnly]
  · rw [line_darkenOnly]
    rfl
  · have hoff : (d.row r).onSegment k = false := by
      rw [← Bool.not_eq_true]
      exact fun h => hk (onSegment_unique h (onSegment_of_unit hu))
    rw [Device.segment_setSegment_other _ _ _ _ hk, segment_darkenOnly, hoff]
    rfl
  · rw [hseg, Device.segment_setSegment_same, if_pos (onSegment_of_unit hu)]
  · rw [darken_eq]
    exact mem_exerciseFail r ((mem_darkenOnly r s c true d _).2 (.inr ⟨rfl, rfl⟩))
  · rw [darken_eq, show _ = _ from exerciseFail_changes r _ .settle (by simp), settle_darkenOnly]

end Sys2Proof.Machine
end


section
/-! PROOFS. The conditions of R91, R95, R112 and R124 on a segment, put row by row: what a segment says of one row, and that a
command which changes one row keeps the rest. -/

namespace Sys2Proof.Machine

/-! ## A segment as its rows see it -/

/-- The part of a segment and its line that the conditions on its rows read: `step` is the exercise step of each row. -/
structure SegView where
  state : SegmentState
  queue : List RowNo
  step  : RowNo → Option ExerciseStep
  frame : Option Frame

/-- The exercise step that a list gives a row. -/
def stepIn (l : List ExerciseRow) (r : RowNo) : Option ExerciseStep := (l.find? (fun x => x.row == r)).map (·.step)

/-- A segment with the frame that is to be thought in hand: between the answer to a frame and what the answer does, it is
the frame answered. -/
def viewOf (s : Segment) (frame : Option Frame) : SegView := ⟨s.state, s.queue, stepIn s.exerciseList, frame⟩

/-- What a frame in hand says of its row at an exercise step (R92, R103, R112, R115, R124). -/
def InHand (g : SegNo) (step : Option ExerciseStep) (x : Row) (f : Frame) : Prop :=
  let here : Prop := x.rowUnit = some ⟨g, f.address⟩
  match f.use, f.body with
  | .repaint, .image i => here ∧ x.display = .sending ∧ x.sent.map (·.image) = some i
  | .pattern, .image _ => here ∧ step = some .patternSent
  | .lampChange, .lamps _ => here ∧ (x.display = .clean ∨ x.display = .queued) ∧ (step = none ∨ step = some .waiting)
  | .echoRequest, .echoRequest => here ∧ step = some .echoing
  | .completionPoll, .poll => True
  | .readinessPoll, .poll => True
  | _, _ => False

/-- A row from PATTERN-SENT to ECHOING. -/
def underTest (st : ExerciseStep) : Prop := st = .patternSent ∨ st = .turning ∨ st = .echoing

/-- What segment g says of row r when its record is x (R86, R91, R95, R112, R122, R124). -/
structure RowFits (g : SegNo) (v : SegView) (r : RowNo) (x : Row) : Prop where
  queued : r ∈ v.queue ↔ x.display = .queued ∧ x.onSegment g = true
  off : v.state = .disabled → x.onSegment g = true → x.display = .down ∧ x.cause = .segmentOff
  listed : ∀ st, v.step r = some st →
    v.state = .exercise ∧ x.onSegment g = true ∧ (underTest st → x.display = .clean ∨ x.display = .queued)
  frame : ∀ f, v.frame = some f → f.row = r → InHand g (v.step r) x f
  sending : x.onSegment g = true → x.display = .sending → ∃ f, v.frame = some f ∧ f.use = .repaint ∧ f.row = r
  patternSent : v.step r = some .patternSent → ∃ f, v.frame = some f ∧ f.use = .pattern ∧ f.row = r

/-- The conditions of one segment. -/
structure SegSound (g : SegNo) (v : SegView) (row : RowNo → Row) : Prop where
  nodup : v.queue.Nodup
  noFrame : v.state = .disabled → v.frame = none
  fits : ∀ r, RowFits g v r (row r)

/-! ## Steps in a list -/

theorem stepIn_eq_some {l : List ExerciseRow} (h : (l.map (·.row)).Nodup) {r : RowNo} {st : ExerciseStep} :
    stepIn l r = some st ↔ ∃ x ∈ l, x.row = r ∧ x.step = st := by
  induction l with
  | nil => simp [stepIn]
  | cons y l ih =>
    obtain ⟨hy, hl⟩ := List.nodup_cons.1 h
    by_cases hr : y.row = r
    · have hnone : ∀ x ∈ l, x.row ≠ r := fun x hx e => hy (List.mem_map.2 ⟨x, hx, e.trans hr.symm⟩)
      have hfind : stepIn (y :: l) r = some y.step := by simp [stepIn, hr]
      rw [hfind]
      constructor
      · rintro ⟨⟩
        exact ⟨y, by simp, hr, rfl⟩
      · rintro ⟨x, hx, hxr, rfl⟩
        obtain rfl | hx := List.mem_cons.1 hx
        · rfl
        · exact absurd hxr (hnone x hx)
    · have hfind : stepIn (y :: l) r = stepIn l r := by simp [stepIn, hr]
      rw [hfind, ih hl]
      constructor
      · rintro ⟨x, hx, h⟩
        exact ⟨x, by simp [hx], h⟩
      · rintro ⟨x, hx, hxr, h⟩
        obtain rfl | hx := List.mem_cons.1 hx
        · exact absurd hxr hr
        · exact ⟨x, hx, hxr, h⟩

/-- A change of the steps of a list that keeps its rows. -/
theorem stepIn_map (l : List ExerciseRow) {f : ExerciseRow → ExerciseRow} (hf : ∀ x, (f x).row = x.row) (r : RowNo) :
    stepIn (l.map f) r = (l.find? (fun x => x.row == r)).map (fun x => (f x).step) := by
  simp [stepIn, List.find?_map, Function.comp_def, hf]

theorem stepIn_setRow (l : List ExerciseRow) {f : ExerciseRow → ExerciseRow} (hf : ∀ x, (f x).row = x.row) (r q : RowNo)
    {st : ExerciseStep} (hst : ∀ x, (f x).step = st) :
    stepIn (l.map (fun x => if x.row = r then f x else x)) q =
      if q = r then (stepIn l q).map (fun _ => st) else stepIn l q := by
  have hrow : ∀ x : ExerciseRow, (if x.row = r then f x else x).row = x.row := fun x => by
    split
    · exact hf x
    · rfl
  rw [stepIn_map l hrow]
  unfold stepIn
  cases hfind : l.find? (fun x => x.row == q) with
  | none => simp
  | some y =>
    have hy : y.row = q := by simpa using List.find?_some hfind
    by_cases hq : q = r
    · simp [hq, hy ▸ hq, hst]
    · simp [hq, show y.row ≠ r from hy ▸ hq]

theorem stepIn_failedIn (l : List ExerciseRow) (r q : RowNo) : stepIn (failedIn r l) q =
    if q = r then (stepIn l q).map (fun st => if st = .passed then .passed else .failed) else stepIn l q := by
  have hrow : ∀ x : ExerciseRow, (if x.row = r ∧ x.step ≠ .passed then { x with step := .failed } else x).row = x.row :=
    fun x => by split <;> rfl
  rw [failedIn, stepIn_map l hrow]
  unfold stepIn
  cases hfind : l.find? (fun x => x.row == q) with
  | none => simp
  | some y =>
    have hy : y.row = q := by simpa using List.find?_some hfind
    by_cases hq : q = r
    · by_cases hp : y.step = .passed <;> simp [hq, hy ▸ hq, hp]
    · simp [hq, show y.row ≠ r from hy ▸ hq]

theorem exerciseStep_eq {d : Device} {g : SegNo} {r : RowNo} (hon : (d.row r).onSegment g = true)
    (hlist : (d.segment g).exerciseList ≠ [] → (d.segment g).state = .exercise) :
    exerciseStep d r = stepIn (d.segment g).exerciseList r := by
  obtain ⟨u, hu, rfl⟩ := onSegment_iff.1 hon
  unfold exerciseStep
  rw [hu]
  by_cases hstate : (d.segment u.segment).state = .exercise
  · simp [hstate, stepIn]
  · have hnil : (d.segment u.segment).exerciseList = [] := by
      by_contra h
      exact hstate (hlist h)
    simp [hstate, hnil, stepIn]

/-! ## The conditions of the board, segment by segment -/

theorem frameSound_iff {d : Device} {g : SegNo}
    (hlist : (d.segment g).exerciseList ≠ [] → (d.segment g).state = .exercise) (f : Frame) :
    FrameSound d g f ↔ InHand g (stepIn (d.segment g).exerciseList f.row) (d.row f.row) f := by
  have hstep (h : (d.row f.row).rowUnit = some ⟨g, f.address⟩) :
      exerciseStep d f.row = stepIn (d.segment g).exerciseList f.row :=
    exerciseStep_eq (onSegment_iff.2 ⟨_, h, rfl⟩) hlist
  obtain ⟨use, row, address, body⟩ := f
  cases use with
  | repaint => cases body <;> exact Iff.rfl
  | completionPoll => cases body <;> exact Iff.rfl
  | readinessPoll => cases body <;> exact Iff.rfl
  | lampChange =>
    cases body with
    | lamps l => exact and_congr_right fun h => by rw [hstep h]
    | _ => exact Iff.rfl
  | pattern =>
    cases body with
    | image i => exact and_congr_right fun h => by rw [hstep h]
    | _ => exact Iff.rfl
  | echoRequest =>
    cases body with
    | echoRequest => exact and_congr_right fun h => by rw [hstep h]
    | _ => exact Iff.rfl

/-- The conditions of R86, R91, R95, R112, R122 and R124, with the frame of each segment that is to be thought in hand. -/
structure BoardSound (hold : SegNo → Option Frame) (d : Device) : Prop where
  noUnit : ∀ r, (d.row r).rowUnit = none → (d.row r).display = .down ∧ (d.row r).cause = .segmentOff
  rising : ∀ g, ((d.segment g).exerciseList.map (·.row)).Pairwise (· < ·)
  segment : ∀ g, SegSound g (viewOf (d.segment g) (hold g)) d.row

/-- The frames in hand. -/
def framesOf (d : Device) (g : SegNo) : Option Frame := (d.line g).frame

theorem nodup_of_rising {l : List RowNo} (h : l.Pairwise (· < ·)) : l.Nodup := h.imp fun h => ne_of_lt h

theorem BoardSound.stepIn_iff {hold : SegNo → Option Frame} {d : Device} (h : BoardSound hold d) {g : SegNo} {r : RowNo}
    {st : ExerciseStep} : stepIn (d.segment g).exerciseList r = some st ↔
      ∃ x ∈ (d.segment g).exerciseList, x.row = r ∧ x.step = st := stepIn_eq_some (nodup_of_rising (h.rising g))

/-- A list stands only in EXERCISE. -/
theorem BoardSound.listed {hold : SegNo → Option Frame} {d : Device} (h : BoardSound hold d) {g : SegNo}
    (hne : (d.segment g).exerciseList ≠ []) : (d.segment g).state = .exercise := by
  obtain ⟨x, hx⟩ := List.exists_mem_of_ne_nil _ hne
  exact (((h.segment g).fits x.row).listed x.step (h.stepIn_iff.2 ⟨x, hx, rfl, rfl⟩)).1

theorem BoardSound.onSegment {hold : SegNo → Option Frame} {d : Device} (h : BoardSound hold d) {g : SegNo}
    {x : ExerciseRow} (hx : x ∈ (d.segment g).exerciseList) : (d.row x.row).onSegment g = true :=
  (((h.segment g).fits x.row).listed x.step (h.stepIn_iff.2 ⟨x, hx, rfl, rfl⟩)).2.1

theorem BoardSound.exerciseStep_eq {hold : SegNo → Option Frame} {d : Device} (h : BoardSound hold d) {g : SegNo}
    {r : RowNo} (hon : (d.row r).onSegment g = true) : exerciseStep d r = stepIn (d.segment g).exerciseList r :=
  Machine.exerciseStep_eq hon h.listed

theorem unitSegmentIs_eq_true {d : Device} {o : Option RowUnit} {s : SegmentState} :
    unitSegmentIs d o s = true ↔ ∃ u, o = some u ∧ (d.segment u.segment).state = s := by
  cases o with
  | none => simp [unitSegmentIs]
  | some u => simp [unitSegmentIs]

theorem boardSound_of_sound {d : Device} (hq : QueuesSound d) (hl : LinesSound d) : BoardSound (framesOf d) d := by
  obtain ⟨hdark, hqueue⟩ := hq
  refine ⟨fun r hr => hdark r (.inl hr), fun g => (hl g).2.2.1, fun g => ?_⟩
  obtain ⟨hnodup, hmem⟩ := hqueue g
  obtain ⟨hoff, hlist, hrising, hlisted, hframe, hsending, hpattern⟩ := hl g
  have hstep {r : RowNo} {st : ExerciseStep} := stepIn_eq_some (r := r) (st := st) (nodup_of_rising hrising)
  refine ⟨hnodup, hoff, fun r => ⟨hmem r, fun hstate hon => ?_, fun st hst => ?_, fun f hf hr => ?_, hsending r,
    fun hst => ?_⟩⟩
  · obtain ⟨u, hu, rfl⟩ := onSegment_iff.1 hon
    exact hdark r (.inr (unitSegmentIs_eq_true.2 ⟨u, hu, hstate⟩))
  · obtain ⟨x, hx, rfl, rfl⟩ := hstep.1 hst
    exact ⟨hlist (List.ne_nil_of_mem hx), hlisted x hx⟩
  · subst hr
    exact (frameSound_iff hlist f).1 (hframe f hf)
  · obtain ⟨x, hx, rfl, hxs⟩ := hstep.1 hst
    exact hpattern x hx hxs

theorem BoardSound.queuesSound {hold : SegNo → Option Frame} {d : Device} (h : BoardSound hold d) : QueuesSound d := by
  refine ⟨fun r hr => ?_, fun g => ⟨(h.segment g).nodup, fun r => ((h.segment g).fits r).queued⟩⟩
  obtain hr | hr := hr
  · exact h.noUnit r hr
  · obtain ⟨u, hu, hstate⟩ := unitSegmentIs_eq_true.1 hr
    exact ((h.segment u.segment).fits r).off hstate (onSegment_of_unit hu)

theorem BoardSound.linesSound {d : Device} (h : BoardSound (framesOf d) d) : LinesSound d := by
  intro g
  have hseg := h.segment g
  refine ⟨hseg.noFrame, h.listed, h.rising g, fun x hx => ?_, fun f hf => ?_, fun r => (hseg.fits r).sending, fun x hx hst => ?_⟩
  · exact ((hseg.fits x.row).listed x.step (h.stepIn_iff.2 ⟨x, hx, rfl, rfl⟩)).2
  · exact (frameSound_iff h.listed f).2 ((hseg.fits f.row).frame f hf rfl)
  · exact (hseg.fits x.row).patternSent (h.stepIn_iff.2 ⟨x, hx, rfl, hst⟩)

/-! ## The rows in motion -/

/-- What a row counts against the motion limit of a segment (R87, R109). -/
def weight (g : SegNo) (step : Option ExerciseStep) (x : Row) : Nat :=
  (if x.onSegment g = true ∧ (x.display = .moving ∨ x.display = .sending) then 1 else 0) +
    if step = some .patternSent ∨ step = some .turning then 1 else 0

/-- What all the rows count. -/
def load (g : SegNo) (step : RowNo → Option ExerciseStep) (row : RowNo → Row) : Nat :=
  (everyRow.map (fun r => weight g (step r) (row r))).sum

theorem sum_indicator {α : Type} (p : α → Prop) [DecidablePred p] (l : List α) :
    (l.map (fun r => if p r then 1 else 0)).sum = (l.filter (fun r => decide (p r))).length := by
  induction l with
  | nil => rfl
  | cons a l ih => by_cases h : p a <;> simp [h, ih, Nat.add_comm]

theorem countDisplay_eq (d : Device) (g : SegNo) (s : Display) : countDisplay d g s =
    (everyRow.map (fun r => if (d.row r).onSegment g = true ∧ (d.row r).display = s then 1 else 0)).sum := by
  rw [sum_indicator, countDisplay, rowsOf, List.filter_filter]
  congr 1
  refine List.filter_congr fun r _ => ?_
  rw [Bool.eq_iff_iff]
  simp [and_comm]

theorem turningCount_eq {d : Device} {g : SegNo} (h : ((d.segment g).exerciseList.map (·.row)).Nodup) :
    turningCount d g = (everyRow.map (fun r =>
      if stepIn (d.segment g).exerciseList r = some .patternSent ∨ stepIn (d.segment g).exerciseList r = some .turning
      then 1 else 0)).sum := by
  have hmap : (((d.segment g).exerciseList.filter (fun x => x.step == .patternSent || x.step == .turning)).map
      (·.row)).Nodup := h.sublist (List.filter_sublist.map _)
  have hperm : (((d.segment g).exerciseList.filter (fun x => x.step == .patternSent || x.step == .turning)).map
      (·.row)).Perm (everyRow.filter (fun r => decide (stepIn (d.segment g).exerciseList r = some .patternSent ∨
        stepIn (d.segment g).exerciseList r = some .turning))) := by
    refine (List.perm_ext_iff_of_nodup hmap ((List.nodup_finRange 256).filter _)).2 fun r => ?_
    rw [List.mem_filter, decide_eq_true_iff, stepIn_eq_some h, stepIn_eq_some h]
    constructor
    · intro hr
      obtain ⟨x, hx, rfl⟩ := List.mem_map.1 hr
      obtain ⟨hx, hst⟩ := List.mem_filter.1 hx
      obtain hst | hst : x.step = .patternSent ∨ x.step = .turning := by simpa using hst
      · exact ⟨List.mem_finRange _, .inl ⟨x, hx, rfl, hst⟩⟩
      · exact ⟨List.mem_finRange _, .inr ⟨x, hx, rfl, hst⟩⟩
    · rintro ⟨-, ⟨x, hx, rfl, hst⟩ | ⟨x, hx, rfl, hst⟩⟩
      · exact List.mem_map_of_mem (List.mem_filter.2 ⟨hx, by simp [hst]⟩)
      · exact List.mem_map_of_mem (List.mem_filter.2 ⟨hx, by simp [hst]⟩)
  rw [sum_indicator, turningCount, ← hperm.length_eq, List.length_map]

theorem motionLoad_eq {d : Device} {g : SegNo} (h : ((d.segment g).exerciseList.map (·.row)).Nodup) :
    motionLoad d g = load g (stepIn (d.segment g).exerciseList) d.row := by
  rw [motionLoad, countDisplay_eq, countDisplay_eq, turningCount_eq h, load, ← List.sum_map_add, ← List.sum_map_add]
  congr 1
  refine List.map_congr_left fun r _ => ?_
  unfold weight
  cases (d.row r).display <;> simp

theorem load_le {g : SegNo} {step step' : RowNo → Option ExerciseStep} {row row' : RowNo → Row}
    (h : ∀ r, weight g (step' r) (row' r) ≤ weight g (step r) (row r)) : load g step' row' ≤ load g step row :=
  List.sum_le_sum fun r _ => h r

/-- A row alone adds at most one to the load. -/
theorem load_le_succ {g : SegNo} {step step' : RowNo → Option ExerciseStep} {row row' : RowNo → Row} (r : RowNo)
    (hr : weight g (step' r) (row' r) ≤ weight g (step r) (row r) + 1)
    (h : ∀ q, q ≠ r → weight g (step' q) (row' q) ≤ weight g (step q) (row q)) :
    load g step' row' ≤ load g step row + 1 := by
  have hone : (everyRow.map (fun q => if q = r then 1 else 0)).sum ≤ 1 := by
    rw [sum_indicator]
    have hcount := List.nodup_iff_count_le_one.1 (List.nodup_finRange 256) r
    rwa [List.count_eq_length_filter] at hcount
  calc load g step' row'
      ≤ (everyRow.map (fun q => weight g (step q) (row q) + if q = r then 1 else 0)).sum :=
        List.sum_le_sum fun q _ => by
          by_cases hq : q = r
          · subst hq
            simpa using hr
          · simpa [hq] using h q hq
    _ = load g step row + (everyRow.map (fun q => if q = r then 1 else 0)).sum := List.sum_map_add
    _ ≤ load g step row + 1 := Nat.add_le_add_left hone _

end Sys2Proof.Machine
end


section
/-! PROOFS. Changes of one row, and of what the conditions do not read: the conditions of R91, R95, R96, R112 and R124 after
marks, motion, completion, the end of an exercise and the entry into DOWN and FAULTED. -/

namespace Sys2Proof.Machine

/-! ## Reached states -/

/-- R96, R109 and R124, row by row. -/
def MotionFits (d : Device) : Prop :=
  ∀ g, load g (stepIn (d.segment g).exerciseList) d.row ≤ (d.segment g).motionLimit

/-- The conditions hold of d, and with them, where it held at the start, the motion limit. -/
structure BoardReached (start : Device) (hold : SegNo → Option Frame) (d : Device) : Prop where
  sound : BoardSound hold d
  motion : MotionFits start → MotionFits d

/-- A row as the conditions read it. -/
structure SameRow (x y : Row) : Prop where
  display : y.display = x.display
  cause : y.cause = x.cause
  unit : y.rowUnit = x.rowUnit
  sent : y.sent = x.sent

theorem SameRow.refl (x : Row) : SameRow x x := ⟨rfl, rfl, rfl, rfl⟩

theorem SameRow.onSegment {x y : Row} (h : SameRow x y) (g : SegNo) : y.onSegment g = x.onSegment g := by
  rw [onSegment_eq_any, h.unit, ← onSegment_eq_any]

theorem onSegment_congr {x y : Row} (h : y.rowUnit = x.rowUnit) (g : SegNo) : y.onSegment g = x.onSegment g := by
  rw [onSegment_eq_any, h, ← onSegment_eq_any]

theorem InHand.congr {g : SegNo} {st : Option ExerciseStep} {x y : Row} {f : Frame} (h : InHand g st x f)
    (hxy : SameRow x y) : InHand g st y f := by
  obtain ⟨display, cause, unit, sent⟩ := hxy
  unfold InHand at *
  rw [display, unit, sent]
  exact h

theorem RowFits.congr {g : SegNo} {v : SegView} {r : RowNo} {x y : Row} (h : RowFits g v r x) (hxy : SameRow x y) :
    RowFits g v r y := by
  have hon := hxy.onSegment g
  refine ⟨?_, ?_, ?_, fun f hf hr => (h.frame f hf hr).congr hxy, ?_, h.patternSent⟩
  · rw [hxy.display, hon]
    exact h.queued
  · rw [hxy.display, hxy.cause, hon]
    exact h.off
  · rw [hxy.display, hon]
    exact h.listed
  · rw [hxy.display, hon]
    exact h.sending

theorem weight_congr {x y : Row} (h : SameRow x y) (g : SegNo) (st : Option ExerciseStep) :
    weight g st y = weight g st x := by
  unfold weight
  rw [h.display, h.onSegment g]

/-- A segment as the conditions read it. -/
structure SameSegment (s t : Segment) : Prop where
  state : t.state = s.state
  limit : t.motionLimit = s.motionLimit
  queue : t.queue = s.queue
  list : t.exerciseList = s.exerciseList

theorem SameSegment.refl (s : Segment) : SameSegment s s := ⟨rfl, rfl, rfl, rfl⟩

theorem SameSegment.view {s t : Segment} (h : SameSegment s t) (f : Option Frame) : viewOf t f = viewOf s f := by
  unfold viewOf
  rw [h.state, h.queue, h.list]

/-- A change of what the conditions do not read. -/
theorem BoardReached.same {start d e : Device} {hold : SegNo → Option Frame} (h : BoardReached start hold d)
    (hrow : ∀ r, SameRow (d.row r) (e.row r)) (hseg : ∀ g, SameSegment (d.segment g) (e.segment g)) :
    BoardReached start hold e := by
  refine ⟨⟨fun r hr => ?_, fun g => ?_, fun g => ⟨?_, ?_, fun r => ?_⟩⟩, fun hm g => ?_⟩
  · rw [(hrow r).display, (hrow r).cause]
    exact h.sound.noUnit r ((hrow r).unit ▸ hr)
  · rw [(hseg g).list]
    exact h.sound.rising g
  · rw [(hseg g).view]
    exact (h.sound.segment g).nodup
  · rw [(hseg g).view]
    exact (h.sound.segment g).noFrame
  · rw [(hseg g).view]
    exact ((h.sound.segment g).fits r).congr (hrow r)
  · rw [(hseg g).limit, (hseg g).list]
    exact (load_le fun r => (weight_congr (hrow r) g _).le).trans (h.motion hm g)

/-- Of a row that is not on the segment only a poll may be in hand. -/
theorem InHand.ofOff {g : SegNo} {st st' : Option ExerciseStep} {x y : Row} {f : Frame} (h : InHand g st x f)
    (hx : x.onSegment g = false) : InHand g st' y f := by
  have hhere : x.rowUnit ≠ some ⟨g, f.address⟩ := fun e => by
    rw [onSegment_iff.2 ⟨_, e, rfl⟩] at hx
    exact Bool.noConfusion hx
  obtain ⟨use, row, address, body⟩ := f
  cases use <;> cases body <;> first | exact h | exact absurd h.1 hhere

/-- A row that is not on the segment may become any other that is not. -/
theorem RowFits.ofOff {g : SegNo} {v : SegView} {r : RowNo} {x y : Row} (h : RowFits g v r x)
    (hx : x.onSegment g = false) (hy : y.onSegment g = false) : RowFits g v r y := by
  have hne {p : Prop} (hon : y.onSegment g = true) : p := absurd (hy.symm.trans hon) (by simp)
  refine ⟨⟨fun hq => ?_, fun hq => hne hq.2⟩, fun _ => hne, fun st hst => ?_, fun f hf hr => (h.frame f hf hr).ofOff hx, hne,
    h.patternSent⟩
  · exact absurd (hx.symm.trans (h.queued.1 hq).2) (by simp)
  · exact absurd (hx.symm.trans (h.listed st hst).2.1) (by simp)

/-! ## Changes within one segment -/

/-- From d to e only segment g, its frame and the rows on it may have changed in what the conditions read, and no row has
changed its unit. -/
structure OnlySegment (g : SegNo) (hold hold' : SegNo → Option Frame) (d e : Device) : Prop where
  unit : ∀ q, (e.row q).rowUnit = (d.row q).rowUnit
  rows : ∀ q, (d.row q).onSegment g = false → SameRow (d.row q) (e.row q)
  segments : ∀ k, k ≠ g → SameSegment (d.segment k) (e.segment k)
  holds : ∀ k, k ≠ g → hold' k = hold k

theorem OnlySegment.off {g k : SegNo} {hold hold' : SegNo → Option Frame} {d e : Device}
    (_c : OnlySegment g hold hold' d e) {q : RowNo} (hq : (d.row q).onSegment g = true) (hk : k ≠ g) :
    (d.row q).onSegment k = false := by
  rw [← Bool.not_eq_true]
  exact fun hon => hk (onSegment_unique hon hq)

theorem BoardSound.onlySegment {g : SegNo} {hold hold' : SegNo → Option Frame} {d e : Device}
    (h : BoardSound hold d) (c : OnlySegment g hold hold' d e)
    (hrising : ((e.segment g).exerciseList.map (·.row)).Pairwise (· < ·))
    (hseg : SegSound g (viewOf (e.segment g) (hold' g)) e.row) : BoardSound hold' e := by
  refine ⟨fun q hq => ?_, fun k => ?_, fun k => ?_⟩
  · have hoff : (d.row q).onSegment g = false := by
      rw [onSegment_eq_any, ← c.unit q, hq]
      rfl
    rw [(c.rows q hoff).display, (c.rows q hoff).cause]
    exact h.noUnit q ((c.unit q) ▸ hq)
  · by_cases hk : k = g
    · exact hk ▸ hrising
    · rw [(c.segments k hk).list]
      exact h.rising k
  · by_cases hk : k = g
    · exact hk ▸ hseg
    · rw [(c.segments k hk).view, c.holds k hk]
      refine ⟨(h.segment k).nodup, (h.segment k).noFrame, fun q => ?_⟩
      cases hq : (d.row q).onSegment g with
      | false => exact ((h.segment k).fits q).congr (c.rows q hq)
      | true =>
        exact ((h.segment k).fits q).ofOff (c.off hq hk) ((onSegment_congr (c.unit q) k).trans (c.off hq hk))

/-- The load of every other segment is as it was. -/
theorem OnlySegment.load_other {g k : SegNo} {hold hold' : SegNo → Option Frame} {d e : Device}
    (c : OnlySegment g hold hold' d e) (hk : k ≠ g) :
    load k (stepIn (e.segment k).exerciseList) e.row = load k (stepIn (d.segment k).exerciseList) d.row := by
  unfold load
  rw [(c.segments k hk).list]
  congr 1
  refine List.map_congr_left fun q _ => ?_
  cases hq : (d.row q).onSegment g with
  | false => exact weight_congr (c.rows q hq) k _
  | true => simp [weight, onSegment_congr (c.unit q) k, c.off hq hk]

theorem BoardReached.onlySegment {start : Device} {g : SegNo} {hold hold' : SegNo → Option Frame} {d e : Device}
    (h : BoardReached start hold d) (c : OnlySegment g hold hold' d e)
    (hrising : ((e.segment g).exerciseList.map (·.row)).Pairwise (· < ·))
    (hseg : SegSound g (viewOf (e.segment g) (hold' g)) e.row)
    (hload : load g (stepIn (d.segment g).exerciseList) d.row ≤ (d.segment g).motionLimit →
      load g (stepIn (e.segment g).exerciseList) e.row ≤ (e.segment g).motionLimit) : BoardReached start hold' e := by
  refine ⟨h.sound.onlySegment c hrising hseg, fun hm k => ?_⟩
  by_cases hk : k = g
  · subst hk
    exact hload (h.motion hm k)
  · rw [c.load_other hk, (c.segments k hk).limit]
    exact h.motion hm k

/-! ## Changes of one row -/

/-- What segment g says of another row does not change with its queue, list and frame, as far as they do not name the row. -/
theorem RowFits.elsewhere {g : SegNo} {v w : SegView} {q : RowNo} {x : Row} (h : RowFits g v q x) (hstate : w.state = v.state)
    (hqueue : q ∈ w.queue ↔ q ∈ v.queue) (hstep : w.step q = v.step q)
    (hnew : ∀ f, w.frame = some f → f.row = q → v.frame = some f)
    (hkept : ∀ f, v.frame = some f → f.row = q → f.use = .repaint ∨ f.use = .pattern → w.frame = some f) :
    RowFits g w q x := by
  refine ⟨hqueue.trans h.queued, fun hw => h.off (hstate ▸ hw), fun st hst => ?_, fun f hf hr => ?_, fun hon hs => ?_,
    fun hst => ?_⟩
  · obtain ⟨hv, hx⟩ := h.listed st (hstep ▸ hst)
    exact ⟨hstate.trans hv, hx⟩
  · rw [hstep]
    exact h.frame f (hnew f hf hr) hr
  · obtain ⟨f, hf, hu, hr⟩ := h.sending hon hs
    exact ⟨f, hkept f hf hr (.inl hu), hu, hr⟩
  · obtain ⟨f, hf, hu, hr⟩ := h.patternSent (hstep ▸ hst)
    exact ⟨f, hkept f hf hr (.inr hu), hu, hr⟩

/-- From d to e, row r of segment g has changed, with its place in the queue and the list, and nothing else that the
conditions read. -/
structure RowOnly (g : SegNo) (r : RowNo) (d e : Device) : Prop where
  on : (d.row r).onSegment g = true
  unit : (e.row r).rowUnit = (d.row r).rowUnit
  rows : ∀ q, q ≠ r → SameRow (d.row q) (e.row q)
  segments : ∀ k, k ≠ g → SameSegment (d.segment k) (e.segment k)
  state : (e.segment g).state = (d.segment g).state
  limit : (e.segment g).motionLimit = (d.segment g).motionLimit
  nodup : (e.segment g).queue.Nodup
  queue : ∀ q, q ≠ r → (q ∈ (e.segment g).queue ↔ q ∈ (d.segment g).queue)
  list : (e.segment g).exerciseList.map (·.row) = (d.segment g).exerciseList.map (·.row)
  step : ∀ q, q ≠ r → stepIn (e.segment g).exerciseList q = stepIn (d.segment g).exerciseList q

/-- Of the frames only the one of segment g has changed, and for every row but r it says what it said. -/
structure FrameFor (g : SegNo) (r : RowNo) (state : SegmentState) (hold hold' : SegNo → Option Frame) : Prop where
  holds : ∀ k, k ≠ g → hold' k = hold k
  new : ∀ f, hold' g = some f → f.row ≠ r → hold g = some f
  none : state = .disabled → hold' g = none
  old : ∀ f, hold g = some f → f.row ≠ r → f.use = .repaint ∨ f.use = .pattern → hold' g = some f

/-- The frames with that of one segment put in another's place. -/
def holdWith (hold : SegNo → Option Frame) (g : SegNo) (f : Option Frame) (k : SegNo) : Option Frame :=
  if k = g then f else hold k

theorem holdWith_same (hold : SegNo → Option Frame) (g : SegNo) (f : Option Frame) : holdWith hold g f g = f := if_pos rfl

/-- No frame is put in hand, and none ends. -/
theorem BoardSound.frameKept {hold : SegNo → Option Frame} {d : Device} (h : BoardSound hold d) (g : SegNo) (r : RowNo) :
    FrameFor g r (d.segment g).state hold hold :=
  ⟨fun _ _ => rfl, fun _ hf _ => hf, (h.segment g).noFrame, fun _ hf _ _ => hf⟩

/-- The exchange of a frame for row r ends. -/
theorem FrameFor.ended {hold : SegNo → Option Frame} {g : SegNo} {f : Frame} (hf : hold g = some f) (s : SegmentState) :
    FrameFor g f.row s hold (holdWith hold g Option.none) := by
  refine ⟨fun k hk => if_neg hk, fun f' hf' _ => ?_, fun _ => holdWith_same hold g _, fun f' hf' hr => ?_⟩
  · rw [holdWith_same] at hf'
    exact absurd hf' (by simp)
  · rw [hf] at hf'
    cases hf'
    exact absurd rfl hr

/-- A frame for row r is put in hand on a free line. -/
theorem FrameFor.sent {hold : SegNo → Option Frame} {g : SegNo} {f : Frame} (hf : hold g = Option.none)
    {s : SegmentState} (hs : s ≠ .disabled) : FrameFor g f.row s hold (holdWith hold g (some f)) := by
  refine ⟨fun k hk => if_neg hk, fun f' hf' hr => ?_, fun h => absurd h hs, fun f' hf' => ?_⟩
  · rw [holdWith_same] at hf'
    cases hf'
    exact absurd rfl hr
  · rw [hf] at hf'
    exact absurd hf' (by simp)

variable {start : Device} {g : SegNo} {r : RowNo} {hold hold' : SegNo → Option Frame} {d e : Device}

theorem RowOnly.onlySegment (c : RowOnly g r d e) (f : FrameFor g r (d.segment g).state hold hold') :
    OnlySegment g hold hold' d e := by
  refine ⟨fun q => ?_, fun q hq => c.rows q fun e => ?_, c.segments, f.holds⟩
  · by_cases hq : q = r
    · exact hq ▸ c.unit
    · exact (c.rows q hq).unit
  · rw [e, c.on] at hq
    exact Bool.noConfusion hq

theorem RowOnly.segSound (c : RowOnly g r d e) (f : FrameFor g r (d.segment g).state hold hold') (h : BoardSound hold d)
    (hr : RowFits g (viewOf (e.segment g) (hold' g)) r (e.row r)) :
    SegSound g (viewOf (e.segment g) (hold' g)) e.row := by
  refine ⟨c.nodup, fun hs => f.none (c.state ▸ hs), fun q => ?_⟩
  by_cases hqr : q = r
  · exact hqr ▸ hr
  · exact (((h.segment g).fits q).congr (c.rows q hqr)).elsewhere c.state (c.queue q hqr) (c.step q hqr)
      (fun f' hf hq => f.new f' hf (hq ▸ hqr)) (fun f' hf hq => f.old f' hf (hq ▸ hqr))

/-- A change of one row that does not count more. -/
theorem BoardReached.oneRow (h : BoardReached start hold d) (c : RowOnly g r d e)
    (f : FrameFor g r (d.segment g).state hold hold')
    (hr : RowFits g (viewOf (e.segment g) (hold' g)) r (e.row r))
    (hw : weight g (stepIn (e.segment g).exerciseList r) (e.row r) ≤
      weight g (stepIn (d.segment g).exerciseList r) (d.row r)) : BoardReached start hold' e := by
  refine h.onlySegment (c.onlySegment f) (c.list ▸ h.sound.rising g) (c.segSound f h.sound hr) fun hm => ?_
  rw [c.limit]
  refine (load_le fun q => ?_).trans hm
  by_cases hq : q = r
  · exact hq ▸ hw
  · rw [c.step q hq]
    exact (weight_congr (c.rows q hq) g _).le

/-- A change of one row that counts one more, where there is room for it. -/
theorem BoardReached.oneRowMore (h : BoardReached start hold d) (c : RowOnly g r d e)
    (f : FrameFor g r (d.segment g).state hold hold')
    (hr : RowFits g (viewOf (e.segment g) (hold' g)) r (e.row r))
    (hw : weight g (stepIn (e.segment g).exerciseList r) (e.row r) ≤
      weight g (stepIn (d.segment g).exerciseList r) (d.row r) + 1)
    (hroom : load g (stepIn (d.segment g).exerciseList) d.row < (d.segment g).motionLimit) :
    BoardReached start hold' e := by
  refine h.onlySegment (c.onlySegment f) (c.list ▸ h.sound.rising g) (c.segSound f h.sound hr) fun _ => ?_
  rw [c.limit]
  refine (load_le_succ r hw fun q hq => ?_).trans hroom
  rw [c.step q hq]
  exact (weight_congr (c.rows q hq) g _).le

/-! ## The shapes of a change of one row -/

/-- The row's own record has changed, and of the segment what the conditions do not read. -/
theorem RowOnly.ofRow {x : Row} (h : BoardSound hold d) (hon : (d.row r).onSegment g = true)
    (hrow : ∀ q, e.row q = if q = r then x else d.row q) (hx : x.rowUnit = (d.row r).rowUnit)
    (hseg : ∀ k, SameSegment (d.segment k) (e.segment k)) : RowOnly g r d e := by
  refine ⟨hon, ?_, fun q hq => ?_, fun k _ => hseg k, (hseg g).state, (hseg g).limit, ?_, fun q _ => ?_, ?_, fun q _ => ?_⟩
  · rw [hrow, if_pos rfl, hx]
  · rw [hrow, if_neg hq]
    exact .refl _
  · rw [(hseg g).queue]
    exact (h.segment g).nodup
  · rw [(hseg g).queue]
  · rw [(hseg g).list]
  · rw [(hseg g).list]

/-- The row joins the queue. -/
theorem RowOnly.ofEnqueue {x : Row} (h : BoardSound hold d) (hon : (d.row r).onSegment g = true)
    (hout : (d.row r).display ≠ .queued) (hrow : ∀ q, e.row q = if q = r then x else d.row q)
    (hx : x.rowUnit = (d.row r).rowUnit) (hseg : ∀ k, e.segment k =
      { d.segment k with queue := (d.segment k).queue ++ if (d.row r).onSegment k then [r] else [] }) :
    RowOnly g r d e := by
  have hmem : r ∉ (d.segment g).queue := fun hr => hout (((h.segment g).fits r).queued.1 hr).1
  refine ⟨hon, ?_, fun q hq => ?_, fun k hk => ?_, ?_, ?_, ?_, fun q hq => ?_, ?_, fun q _ => ?_⟩
  · rw [hrow, if_pos rfl, hx]
  · rw [hrow, if_neg hq]
    exact .refl _
  · have hoff : (d.row r).onSegment k = false := by
      rw [← Bool.not_eq_true]
      exact fun hk' => hk (onSegment_unique hk' hon)
    rw [hseg, hoff]
    exact ⟨rfl, rfl, List.append_nil _, rfl⟩
  · rw [hseg]
  · rw [hseg]
  · rw [hseg, hon]
    exact List.nodup_append.2 ⟨(h.segment g).nodup, by simp, fun a ha b hb => by
      rw [List.mem_singleton.1 hb]
      exact fun e => hmem (e ▸ ha)⟩
  · rw [hseg, hon]
    simp [hq]
  · rw [hseg]
  · rw [hseg]

/-- The row leaves the queue. -/
theorem RowOnly.ofDequeue {x : Row} (h : BoardSound hold d) (hon : (d.row r).onSegment g = true)
    (hrow : ∀ q, e.row q = if q = r then x else d.row q)
    (hx : x.rowUnit = (d.row r).rowUnit) (hother : ∀ k, k ≠ g → SameSegment (d.segment k) (e.segment k))
    (hseg : e.segment g = { d.segment g with queue := (d.segment g).queue.filter (fun q => q ≠ r) }) :
    RowOnly g r d e := by
  refine ⟨hon, ?_, fun q hq => ?_, hother, ?_, ?_, ?_, fun q hq => ?_, ?_, fun q _ => ?_⟩
  · rw [hrow, if_pos rfl, hx]
  · rw [hrow, if_neg hq]
    exact .refl _
  · rw [hseg]
  · rw [hseg]
  · rw [hseg]
    exact (h.segment g).nodup.filter _
  · rw [hseg]
    simp [hq]
  · rw [hseg]
  · rw [hseg]

/-- The row's step has changed, and its own record. -/
theorem RowOnly.ofStep {x : Row} (h : BoardSound hold d) (hon : (d.row r).onSegment g = true)
    (hrow : ∀ q, e.row q = if q = r then x else d.row q) (hx : x.rowUnit = (d.row r).rowUnit)
    (hother : ∀ k, k ≠ g → SameSegment (d.segment k) (e.segment k))
    {f : ExerciseRow → ExerciseRow} (hf : ∀ y, (f y).row = y.row) {st : ExerciseStep} (hst : ∀ y, (f y).step = st)
    (hstate : (e.segment g).state = (d.segment g).state) (hlimit : (e.segment g).motionLimit = (d.segment g).motionLimit)
    (hqueue : (e.segment g).queue = (d.segment g).queue)
    (hlist : (e.segment g).exerciseList = (d.segment g).exerciseList.map (fun y => if y.row = r then f y else y)) :
    RowOnly g r d e := by
  refine ⟨hon, ?_, fun q hq => ?_, hother, hstate, hlimit, ?_, fun q _ => ?_, ?_, fun q hq => ?_⟩
  · rw [hrow, if_pos rfl, hx]
  · rw [hrow, if_neg hq]
    exact .refl _
  · rw [hqueue]
    exact (h.segment g).nodup
  · rw [hqueue]
  · rw [hlist, List.map_map]
    refine List.map_congr_left fun y _ => ?_
    show (if y.row = r then f y else y).row = y.row
    split
    · exact hf y
    · rfl
  · rw [hlist, stepIn_setRow _ hf r q hst, if_neg hq]

end Sys2Proof.Machine
end


section
/-! PROOFS. The conditions of R91, R95, R96, R112 and R124 after each shared operation of the board controller and of the board
lines. -/

namespace Sys2Proof.Machine

variable {start : Device} {g : SegNo} {r : RowNo} {hold : SegNo → Option Frame} {d : Device}

/-- A change of a row that the conditions do not read. -/
theorem BoardReached.modRow {f : Row → Row} (h : BoardReached start hold d) (hf : SameRow (d.row r) (f (d.row r))) :
    BoardReached start hold (d.modRow r f) := by
  refine h.same (fun q => ?_) (fun k => ?_)
  · rw [row_modRow]
    split
    · next hq => exact hq ▸ hf
    · exact .refl _
  · rw [(modRow_changes d r _).segment_eq (by simp)]
    exact .refl _

/-- A change of other parts. -/
theorem BoardReached.changes {l : List Part} {e : Device} (h : BoardReached start hold d) (hc : ChangesOnly l d e)
    (hrows : Part.rows ∉ l) (hsegments : Part.segments ∉ l) : BoardReached start hold e :=
  h.same (fun q => by rw [hc.row_eq hrows]; exact .refl _) (fun k => by rw [hc.segment_eq hsegments]; exact .refl _)

/-- A row that is no more in motion counts no more. -/
theorem weight_le {x y : Row} {st st' : Option ExerciseStep} (hu : y.rowUnit = x.rowUnit)
    (hd : y.display = .moving ∨ y.display = .sending → x.display = .moving ∨ x.display = .sending)
    (hst : st' = some .patternSent ∨ st' = some .turning → st = some .patternSent ∨ st = some .turning) :
    weight g st' y ≤ weight g st x := by
  unfold weight
  rw [onSegment_congr hu]
  refine Nat.add_le_add ?_ ?_
  · split
    · next h => rw [if_pos ⟨h.1, hd h.2⟩]
    · exact Nat.zero_le _
  · split
    · next h => rw [if_pos (hst h)]
    · exact Nat.zero_le _

/-! ## Joining the queue -/

theorem InHand.queued {st : Option ExerciseStep} {x : Row} {f : Frame} (h : InHand g st x f) (hx : x.display ≠ .sending) :
    InHand g st { x with display := .queued } f := by
  obtain ⟨use, row, address, body⟩ := f
  cases use with
  | repaint =>
    cases body with
    | image i => exact absurd h.2.1 hx
    | _ => exact h
  | lampChange =>
    cases body with
    | lamps l => exact ⟨h.1, .inr rfl, h.2.2⟩
    | _ => exact h
  | pattern => cases body <;> exact h
  | echoRequest => cases body <;> exact h
  | completionPoll => cases body <;> exact h
  | readinessPoll => cases body <;> exact h

/-- A row that is in service or may come back to it joins the queue (R94, R95). -/
theorem BoardReached.enqueue (h : BoardReached start hold d) (hon : (d.row r).onSegment g = true)
    (hd : (d.row r).display = .clean ∨ (d.row r).display = .faulted ∨
      ((d.row r).display = .down ∧ (d.row r).cause ≠ .segmentOff)) : BoardReached start hold (enqueueRow r d) := by
  have hfit := (h.sound.segment g).fits r
  have hnot : (d.row r).display ≠ .queued ∧ (d.row r).display ≠ .sending := by
    obtain hd | hd | ⟨hd, -⟩ := hd <;> simp [hd]
  have hrow (q : RowNo) : (enqueueRow r d).row q = if q = r then { d.row r with display := .queued } else d.row q := by
    obtain ⟨u, hu, -⟩ := onSegment_iff.1 hon
    rw [row_enqueueRow]
    simp [hu]
  have honly := RowOnly.ofEnqueue h.sound hon hnot.1 hrow rfl (fun k => segment_enqueueRow r k d)
  have hview : viewOf ((enqueueRow r d).segment g) (hold g) =
      { viewOf (d.segment g) (hold g) with queue := (d.segment g).queue ++ [r] } := by
    rw [segment_enqueueRow, hon]
    rfl
  refine h.oneRow honly (h.sound.frameKept g r) ?_ ?_
  · rw [hview, hrow, if_pos rfl]
    refine ⟨⟨fun _ => ⟨rfl, hon⟩, fun _ => by simp⟩, fun hs _ => ?_, fun st hst => ?_, fun f hf hr => ?_,
      fun _ hs => absurd hs (by simp), hfit.patternSent⟩
    · obtain ⟨hdown, hcause⟩ := hfit.off hs hon
      obtain hd | hd | ⟨-, hd⟩ := hd
      · exact absurd (hdown.symm.trans hd) (by simp)
      · exact absurd (hdown.symm.trans hd) (by simp)
      · exact absurd hcause hd
    · obtain ⟨hs, hon, -⟩ := hfit.listed st hst
      exact ⟨hs, hon, fun _ => .inr rfl⟩
    · exact (hfit.frame f hf hr).queued hnot.2
  · rw [hrow, if_pos rfl, segment_enqueueRow]
    exact weight_le rfl (by simp) id

/-- A mark (R94). -/
theorem BoardReached.mark (h : BoardReached start hold d) (r : RowNo) : BoardReached start hold (markRow r d) := by
  obtain hd | hd | hd := display_cases (d.row r).display
  · rw [markRow_of_clean hd]
    have hsame := h.modRow (r := r) (f := fun x => { x with lampOffOwed := false }) ⟨rfl, rfl, rfl, rfl⟩
    cases hu : (d.row r).rowUnit with
    | none => exact absurd ((h.sound.noUnit r hu).1.symm.trans hd) (by simp)
    | some u =>
      refine hsame.enqueue (g := u.segment) ?_ (.inl ?_)
      · rw [row_modRow, if_pos rfl]
        exact onSegment_of_unit hu
      · rw [row_modRow, if_pos rfl]
        exact hd
  · rw [markRow_of_painting hd]
    exact h.modRow (r := r) (f := fun x => { x with again := true }) ⟨rfl, rfl, rfl, rfl⟩
  · rw [markRow_of_waiting hd]
    exact h

/-! ## The end of an exercise -/

theorem mem_passedOf {l : List ExerciseRow} (h : (l.map (·.row)).Nodup) {r : RowNo} :
    r ∈ passedOf l ↔ stepIn l r = some .passed := by
  rw [stepIn_eq_some h]
  simp only [passedOf, List.mem_map, List.mem_filter, beq_iff_eq]
  constructor
  · rintro ⟨x, ⟨hx, hst⟩, hr⟩
    exact ⟨x, hx, hr, hst⟩
  · rintro ⟨x, hx, hr, hst⟩
    exact ⟨x, ⟨hx, hst⟩, hr⟩

theorem stepIn_of_over {l : List ExerciseRow} (h : (l.map (·.row)).Nodup) (hover : exerciseOver l = true) {r : RowNo}
    {st : ExerciseStep} (hst : stepIn l r = some st) : st = .passed ∨ st = .failed := by
  obtain ⟨x, hx, -, rfl⟩ := (stepIn_eq_some h).1 hst
  simpa using List.all_eq_true.1 hover x hx

/-- With the exercise over, a frame in hand says of its row what it says of the row when the exercise has ended. -/
theorem InHand.passed {st : Option ExerciseStep} {x : Row} {f : Frame} (h : InHand g st x f)
    (hst : ∀ s, st = some s → s = .passed ∨ s = .failed) :
    InHand g none (if st = some .passed then passedRow x else x) f := by
  have hno {s : ExerciseStep} (hs : st = some s) (hp : s ≠ .passed) (hf : s ≠ .failed) {p : Prop} : p :=
    ((hst s hs).elim hp hf).elim
  obtain ⟨use, row, address, body⟩ := f
  cases use with
  | repaint =>
    cases body with
    | image i =>
      obtain ⟨hu, hd, hs⟩ := h
      split
      · exact ⟨hu, by simp [passedRow, hd], hs⟩
      · exact ⟨hu, hd, hs⟩
    | _ => exact h
  | lampChange =>
    cases body with
    | lamps l =>
      obtain ⟨hu, hd, hs⟩ := h
      obtain rfl | hs := hs
      · exact ⟨hu, hd, .inl rfl⟩
      · exact hno hs (by simp) (by simp)
    | _ => exact h
  | pattern =>
    cases body with
    | image i => exact hno h.2 (by simp) (by simp)
    | _ => exact h
  | echoRequest =>
    cases body with
    | echoRequest => exact hno h.2 (by simp) (by simp)
    | _ => exact h
  | completionPoll => cases body <;> exact h
  | readinessPoll => cases body <;> exact h

theorem passedRow_display_ne {x : Row} {s : Display} (hs : s ≠ .clean) (hq : s ≠ .queued) :
    (passedRow x).display = s ↔ x.display = s := by
  unfold passedRow
  by_cases hx : x.display = .clean
  · simp [hx, Ne.symm hs, Ne.symm hq]
  · simp [hx]

theorem passedRow_display_queued {x : Row} : (passedRow x).display = .queued ↔ x.display = .clean ∨ x.display = .queued := by
  unfold passedRow
  by_cases hx : x.display = .clean
  · simp [hx]
  · simp [hx]

/-- The check for the end of an exercise (R126). -/
theorem BoardReached.afterExerciseCheck (h : BoardReached start hold d) (g : SegNo) :
    BoardReached start hold (exerciseCheck g d) := by
  cases hover : exerciseOver (d.segment g).exerciseList with
  | false =>
    rw [exerciseCheck_of_not_over hover]
    exact h
  | true =>
    by_cases hstate : (d.segment g).state = .exercise
    case neg =>
      have hsame : exerciseCheck g d = d := if_neg fun hc => hstate hc.1
      rw [hsame]
      exact h
    have hnodup := nodup_of_rising (h.sound.rising g)
    obtain ⟨hother, -, hends⟩ := exerciseCheck_goesOn hstate hnodup (fun x hx => h.sound.onSegment hx)
    obtain ⟨hseg, -, hrow, -⟩ := hends hover
    have hmem {q : RowNo} := mem_passedOf hnodup (r := q)
    have hrow' (q : RowNo) : (exerciseCheck g d).row q =
        if stepIn (d.segment g).exerciseList q = some .passed then passedRow (d.row q) else d.row q := by
      rw [hrow]
      exact if_congr hmem rfl rfl
    have hdisplay {s : Display} (hs : s ≠ .clean) (hq : s ≠ .queued) (q : RowNo) :
        ((exerciseCheck g d).row q).display = s ↔ (d.row q).display = s := by
      rw [hrow']
      split
      · exact passedRow_display_ne hs hq
      · exact Iff.rfl
    have hunit (q : RowNo) : ((exerciseCheck g d).row q).rowUnit = (d.row q).rowUnit := by
      rw [hrow']
      split <;> rfl
    refine h.onlySegment (hold' := hold) (g := g) ⟨hunit, fun q hq => ?_, fun k hk => ?_, fun _ _ => rfl⟩ ?_ ?_ fun hm => ?_
    · have hnone : stepIn (d.segment g).exerciseList q ≠ some .passed := fun hst =>
        absurd (hq.symm.trans (((h.sound.segment g).fits q).listed _ hst).2.1) (by simp)
      rw [hrow', if_neg hnone]
      exact .refl _
    · rw [(hother k hk).1]
      exact .refl _
    · rw [hseg]
      exact List.Pairwise.nil
    · rw [hseg]
      refine ⟨?_, fun hs => absurd hs (by simp [viewOf]), fun q => ?_⟩
      · refine List.nodup_append.2 ⟨(h.sound.segment g).nodup, (hnodup.sublist (passedOf_sublist _)).filter _,
          fun a ha b hb e => ?_⟩
        have hclean : (d.row b).display = .clean := by simpa using (List.mem_filter.1 hb).2
        have hqueued := (((h.sound.segment g).fits a).queued.1 ha).1
        rw [e, hclean] at hqueued
        exact Display.noConfusion hqueued
      · have hfit := (h.sound.segment g).fits q
        have hover' {st : ExerciseStep} (hst : stepIn (d.segment g).exerciseList q = some st) :=
          stepIn_of_over hnodup hover hst
        refine ⟨?_, fun hs => absurd hs (by simp [viewOf]), fun st hst => ?_, fun f hf hr => ?_, fun hon hs => ?_,
          fun hst => ?_⟩
        · rw [onSegment_congr (hunit q), hrow']
          show q ∈ (d.segment g).queue ++ (passedOf (d.segment g).exerciseList).filter _ ↔ _
          rw [List.mem_append, List.mem_filter, hmem]
          have hq : q ∈ (d.segment g).queue ↔ (d.row q).display = .queued ∧ (d.row q).onSegment g = true := hfit.queued
          by_cases hst : stepIn (d.segment g).exerciseList q = some .passed
          · have hon := (hfit.listed _ hst).2.1
            rw [hq, if_pos hst, passedRow_display_queued]
            simp [hst, hon, or_comm]
          · simp [hst, hq]
        · exact absurd hst (by simp [viewOf, stepIn])
        · rw [hrow']
          exact (hfit.frame f hf hr).passed fun s hs => hover' hs
        · exact hfit.sending (by rwa [onSegment_congr (hunit q)] at hon) ((hdisplay (by simp) (by simp) q).1 hs)
        · exact absurd hst (by simp [viewOf, stepIn])
    · rw [hseg]
      refine (load_le fun q => ?_).trans hm
      refine weight_le (hunit q) (fun hd => ?_) (fun hst => ?_)
      · exact hd.imp (hdisplay (by simp) (by simp) q).1 (hdisplay (by simp) (by simp) q).1
      · simp [stepIn] at hst

/-! ## Entry into DOWN and FAULTED -/

/-- A frame that says nothing of its row. -/
def Frame.isPoll (f : Frame) : Prop := (f.use = .completionPoll ∨ f.use = .readinessPoll) ∧ f.body = .poll

theorem InHand.ofPoll {f : Frame} (h : f.isPoll) (g : SegNo) (st : Option ExerciseStep) (x : Row) : InHand g st x f := by
  obtain ⟨hu | hu, hb⟩ := h
  · unfold InHand
    rw [hu, hb]
    trivial
  · unfold InHand
    rw [hu, hb]
    trivial

/-- A poll of a row, or a frame of which its row is out of service, says nothing of the row. -/
theorem InHand.isPoll {st : Option ExerciseStep} {x : Row} {f : Frame} (h : InHand g st x f)
    (hsending : x.display ≠ .sending) (hservice : x.display ≠ .clean ∧ x.display ≠ .queued)
    (hstep : ∀ s, st = some s → ¬ underTest s) : f.isPoll := by
  obtain ⟨use, row, address, body⟩ := f
  cases use with
  | repaint =>
    cases body with
    | image i => exact absurd h.2.1 hsending
    | _ => exact h.elim
  | lampChange =>
    cases body with
    | lamps l => exact absurd h.2.1 (not_or.2 hservice)
    | _ => exact h.elim
  | pattern =>
    cases body with
    | image i => exact absurd (.inl rfl) (hstep _ h.2)
    | _ => exact h.elim
  | echoRequest =>
    cases body with
    | echoRequest => exact absurd (.inr (.inr rfl)) (hstep _ h.2)
    | _ => exact h.elim
  | completionPoll =>
    cases body with
    | poll => exact ⟨.inl rfl, rfl⟩
    | _ => exact h.elim
  | readinessPoll =>
    cases body with
    | poll => exact ⟨.inr rfl, rfl⟩
    | _ => exact h.elim

/-- A row out of service, and not on its way to the unit, has no frame but a poll in hand. -/
theorem RowFits.isPoll {v : SegView} {x : Row} (h : RowFits g v r x)
    (hx : x.display = .down ∨ x.display = .faulted ∨ x.display = .moving) {f : Frame} (hf : v.frame = some f)
    (hr : f.row = r) : f.isPoll := by
  have hnot : x.display ≠ .sending ∧ x.display ≠ .clean ∧ x.display ≠ .queued := by
    obtain hx | hx | hx := hx <;> simp [hx]
  exact (h.frame f hf hr).isPoll hnot.1 hnot.2 fun s hs hu => absurd ((h.listed s hs).2.2 hu) (not_or.2 hnot.2)

variable {hold' : SegNo → Option Frame} {e : Device}

theorem underTest_failed {st : Option ExerciseStep} {s : ExerciseStep}
    (h : st.map (fun s => if s = .passed then ExerciseStep.passed else .failed) = some s) :
    st.isSome = true ∧ s ≠ .patternSent ∧ s ≠ .turning ∧ s ≠ .echoing := by
  cases st with
  | none => exact absurd h (by simp)
  | some s' =>
    simp only [Option.map_some, Option.some.injEq] at h
    split at h <;> subst h <;> simp

/-- A row in a dark state, out of the queue and FAILED if it was listed and not PASSED. -/
theorem BoardReached.dark {s : Display} {c : Cause} (h : BoardReached start hold d) (hon : (d.row r).onSegment g = true)
    (hs : s = .down ∨ s = .faulted) (hstate : (d.segment g).state ≠ .disabled)
    (hframe : FrameFor g r (d.segment g).state hold hold') (hpoll : ∀ f, hold' g = some f → f.row = r → f.isPoll)
    (hrow : ∀ q, e.row q = if q = r then darkRow (d.row r) s c else d.row q)
    (hother : ∀ k, k ≠ g → SameSegment (d.segment k) (e.segment k))
    (hseg : e.segment g = { d.segment g with
      queue := (d.segment g).queue.filter (fun q => q ≠ r), exerciseList := failedIn r (d.segment g).exerciseList }) :
    BoardReached start hold' e := by
  have hfit := (h.sound.segment g).fits r
  have hstep : stepIn (e.segment g).exerciseList r = (stepIn (d.segment g).exerciseList r).map
      (fun s => if s = .passed then ExerciseStep.passed else .failed) := by
    rw [hseg, stepIn_failedIn, if_pos rfl]
  have honly : RowOnly g r d e := by
    refine ⟨hon, ?_, fun q hq => ?_, hother, ?_, ?_, ?_, fun q hq => ?_, ?_, fun q hq => ?_⟩
    · rw [hrow, if_pos rfl]
      rfl
    · rw [hrow, if_neg hq]
      exact .refl _
    · rw [hseg]
    · rw [hseg]
    · rw [hseg]
      exact (h.sound.segment g).nodup.filter _
    · rw [hseg]
      simp [hq]
    · rw [hseg, map_row_failedIn]
    · rw [hseg, stepIn_failedIn, if_neg hq]
  have hdark : (e.row r).display = s := by
    rw [hrow, if_pos rfl]
    rfl
  have hno {s' : Display} (h' : (e.row r).display = s') (hd : s' ≠ .down) (hf : s' ≠ .faulted) {p : Prop} : p :=
    (hs.elim (fun hs => hd (h' ▸ hdark ▸ hs)) (fun hs => hf (h' ▸ hdark ▸ hs))).elim
  refine h.oneRow honly hframe ⟨⟨fun hq => ?_, fun hq => hno hq.1 (by simp) (by simp)⟩, fun hd => ?_, fun st hst => ?_,
    fun f hf hr => .ofPoll (hpoll f hf hr) _ _ _, fun _ hd => hno hd (by simp) (by simp), fun hst => ?_⟩
    (weight_le honly.unit (fun hd => ?_) fun hst => ?_)
  · exfalso
    have hq' : r ∈ (e.segment g).queue := hq
    rw [hseg] at hq'
    simp at hq'
  · exact absurd (honly.state ▸ hd) hstate
  · obtain ⟨hsome, hne⟩ := underTest_failed (hstep.symm.trans hst)
    obtain ⟨s', hs'⟩ := Option.isSome_iff_exists.1 hsome
    refine ⟨honly.state.trans (hfit.listed s' hs').1, (onSegment_congr honly.unit g).trans hon, fun hu => ?_⟩
    exact absurd hu (by simp [underTest, hne])
  · exact absurd rfl (underTest_failed (hstep.symm.trans hst)).2.1
  · exact hd.elim (fun hd => hno hd (by simp) (by simp)) (fun hd => hno hd (by simp) (by simp))
  · exact (hst.elim (fun hst => (underTest_failed (hstep.symm.trans hst)).2.1 rfl)
      (fun hst => (underTest_failed (hstep.symm.trans hst)).2.2.1 rfl)).elim

/-- The entry into DOWN or FAULTED of a row in service (R93, R125). -/
theorem BoardReached.afterDarken {u : RowUnit} {s : Display} (h : BoardReached start hold d) (hu : (d.row r).rowUnit = some u)
    (hs : s = .down ∨ s = .faulted) (hstate : (d.segment u.segment).state ≠ .disabled)
    (hframe : FrameFor u.segment r (d.segment u.segment).state hold hold')
    (hpoll : ∀ f, hold' u.segment = some f → f.row = r → f.isPoll) (c : Cause) (notice : Bool) :
    BoardReached start hold' (darken r s c notice d) := by
  have hon : (d.row r).onSegment u.segment = true := onSegment_of_unit hu
  have hother (k : SegNo) (hk : k ≠ u.segment) : SameSegment (d.segment k) ((darkenOnly r s c notice d).segment k) := by
    have hoff : (d.row r).onSegment k = false := by
      rw [← Bool.not_eq_true]
      exact fun hk' => hk (onSegment_unique hk' hon)
    rw [segment_darkenOnly, hoff]
    exact ⟨rfl, rfl, rfl, rfl⟩
  have hunit : ((darkenOnly r s c notice d).row r).rowUnit = some u := by
    rw [row_darkenOnly, if_pos rfl]
    exact hu
  have hseg := segment_darkenOnly r u.segment s c notice d
  rw [if_pos hon] at hseg
  by_cases hex : (d.segment u.segment).state = .exercise
  · have hset := segment_setStep r (fun x => if stepDone x.step then x else { x with step := .failed }) u.segment
      (d := darkenOnly r s c notice d)
    have hfail : exerciseFail r (darkenOnly r s c notice d) = exerciseCheck u.segment (setStep r
        (fun x => if stepDone x.step then x else { x with step := .failed }) u.segment (darkenOnly r s c notice d)) := by
      unfold exerciseFail
      rw [hunit]
      exact if_pos (by rw [hseg]; exact hex)
    rw [darken_eq, hfail]
    refine BoardReached.afterExerciseCheck ?_ _
    refine h.dark hon hs hstate hframe hpoll (c := c) (fun q => ?_) (fun k hk => ?_) ?_
    · rw [(setStep_changes r _ _ _).row_eq (by simp), row_darkenOnly]
    · rw [hset, if_neg hk]
      exact hother k hk
    · rw [hset, if_pos rfl, failedIn_eq, hseg]
  · have hnil : (d.segment u.segment).exerciseList = [] := by
      by_contra hne
      exact hex (h.sound.listed hne)
    rw [darken_of_not_exercise hu hex]
    refine h.dark hon hs hstate hframe hpoll (c := c) (row_darkenOnly r · s c notice d) hother ?_
    rw [hseg, hnil]
    simp [hnil, failedIn]

end Sys2Proof.Machine
end


section
/-! PROOFS. The conditions of R91, R95, R96, R112 and R124 over the answers of the row units and the timers (R100 to R103, R113 to
R125). -/

namespace Sys2Proof.Machine

variable {start : Device} {g : SegNo} {r : RowNo} {hold : SegNo → Option Frame} {d : Device} {f : Frame}

/-! ## The end of an exchange -/

/-- The exchange of a frame that no row's state depends on ends. -/
theorem BoardReached.closed (h : BoardReached start hold d)
    (hf : ∀ f, hold g = some f → f.use ≠ .repaint ∧ f.use ≠ .pattern) : BoardReached start (holdWith hold g none) d := by
  have hseg := h.sound.segment g
  refine h.onlySegment (g := g) ⟨fun _ => rfl, fun _ _ => .refl _, fun _ _ => .refl _, fun k hk => if_neg hk⟩
    (h.sound.rising g) ?_ id
  rw [holdWith_same]
  refine ⟨hseg.nodup, fun _ => rfl, fun q => (hseg.fits q).elsewhere rfl Iff.rfl rfl (fun f' hf' => ?_)
    fun f' hf' _ hu => ?_⟩
  · exact absurd hf' (by simp [viewOf])
  · exact (hu.elim (hf f' hf').1 (hf f' hf').2).elim

theorem BoardReached.inHand (h : BoardReached start hold d) (hf : hold g = some f) :
    InHand g (stepIn (d.segment g).exerciseList f.row) (d.row f.row) f := ((h.sound.segment g).fits f.row).frame f hf rfl

theorem InHand.repaint {st : Option ExerciseStep} {x : Row} (h : InHand g st x f) (hu : f.use = .repaint) :
    ∃ s, f.body = .image s.image ∧ x.rowUnit = some ⟨g, f.address⟩ ∧ x.display = .sending ∧ x.sent = some s := by
  obtain ⟨use, row, address, body⟩ := f
  cases hu
  cases body with
  | image i =>
    obtain ⟨hx, hd, hs⟩ := h
    obtain ⟨s, hsent, rfl⟩ := Option.map_eq_some_iff.1 hs
    exact ⟨s, rfl, hx, hd, hsent⟩
  | _ => exact h.elim

theorem InHand.pattern {st : Option ExerciseStep} {x : Row} (h : InHand g st x f) (hu : f.use = .pattern) :
    ∃ i, f.body = .image i ∧ x.rowUnit = some ⟨g, f.address⟩ ∧ st = some .patternSent := by
  obtain ⟨use, row, address, body⟩ := f
  cases hu
  cases body with
  | image i => exact ⟨i, rfl, h⟩
  | _ => exact h.elim

/-- Only a poll has the body of a poll. -/
theorem InHand.poll_use {st : Option ExerciseStep} {x : Row} (h : InHand g st x f) (hb : f.body = .poll) :
    f.use = .completionPoll ∨ f.use = .readinessPoll := by
  obtain ⟨use, row, address, body⟩ := f
  cases hb
  cases use with
  | completionPoll => exact .inl rfl
  | readinessPoll => exact .inr rfl
  | _ => exact h.elim

theorem InHand.echo_use {st : Option ExerciseStep} {x : Row} (h : InHand g st x f) (hb : f.body = .echoRequest) :
    f.use = .echoRequest ∧ x.rowUnit = some ⟨g, f.address⟩ ∧ st = some .echoing := by
  obtain ⟨use, row, address, body⟩ := f
  cases hb
  cases use with
  | echoRequest => exact ⟨rfl, h⟩
  | _ => exact h.elim

/-- A frame that is no poll is for a row that has the unit it was addressed to. -/
theorem InHand.unit_of_not_poll {st : Option ExerciseStep} {x : Row} (h : InHand g st x f) (hb : f.body ≠ .poll) :
    x.rowUnit = some ⟨g, f.address⟩ := by
  obtain ⟨use, row, address, body⟩ := f
  cases use with
  | completionPoll =>
    cases body with
    | poll => exact absurd rfl hb
    | _ => exact h.elim
  | readinessPoll =>
    cases body with
    | poll => exact absurd rfl hb
    | _ => exact h.elim
  | repaint =>
    cases body with
    | image i => exact h.1
    | _ => exact h.elim
  | lampChange =>
    cases body with
    | lamps i => exact h.1
    | _ => exact h.elim
  | pattern =>
    cases body with
    | image i => exact h.1
    | _ => exact h.elim
  | echoRequest =>
    cases body with
    | echoRequest => exact h.1
    | _ => exact h.elim

/-! ## Motion (R100) -/

/-- A row whose motion starts. -/
def movedRow (order : Word) (est : Nat) (x : Row) : Row :=
  { x with
    motionOrder := some order, stallTimer := .running (stallTime est), pollWait := .running Config.pollWaitTime }

theorem row_startMotion (r q : RowNo) (g : SegNo) (est : Nat) (d : Device) : (startMotion r g est d).row q =
    if q = r then movedRow (d.segment g).motionCounter est (d.row r) else d.row q := by
  unfold startMotion
  rw [row_modRow, (modSegment_changes d g _).row_eq (by simp), (modSegment_changes d g _).row_eq (by simp)]
  rfl

theorem segment_startMotion (r : RowNo) (g k : SegNo) (est : Nat) (d : Device) : (startMotion r g est d).segment k =
    if k = g then { d.segment g with motionCounter := (d.segment g).motionCounter + 1 } else d.segment k := by
  unfold startMotion
  rw [(modRow_changes _ r _).segment_eq (by simp), segment_modSegment]

theorem sameSegment_startMotion (r : RowNo) (g k : SegNo) (est : Nat) (d : Device) :
    SameSegment (d.segment k) ((startMotion r g est d).segment k) := by
  rw [segment_startMotion]
  split
  · next hk => exact hk ▸ ⟨rfl, rfl, rfl, rfl⟩
  · exact .refl _

/-- The motion's order and timers are nothing the conditions read. -/
theorem BoardReached.startMotion (h : BoardReached start hold d) (r : RowNo) (g : SegNo) (est : Nat) :
    BoardReached start hold (startMotion r g est d) := by
  refine h.same (fun q => ?_) (sameSegment_startMotion r g · est d)
  rw [row_startMotion]
  split
  · next hq => exact hq ▸ ⟨rfl, rfl, rfl, rfl⟩
  · exact .refl _

/-- An accepted IMAGE frame: the SENDING row becomes MOVING (R100). -/
theorem BoardReached.sendingAccepted (h : BoardReached start hold d) (hf : hold g = some f) (hu : f.use = .repaint) :
    BoardReached start (holdWith hold g none) (d.modRow f.row (fun x => { x with display := .moving })) := by
  obtain ⟨s, -, hunit, hd, hs⟩ := (h.inHand hf).repaint hu
  have hon : (d.row f.row).onSegment g = true := onSegment_of_unit hunit
  have hfit := (h.sound.segment g).fits f.row
  have hno {st : ExerciseStep} (hst : stepIn (d.segment g).exerciseList f.row = some st) (ht : underTest st) {p : Prop} : p :=
    absurd ((hfit.listed st hst).2.2 ht) (by simp [hd])
  refine h.oneRow (.ofRow (x := { d.row f.row with display := .moving }) h.sound hon (fun q => row_modRow d f.row q _) rfl
    (fun _ => .refl _)) (.ended hf _) ?_ (weight_le ?_ ?_ id)
  · rw [holdWith_same, row_modRow, if_pos rfl]
    refine ⟨⟨fun hq => ?_, fun hq => absurd hq.1 (by simp)⟩, fun hs _ => ?_, fun st hst => ?_, fun _ hf' => ?_,
      fun _ hs => absurd hs (by simp), fun hst => hno hst (.inl rfl)⟩
    · exact absurd ((hfit.queued.1 hq).1.symm.trans hd) (by simp)
    · exact absurd ((hfit.off hs hon).1.symm.trans hd) (by simp)
    · exact ⟨(hfit.listed st hst).1, hon, fun ht => hno hst ht⟩
    · exact absurd hf' (by simp [viewOf])
  · rw [row_modRow, if_pos rfl]
  · exact fun _ => .inr hd

/-- An accepted pattern frame: the row at PATTERN-SENT turns (R124). -/
theorem BoardReached.patternAccepted (h : BoardReached start hold d) (hf : hold g = some f) (hu : f.use = .pattern) :
    BoardReached start (holdWith hold g none) (setStep f.row (fun y => { y with step := .turning }) g d) := by
  obtain ⟨i, -, hunit, hst⟩ := (h.inHand hf).pattern hu
  have hon : (d.row f.row).onSegment g = true := onSegment_of_unit hunit
  have hfit := (h.sound.segment g).fits f.row
  obtain ⟨hstate, -, hservice⟩ := hfit.listed _ hst
  have hset := fun k => segment_setStep f.row (fun y => { y with step := .turning }) g k d
  have hrow (q : RowNo) : (setStep f.row (fun y => { y with step := .turning }) g d).row q = d.row q :=
    (setStep_changes _ _ _ d).row_eq (by simp) q
  have honly : RowOnly g f.row d (setStep f.row (fun y => { y with step := .turning }) g d) := by
    refine .ofStep (x := d.row f.row) (f := fun y => { y with step := .turning }) (st := .turning) h.sound hon (fun q => ?_)
      rfl (fun k hk => ?_) (fun _ => rfl) (fun _ => rfl) ?_ ?_ ?_ ?_
    · rw [hrow]
      split
      · next hq => rw [hq]
      · rfl
    · rw [hset, if_neg hk]
      exact .refl _
    all_goals rw [hset, if_pos rfl]
  have hstep : stepIn ((setStep f.row (fun y => { y with step := .turning }) g d).segment g).exerciseList f.row =
      some .turning := by
    rw [hset, if_pos rfl, stepIn_setRow _ (f := fun y => { y with step := .turning }) (fun _ => rfl) f.row f.row
      (fun _ => rfl), if_pos rfl, hst]
    rfl
  refine h.oneRow honly (.ended hf _) ?_ ?_
  · rw [holdWith_same, hrow]
    refine ⟨?_, fun hs => ?_, fun st hst' => ?_, fun _ hf' => absurd hf' (by simp [viewOf]), fun _ hs => ?_, fun hst' => ?_⟩
    · show f.row ∈ ((setStep f.row _ g d).segment g).queue ↔ _
      rw [hset, if_pos rfl]
      exact hfit.queued
    · rw [show (viewOf ((setStep f.row _ g d).segment g) none).state = _ from honly.state] at hs
      exact absurd (hs.symm.trans hstate) (by simp)
    · exact ⟨honly.state.trans hstate, hon, fun _ => hservice (.inl rfl)⟩
    · obtain hd | hd := hservice (.inl rfl) <;> exact absurd (hd.symm.trans hs) (by simp)
    · exact absurd (hstep.symm.trans hst') (by simp)
  · rw [hstep, hst, hrow]
    simp [weight]

/-- What a good ACK does (R100, R103, R124). -/
theorem BoardReached.accepted (h : BoardReached start hold d) (hf : hold g = some f) :
    BoardReached start (holdWith hold g none) (accepted g f d) := by
  unfold Machine.accepted
  cases hu : f.use with
  | repaint =>
    obtain ⟨s, -, -, hd, hs⟩ := (h.inHand hf).repaint hu
    simp only [hd, hs]
    exact (h.sendingAccepted hf hu).startMotion _ _ _
  | pattern =>
    obtain ⟨i, -, -, hst⟩ := (h.inHand hf).pattern hu
    obtain ⟨x, hx, hxr, hxs⟩ := h.sound.stepIn_iff.1 hst
    dsimp only
    split
    · exact (h.patternAccepted hf hu).startMotion _ _ _
    · next hnone =>
      have hno := List.find?_eq_none.1 hnone x hx
      simp [hxr, hxs] at hno
  | lampChange =>
    refine (h.closed fun f' hf' => ?_).modRow ⟨rfl, rfl, rfl, rfl⟩
    rw [hf] at hf'
    cases hf'
    simp [hu]
  | _ =>
    refine h.closed fun f' hf' => ?_
    rw [hf] at hf'
    cases hf'
    simp [hu]

end Sys2Proof.Machine
end


section
/-! PROOFS. The conditions of R91, R95, R96, R112 and R124 over completions, polls, echoes, failures and timers (R101 to R103, R114
to R125). -/

namespace Sys2Proof.Machine

variable {start : Device} {g : SegNo} {r : RowNo} {hold : SegNo → Option Frame} {d : Device} {f : Frame}

/-! ## Completion (R101) -/

theorem row_payDone (r q : RowNo) (d : Device) :
    (payDone r d).row q = if q = r then { d.row r with owed := (d.row r).owed - 1 } else d.row q := by
  unfold payDone
  dsimp only
  split
  · next h0 =>
    split
    · next hq =>
      rw [hq]
      conv_lhs => rw [show d.row r = { d.row r with owed := (d.row r).owed } from rfl, h0]
      rw [h0]
    · rfl
  · split
    · rw [(reportShown_changes _).row_eq (by simp), row_modRow]
    · rw [row_modRow]

theorem settle_payDone (r : RowNo) (d : Device) :
    (payDone r d).channel.settle = (if (d.row r).owed = 1 then d.reportShown else d).channel.settle := by
  unfold payDone
  dsimp only
  split
  · next h0 => rw [h0]; rfl
  · split
    · exact settle_reportShown_congr (modRow_changes d r _ .settle (by simp))
    · exact modRow_changes d r _ .settle (by simp)

/-- A MOVING row's repaint ends, and it is CLEAN for the moment (R101). -/
theorem BoardReached.completed (h : BoardReached start hold d) (hon : (d.row r).onSegment g = true)
    (hd : (d.row r).display = .moving) (n : Nat) : BoardReached start hold (d.modRow r (completedRow n)) := by
  have hfit := (h.sound.segment g).fits r
  have hrow (q : RowNo) : (d.modRow r (completedRow n)).row q = if q = r then completedRow n (d.row r) else d.row q :=
    row_modRow d r q _
  have hno {st : ExerciseStep} (hst : stepIn (d.segment g).exerciseList r = some st) (ht : underTest st) {p : Prop} : p :=
    absurd ((hfit.listed st hst).2.2 ht) (by simp [hd])
  refine h.oneRow (.ofRow h.sound hon hrow rfl (fun _ => .refl _)) (h.sound.frameKept g r) ?_ ?_
  · rw [hrow, if_pos rfl]
    refine ⟨⟨fun hq => ?_, fun hq => absurd hq.1 (by simp [completedRow])⟩, fun hs _ => ?_, fun st hst => ?_,
      fun f hf hr => .ofPoll (hfit.isPoll (.inr (.inr hd)) hf hr) _ _ _, fun _ hs => absurd hs (by simp [completedRow]),
      hfit.patternSent⟩
    · exact absurd ((hfit.queued.1 hq).1.symm.trans hd) (by simp)
    · exact absurd ((hfit.off hs hon).1.symm.trans hd) (by simp)
    · exact ⟨(hfit.listed st hst).1, hon, fun ht => hno hst ht⟩
  · rw [hrow, if_pos rfl]
    exact weight_le rfl (by simp [completedRow]) id

theorem BoardReached.payDone (h : BoardReached start hold d) (r : RowNo) : BoardReached start hold (payDone r d) := by
  refine h.same (fun q => ?_) (fun k => ?_)
  · rw [row_payDone]
    split
    · next hq => exact hq ▸ ⟨rfl, rfl, rfl, rfl⟩
    · exact .refl _
  · rw [(payDone_changes r d).segment_eq (by simp)]
    exact .refl _

theorem BoardReached.completeRepaint (h : BoardReached start hold d) (hon : (d.row r).onSegment g = true)
    (hd : (d.row r).display = .moving) (k : SegNo) : BoardReached start hold (completeRepaint r k d) := by
  have hpaid := (h.completed hon hd (d.segment k).hold).payDone r
  unfold Machine.completeRepaint
  dsimp only
  split
  · refine BoardReached.enqueue (g := g) (hpaid.modRow ⟨rfl, rfl, rfl, rfl⟩) ?_ (.inl ?_)
    all_goals rw [row_modRow, if_pos rfl, row_payDone, if_pos rfl, row_modRow, if_pos rfl]
    · exact hon
    · rfl
  · exact hpaid

/-! ## Failures -/

/-- A row that is not SEGMENT-OFF sits on a segment in service. -/
theorem BoardSound.in_service (h : BoardSound hold d) (hon : (d.row r).onSegment g = true)
    (hd : ¬ ((d.row r).display = .down ∧ (d.row r).cause = .segmentOff)) : (d.segment g).state ≠ .disabled :=
  fun hs => hd (((h.segment g).fits r).off hs hon)

/-- A row in service with no frame but a poll in hand goes DOWN. -/
theorem BoardReached.enterDown {u : RowUnit} (h : BoardReached start hold d) (hu : (d.row r).rowUnit = some u)
    (hd : (d.row r).display ≠ .down) (hpoll : ∀ f, hold u.segment = some f → f.row = r → f.isPoll) (c : Cause) :
    BoardReached start hold (enterDown r c d) :=
  h.afterDarken hu (.inl rfl) (h.sound.in_service (onSegment_of_unit hu) fun hs => hd hs.1)
    (h.sound.frameKept u.segment r) hpoll c _

theorem BoardReached.enterFaulted {u : RowUnit} (h : BoardReached start hold d) (hu : (d.row r).rowUnit = some u)
    (hd : (d.row r).display ≠ .down) (hpoll : ∀ f, hold u.segment = some f → f.row = r → f.isPoll) (c : Cause) (cell : Nat) :
    BoardReached start hold (enterFaulted r c cell d) := by
  have hcell := h.modRow (r := r) (f := fun x => { x with faultCell := cell }) ⟨rfl, rfl, rfl, rfl⟩
  have hrow : (d.modRow r (fun x => { x with faultCell := cell })).row r = { d.row r with faultCell := cell } := by
    rw [row_modRow, if_pos rfl]
  refine hcell.afterDarken (u := u) ?_ (.inr rfl) (hcell.sound.in_service (r := r) ?_ ?_) (hcell.sound.frameKept _ _)
    hpoll c _
  all_goals rw [hrow]
  · exact hu
  · exact onSegment_of_unit hu
  · exact fun hs => hd hs.1

/-- The cause of a row with a unit is nothing the conditions read, while its segment is in service. -/
theorem BoardReached.cause (h : BoardReached start hold d) (hon : (d.row r).onSegment g = true)
    (hc : (d.row r).cause ≠ .segmentOff) (c : Cause) :
    BoardReached start hold (d.modRow r (fun x => { x with cause := c })) := by
  have hfit := (h.sound.segment g).fits r
  refine h.oneRow (.ofRow (x := { d.row r with cause := c }) h.sound hon (fun q => row_modRow d r q _) rfl
    (fun _ => .refl _)) (h.sound.frameKept g r) ?_ ?_
  · rw [row_modRow, if_pos rfl]
    refine ⟨hfit.queued, fun hs _ => absurd (hfit.off hs hon).2 hc, hfit.listed, fun f hf hr => ?_, hfit.sending,
      hfit.patternSent⟩
    have hin := hfit.frame f hf hr
    unfold InHand at *
    exact hin
  · rw [row_modRow, if_pos rfl]
    exact weight_le rfl id id

/-! ## Polls (R117, R119, R120) -/

theorem stillAt_iff : stillAt d g f = true ↔ (d.row f.row).rowUnit = some ⟨g, f.address⟩ := by simp [stillAt]

theorem turns_iff {r : RowNo} : turns d r = true ↔ (d.row r).display = .moving ∨ exerciseStep d r = some .turning := by
  simp [turns]

/-- A row that turns is in service. -/
theorem BoardSound.turns_display (h : BoardSound hold d) (hon : (d.row r).onSegment g = true) (ht : turns d r = true) :
    (d.row r).display = .moving ∨
      stepIn (d.segment g).exerciseList r = some .turning ∧ ((d.row r).display = .clean ∨ (d.row r).display = .queued) := by
  refine (turns_iff.1 ht).imp id fun hst => ?_
  rw [h.exerciseStep_eq hon] at hst
  exact ⟨hst, (((h.segment g).fits r).listed _ hst).2.2 (.inr (.inl rfl))⟩

/-- The row's step goes from TURNING to ECHOING, or from ECHOING to PASSED, with no frame in hand. -/
theorem BoardReached.nextStep {st st' : ExerciseStep} (h : BoardReached start hold d) (hfree : hold g = none)
    (hst : stepIn (d.segment g).exerciseList r = some st) (hunder : underTest st) (hne : st' ≠ .patternSent ∧ st' ≠ .turning)
    {e : Device} {x : Row} (hx : SameRow (d.row r) x) (hrow : ∀ q, e.row q = if q = r then x else d.row q)
    (hseg : ∀ k, e.segment k = if k = g then
      { d.segment g with exerciseList := (d.segment g).exerciseList.map (fun y => if y.row = r then { y with step := st' } else y) }
      else d.segment k) : BoardReached start hold e := by
  have hfit := (h.sound.segment g).fits r
  obtain ⟨hstate, hon, hservice⟩ := hfit.listed st hst
  have hservice := hservice hunder
  have honly : RowOnly g r d e := by
    refine .ofStep (f := fun y => { y with step := st' }) h.sound hon hrow hx.unit (fun k hk => ?_) (fun _ => rfl)
      (fun _ => rfl) ?_ ?_ ?_ ?_
    · rw [hseg, if_neg hk]
      exact .refl _
    all_goals rw [hseg, if_pos rfl]
  have hstep : stepIn (e.segment g).exerciseList r = some st' := by
    rw [hseg, if_pos rfl, stepIn_setRow _ (f := fun y => { y with step := st' }) (fun _ => rfl) r r (fun _ => rfl),
      if_pos rfl, hst]
    rfl
  have her : e.row r = x := by rw [hrow, if_pos rfl]
  have hdx : x.display = .clean ∨ x.display = .queued := by rwa [hx.display]
  refine h.oneRow honly (h.sound.frameKept g r) ?_ ?_
  · rw [her]
    refine ⟨?_, fun hs => ?_, fun s hs => ?_, fun _ hf' => ?_, fun _ hs => ?_, fun hs => ?_⟩
    · show r ∈ (e.segment g).queue ↔ _
      rw [hseg, if_pos rfl, hx.display, hx.onSegment]
      exact hfit.queued
    · exact absurd (hs.symm.trans (honly.state.trans hstate)) (by simp)
    · exact ⟨honly.state.trans hstate, (hx.onSegment g).trans hon, fun _ => hdx⟩
    · exact absurd (hfree.symm.trans hf') (by simp)
    · obtain hd | hd := hdx <;> exact absurd (hd.symm.trans hs) (by simp)
    · exact absurd (Option.some.inj (hstep.symm.trans hs)) hne.1
  · rw [her, hstep]
    refine weight_le hx.unit (fun hd => ?_) fun hs => ?_
    · rwa [hx.display] at hd
    · exact (hs.elim (fun hs => hne.1 (Option.some.inj hs)) (fun hs => hne.2 (Option.some.inj hs))).elim

/-- The answer to a completion poll (R117, R124). -/
theorem BoardReached.completionAnswer {u : RowUnit} (h : BoardReached start hold d) (hu : (d.row r).rowUnit = some u)
    (hfree : hold u.segment = none) (ready moving : Bool) :
    BoardReached start hold (completionAnswer u.segment r ready moving d) := by
  have hon : (d.row r).onSegment u.segment = true := onSegment_of_unit hu
  unfold Machine.completionAnswer
  split
  · exact h
  · next ht =>
    have hdisplay := h.sound.turns_display hon (by simpa using ht)
    have hup : (d.row r).display ≠ .down := by
      obtain hd | ⟨-, hd | hd⟩ := hdisplay <;> simp [hd]
    split
    · exact h.enterDown hu hup (fun f hf => absurd (hfree.symm.trans hf) (by simp)) _
    · split
      · exact h.modRow ⟨rfl, rfl, rfl, rfl⟩
      · split
        · next hd => exact h.completeRepaint hon hd _
        · next hd =>
          obtain hd' | ⟨hst, -⟩ := hdisplay
          · exact absurd hd' hd
          refine h.nextStep hfree hst (.inr (.inl rfl)) (st' := .echoing) (by simp)
            (x := { d.row r with stallTimer := .stopped, pollWait := .stopped, motionOrder := none }) ⟨rfl, rfl, rfl, rfl⟩
            (fun q => ?_) (fun k => ?_)
          · rw [(setStep_changes _ _ _ _).row_eq (by simp), row_modRow]
          · rw [segment_setStep, (modRow_changes d r _).segment_eq (by simp), (modRow_changes d r _).segment_eq (by simp)]

/-- The answer to a readiness poll (R119). -/
theorem BoardReached.readinessAnswer {u : RowUnit} (h : BoardReached start hold d) (hu : (d.row r).rowUnit = some u)
    (hfree : hold u.segment = none) (ready : Bool) : BoardReached start hold (readinessAnswer r ready d) := by
  have hpoll : ∀ f, hold u.segment = some f → f.row = r → f.isPoll := fun f hf => absurd (hfree.symm.trans hf) (by simp)
  have hon : (d.row r).onSegment u.segment = true := onSegment_of_unit hu
  unfold Machine.readinessAnswer
  split
  · next hd =>
    split
    · exact h
    · exact h.enterDown hu (by simp [hd]) hpoll _
  · next hd =>
    split
    · exact h
    · exact h.enterDown hu (by simp [hd]) hpoll _
  · next hd =>
    split
    · exact h
    · next hc =>
      split
      · have hshown := h.modRow (r := r) (f := fun x => { x with shown := none, shownSlot := none }) ⟨rfl, rfl, rfl, rfl⟩
        refine (BoardReached.enqueue (g := u.segment) hshown ?_ (.inr (.inr ⟨?_, ?_⟩))).changes (raise_changes _ _)
          (by simp) (by simp)
        all_goals rw [row_modRow, if_pos rfl]
        · exact hon
        · exact hd
        · exact hc
      · exact h.cause hon hc _
  · exact h
  · exact h
  · exact h

/-- What a good STATUS does (R117, R119). -/
theorem BoardReached.polled (h : BoardReached start hold d) (hfree : hold g = none) (state : Byte) (f : Frame) :
    BoardReached start hold (polled g state f d) := by
  unfold Machine.polled
  split
  · exact h
  · next hs =>
    have hu : (d.row f.row).rowUnit = some ⟨g, f.address⟩ := stillAt_iff.1 (by simpa using hs)
    split
    · exact h.completionAnswer hu hfree _ _
    · exact h.readinessAnswer hu hfree _
    · exact h

/-- A row is taken to be silent (R120). -/
theorem BoardReached.takenSilent {u : RowUnit} (h : BoardReached start hold d) (hu : (d.row r).rowUnit = some u)
    (hfree : hold u.segment = none) : BoardReached start hold (takenSilent r d) := by
  have hpoll : ∀ f, hold u.segment = some f → f.row = r → f.isPoll := fun f hf => absurd (hfree.symm.trans hf) (by simp)
  unfold Machine.takenSilent
  split
  · next hd => exact h.enterDown hu (by simp [hd]) hpoll _
  · next hd => exact h.enterDown hu (by simp [hd]) hpoll _
  · next hd => exact h.enterDown hu (by simp [hd]) hpoll _
  · split
    · exact h
    · next hc => exact h.cause (onSegment_of_unit hu) hc _
  · exact h
  · exact h

/-- The row of a poll that ends unanswered, counted (R117, R120). -/
def countedPoll (f : Frame) (d : Device) : Device :=
  d.modRow f.row (fun x =>
    { x with
      missed := min (x.missed + 1) Config.silentPolls,
      pollWait := if (f.use == .completionPoll && turns d f.row) = true then .running Config.pollWaitTime
        else x.pollWait })

theorem unansweredPoll_of_ignored (h : (d.row f.row).display = .faulted ∨ stillAt d g f = false) :
    unansweredPoll g f d = d := if_pos h

theorem unansweredPoll_of_counted (h : ¬ ((d.row f.row).display = .faulted ∨ stillAt d g f = false)) :
    unansweredPoll g f d =
      if min ((d.row f.row).missed + 1) Config.silentPolls = Config.silentPolls then takenSilent f.row (countedPoll f d)
      else countedPoll f d := by
  have hrow : ((countedPoll f d).row f.row).missed = min ((d.row f.row).missed + 1) Config.silentPolls := by
    rw [countedPoll, row_modRow, if_pos rfl]
  rw [← hrow]
  exact if_neg h

theorem BoardReached.unansweredPoll (h : BoardReached start hold d) (hfree : hold g = none) (f : Frame) :
    BoardReached start hold (unansweredPoll g f d) := by
  by_cases hs : (d.row f.row).display = .faulted ∨ stillAt d g f = false
  · rw [unansweredPoll_of_ignored hs]
    exact h
  · have hu : (d.row f.row).rowUnit = some ⟨g, f.address⟩ := stillAt_iff.1 (by simpa using (not_or.1 hs).2)
    have hcounted : BoardReached start hold (countedPoll f d) := h.modRow ⟨rfl, rfl, rfl, rfl⟩
    rw [unansweredPoll_of_counted hs]
    split
    · refine hcounted.takenSilent (u := ⟨g, f.address⟩) ?_ hfree
      rw [countedPoll, row_modRow, if_pos rfl]
      exact hu
    · exact hcounted

/-! ## Frames in hand -/

/-- The frame in hand is the same on every line. -/
def SameFrames (d e : Device) : Prop := framesOf e = framesOf d

theorem SameFrames.ofChanges {l : List Part} {d e : Device} (h : ChangesOnly l d e) (hl : Part.lines ∉ l) :
    SameFrames d e := by
  funext k
  rw [framesOf, h.line_eq hl]
  rfl

theorem sameFrames_exerciseCheck (g : SegNo) (d : Device) : SameFrames d (exerciseCheck g d) := by
  unfold exerciseCheck
  dsimp only
  split
  · funext k
    have hline := (ChangesOnly.forEach releasePassed_changes
      ((((d.segment g).exerciseList.filter (fun x => x.step == .passed))).map (·.row)) d).line_eq (by simp) k
    rw [framesOf, (raise_changes _ _).line_eq (by simp), line_modLine, (modSegment_changes _ _ _).line_eq (by simp),
      (modSegment_changes _ _ _).line_eq (by simp)]
    split
    · next hk =>
      rw [hk] at hline
      rw [hline, hk]
      rfl
    · rw [hline]
      rfl
  · rfl

theorem sameFrames_exerciseFail (r : RowNo) (d : Device) : SameFrames d (exerciseFail r d) := by
  unfold exerciseFail
  split
  · rfl
  · split
    · exact (sameFrames_exerciseCheck _ _).trans (SameFrames.ofChanges (setStep_changes _ _ _ d) (by simp))
    · rfl

theorem sameFrames_darken (r : RowNo) (s : Display) (c : Cause) (notice : Bool) (d : Device) :
    SameFrames d (darken r s c notice d) := by
  rw [darken_eq]
  refine (sameFrames_exerciseFail r _).trans ?_
  funext k
  rw [framesOf, line_darkenOnly]
  rfl

theorem sameFrames_enterFaulted (r : RowNo) (c : Cause) (cell : Nat) (d : Device) :
    SameFrames d (enterFaulted r c cell d) :=
  (sameFrames_darken r _ c true _).trans (SameFrames.ofChanges (modRow_changes d r _) (by simp))

end Sys2Proof.Machine
end


section
/-! PROOFS. The conditions of R91, R95, R96, R112 and R124 over the events of the board lines and of the rows. -/

namespace Sys2Proof.Machine

variable {start : Device} {g : SegNo} {r : RowNo} {hold : SegNo → Option Frame} {d : Device} {f : Frame}

/-! ## The frame in hand after an event -/

theorem sameFrames_takenSilent (r : RowNo) (d : Device) : SameFrames d (takenSilent r d) := by
  unfold takenSilent
  split
  · exact sameFrames_darken r _ _ _ d
  · exact sameFrames_darken r _ _ _ d
  · exact sameFrames_darken r _ _ _ d
  · split
    · rfl
    · rfl
  · rfl
  · rfl

theorem sameFrames_unansweredPoll (g : SegNo) (f : Frame) (d : Device) : SameFrames d (unansweredPoll g f d) := by
  by_cases hs : (d.row f.row).display = .faulted ∨ stillAt d g f = false
  · rw [unansweredPoll_of_ignored hs]
    rfl
  · rw [unansweredPoll_of_counted hs]
    split
    · exact sameFrames_takenSilent _ _
    · rfl

theorem sameFrames_accepted (g : SegNo) (f : Frame) (d : Device) : SameFrames d (accepted g f d) := by
  unfold accepted
  split
  · split
    · exact .ofChanges ((modRow_changes d _ _).andThen (startMotion_changes _ _ _ _) (n := [.rows, .segments])
        (by simp) (by simp)) (by simp)
    · rfl
  · split
    · exact .ofChanges ((setStep_changes _ _ _ d).andThen (startMotion_changes _ _ _ _) (n := [.rows, .segments])
        (by simp) (by simp)) (by simp)
    · rfl
  · rfl
  · rfl

theorem sameFrames_polled (g : SegNo) (state : Byte) (f : Frame) (d : Device) : SameFrames d (polled g state f d) := by
  unfold polled
  split
  · rfl
  · split
    · unfold completionAnswer
      split
      · rfl
      · split
        · exact sameFrames_darken _ _ _ _ d
        · split
          · rfl
          · split
            · exact .ofChanges (completeRepaint_changes _ _ d) (by simp)
            · rfl
    · unfold readinessAnswer
      split
      · split
        · rfl
        · exact sameFrames_darken _ _ _ _ d
      · split
        · rfl
        · exact sameFrames_darken _ _ _ _ d
      · split
        · rfl
        · split
          · exact .ofChanges (((modRow_changes d _ _).andThen (enqueueRow_changes _ _) (n := [.rows, .segments]) (by simp)
              (by simp)).andThen (raise_changes _ _) (n := [.rows, .segments, .notices]) (by simp) (by simp)) (by simp)
          · rfl
      · rfl
      · rfl
      · rfl
    · rfl

theorem sameFrames_echoed (g : SegNo) (sensed : List Byte) (f : Frame) (d : Device) :
    SameFrames d (echoed g sensed f d) := by
  unfold echoed
  split
  · dsimp only
    split
    · exact sameFrames_exerciseCheck g _
    · exact sameFrames_enterFaulted _ _ _ d
  · rfl

theorem framesOf_endExchange (g : SegNo) (d : Device) : framesOf (endExchange g d) = holdWith (framesOf d) g none := by
  funext k
  unfold framesOf endExchange holdWith
  rw [line_modLine]
  split <;> rfl

/-! ## Answers (R113 to R115) -/

/-- What an event keeps: from sound conditions, the conditions and the motion limit. -/
structure BoardKept (d e : Device) : Prop where
  reached : BoardSound (framesOf d) d → BoardReached d (framesOf e) e

theorem BoardSound.reached (h : BoardSound hold d) : BoardReached d hold d := ⟨h, id⟩

theorem BoardKept.refl (d : Device) : BoardKept d d := ⟨fun h => h.reached⟩

theorem BoardReached.endExchange (h : BoardReached start hold d) (g : SegNo) : BoardReached start hold (endExchange g d) :=
  h.changes (endExchange_changes g d) (by simp) (by simp)

theorem BoardReached.heard (h : BoardReached start hold d) (g : SegNo) (f : Frame) :
    BoardReached start hold (heard g f d) := by
  unfold Machine.heard
  split
  · exact h.modRow ⟨rfl, rfl, rfl, rfl⟩
  · exact h

/-- A bad answer, or none (R114, R115, R120). -/
theorem badAnswerTo_kept (hf : (d.line g).frame = some f) : BoardKept d (badAnswerTo g f d) := by
  refine ⟨fun h => ?_⟩
  have hin := h.reached.inHand (g := g) hf
  unfold badAnswerTo
  split
  · next hb =>
    have huse := hin.poll_use hb
    have hclosed : BoardReached d (holdWith (framesOf d) g none) (endExchange g d) := by
      refine (h.reached.closed fun f' hf' => ?_).endExchange g
      cases hf.symm.trans hf'
      obtain hu | hu := huse <;> simp [hu]
    rw [show framesOf (unansweredPoll g f (endExchange g d)) = holdWith (framesOf d) g none from
      (sameFrames_unansweredPoll g f _).trans (framesOf_endExchange g d)]
    exact hclosed.unansweredPoll (holdWith_same _ _ _) f
  · next hb =>
    have hunit := hin.unit_of_not_poll hb
    split
    · have hsame : framesOf (d.modLine g (fun l => { l with retry := l.retry + 1, answerTimer := .stopped })) =
          framesOf d := by
        funext k
        unfold framesOf
        rw [line_modLine]
        split
        · next hk => rw [hk]
        · rfl
      rw [hsame]
      exact h.reached.changes (modLine_changes d g _) (by simp) (by simp)
    · rw [show framesOf (enterDown f.row .silent (endExchange g d)) = holdWith (framesOf d) g none from
        (sameFrames_darken f.row _ _ _ _).trans (framesOf_endExchange g d)]
      have hstate : (d.segment g).state ≠ .disabled := fun hs =>
        absurd (hf.symm.trans ((h.segment g).noFrame hs)) (by simp)
      refine (h.reached.endExchange g).afterDarken (u := ⟨g, f.address⟩) hunit (.inl rfl) hstate (.ended hf _)
        (fun f' hf' => ?_) _ _
      rw [holdWith_same] at hf'
      exact absurd hf' (by simp)

theorem awaited_eq_some (h : awaited d g = some f) : (d.line g).frame = some f := by
  unfold awaited at h
  split at h
  · exact h
  · exact absurd h (by simp)

theorem badAnswerNow_kept (g : SegNo) (d : Device) : BoardKept d (badAnswerNow g d) := by
  unfold badAnswerNow
  split
  · next f h => exact badAnswerTo_kept (awaited_eq_some h)
  · exact .refl d

/-- A complete frame that is the good answer does what its kind does; any other is a bad answer (R114). -/
theorem takeAnswer_kept {kind : Byte} {act : Frame → Device → Device}
    (hact : ∀ {start hold e f}, BoardReached start hold e → hold g = some f → goodKind f.body = kind →
      BoardReached start (holdWith hold g none) (act f e))
    (hframes : ∀ f e, SameFrames e (act f e)) (addr : Byte) (body : List Byte) (sum : Byte) (spoiled : Bool) (d : Device) :
    BoardKept d (takeAnswer g kind addr body sum spoiled act d) := by
  unfold takeAnswer
  split
  · exact .refl d
  · next f hawaited =>
    have hf := awaited_eq_some hawaited
    split
    · next hgood =>
      refine ⟨fun h => ?_⟩
      have hkind : kind = goodKind f.body := by
        simp only [isGood, Bool.and_eq_true, beq_iff_eq] at hgood
        exact hgood.2
      have hheard : framesOf (heard g f (endExchange g d)) = framesOf (endExchange g d) :=
        SameFrames.ofChanges (heard_changes g f _) (by simp)
      rw [show framesOf (act f (heard g f (endExchange g d))) = holdWith (framesOf d) g none from
        (hframes f _).trans (hheard.trans (framesOf_endExchange g d))]
      exact hact ((h.reached.endExchange g).heard g f) hf hkind.symm
    · exact badAnswerTo_kept hf

/-- An echo ends its exchange and settles its row (R125). -/
theorem BoardReached.echoed (h : BoardReached start hold d) (hfree : hold g = none) (sensed : List Byte)
    (hunit : (d.row f.row).rowUnit = some ⟨g, f.address⟩) : BoardReached start hold (echoed g sensed f d) := by
  have hon : (d.row f.row).onSegment g = true := onSegment_of_unit hunit
  unfold Machine.echoed
  split
  · next hst =>
    rw [h.sound.exerciseStep_eq hon] at hst
    obtain ⟨-, -, hservice⟩ := ((h.sound.segment g).fits f.row).listed _ hst
    dsimp only
    split
    · refine BoardReached.afterExerciseCheck ?_ g
      refine h.nextStep hfree hst (.inr (.inr rfl)) (st' := .passed) (by simp)
        (x := { d.row f.row with shown := some (exercisePattern (d.segment g).seed f.row), shownSlot := none })
        ⟨rfl, rfl, rfl, rfl⟩ (fun q => ?_) (fun k => ?_)
      · rw [(setStep_changes _ _ _ _).row_eq (by simp), row_modRow]
      · rw [segment_setStep, (modRow_changes d _ _).segment_eq (by simp), (modRow_changes d _ _).segment_eq (by simp)]
    · refine h.enterFaulted hunit ?_ (fun f' hf' => absurd (hfree.symm.trans hf') (by simp)) _ _
      obtain hd | hd := hservice (.inr (.inr rfl)) <;> simp [hd]
  · exact h

/-! ## The kinds of good answers -/

theorem body_of_statusKind {b : FrameBody} (h : goodKind b = statusKind) : b = .poll := by
  cases b with
  | poll => rfl
  | image i => exact absurd (show ackKind = statusKind from h) (by decide)
  | lamps l => exact absurd (show ackKind = statusKind from h) (by decide)
  | echoRequest => exact absurd (show echoKind = statusKind from h) (by decide)

theorem body_of_echoKind {b : FrameBody} (h : goodKind b = echoKind) : b = .echoRequest := by
  cases b with
  | echoRequest => rfl
  | image i => exact absurd (show ackKind = echoKind from h) (by decide)
  | lamps l => exact absurd (show ackKind = echoKind from h) (by decide)
  | poll => exact absurd (show statusKind = echoKind from h) (by decide)

theorem goodKind_ne_nakKind (b : FrameBody) : goodKind b ≠ nakKind := by
  cases b with
  | image i => exact (by decide : ackKind ≠ nakKind)
  | lamps l => exact (by decide : ackKind ≠ nakKind)
  | poll => exact (by decide : statusKind ≠ nakKind)
  | echoRequest => exact (by decide : echoKind ≠ nakKind)

/-- A frame that asks for no acceptance ends its exchange at once. -/
theorem BoardReached.closedFrame (h : BoardReached start hold d) (hf : hold g = some f) (hu : f.use ≠ .repaint ∧ f.use ≠ .pattern) :
    BoardReached start (holdWith hold g none) d :=
  h.closed fun f' hf' => by
    rw [hf] at hf'
    cases hf'
    exact hu

theorem ack_kept (g : SegNo) (addr sum : Byte) (spoiled : Bool) (d : Device) :
    BoardKept d (takeAnswer g ackKind addr [] sum spoiled (accepted g) d) :=
  takeAnswer_kept (fun h hf _ => h.accepted hf) (sameFrames_accepted g) addr [] sum spoiled d

theorem nak_kept (g : SegNo) (addr sum : Byte) (spoiled : Bool) (d : Device) :
    BoardKept d (takeAnswer g nakKind addr [] sum spoiled (fun _ e => e) d) :=
  takeAnswer_kept (fun _ _ hk => absurd hk (goodKind_ne_nakKind _)) (fun _ _ => rfl) addr [] sum spoiled d

theorem status_kept (g : SegNo) (addr state sum : Byte) (spoiled : Bool) (d : Device) :
    BoardKept d (takeAnswer g statusKind addr [state] sum spoiled (polled g state) d) := by
  refine takeAnswer_kept (fun h hf hk => ?_) (sameFrames_polled g state) addr [state] sum spoiled d
  refine (h.closedFrame hf ?_).polled (holdWith_same _ _ _) state _
  obtain hu | hu := (h.inHand hf).poll_use (body_of_statusKind hk) <;> simp [hu]

theorem echo_kept (g : SegNo) (addr : Byte) (sensed : List Byte) (sum : Byte) (spoiled : Bool) (d : Device) :
    BoardKept d (takeAnswer g echoKind addr sensed sum spoiled (echoed g sensed) d) := by
  refine takeAnswer_kept (fun h hf hk => ?_) (sameFrames_echoed g sensed) addr sensed sum spoiled d
  obtain ⟨hu, hunit, -⟩ := (h.inHand hf).echo_use (body_of_echoKind hk)
  exact (h.closedFrame hf (by simp [hu])).echoed (holdWith_same _ _ _) sensed hunit

/-! ## Timers (R102, R103, R117) -/

theorem BoardKept.ofReached {e : Device} (hframes : SameFrames d e)
    (h : BoardSound (framesOf d) d → BoardReached d (framesOf d) e) : BoardKept d e :=
  ⟨fun hs => by
    rw [show framesOf e = framesOf d from hframes]
    exact h hs⟩

/-- A TURNING row has no frame but a poll in hand. -/
theorem InHand.poll_of_turning {x : Row} (h : InHand g (some .turning) x f)
    (hx : x.display = .clean ∨ x.display = .queued) : f.isPoll := by
  obtain ⟨use, row, address, body⟩ := f
  cases use with
  | repaint =>
    cases body with
    | image i => exact absurd h.2.1 (by obtain hx | hx := hx <;> simp [hx])
    | _ => exact h.elim
  | lampChange =>
    cases body with
    | lamps l => exact absurd h.2.2 (by simp)
    | _ => exact h.elim
  | pattern =>
    cases body with
    | image i => exact absurd h.2 (by simp)
    | _ => exact h.elim
  | echoRequest =>
    cases body with
    | echoRequest => exact absurd h.2 (by simp)
    | _ => exact h.elim
  | completionPoll =>
    cases body with
    | poll => exact ⟨.inl rfl, rfl⟩
    | _ => exact h.elim
  | readinessPoll =>
    cases body with
    | poll => exact ⟨.inr rfl, rfl⟩
    | _ => exact h.elim

theorem stallExpired_kept (r : RowNo) (d : Device) : BoardKept d (stallExpired r d) := by
  unfold stallExpired
  dsimp only
  split
  · split
    · exact .refl d
    · next u hu =>
      have hon : (d.row r).onSegment u.segment = true := onSegment_of_unit hu
      split
      · next hd =>
        refine .ofReached (sameFrames_enterFaulted _ _ _ d) fun h => h.reached.enterFaulted hu (by simp [hd])
          (fun f hf hr => ((h.segment u.segment).fits r).isPoll (.inr (.inr hd)) hf hr) _ _
      · split
        · next hst =>
          refine .ofReached (sameFrames_enterFaulted _ _ _ d) fun h => ?_
          rw [h.exerciseStep_eq hon] at hst
          have hfit := (h.segment u.segment).fits r
          have hservice := (hfit.listed _ hst).2.2 (.inr (.inl rfl))
          refine h.reached.enterFaulted hu ?_ (fun f hf hr => ?_) _ _
          · obtain hd | hd := hservice <;> simp [hd]
          · have hin := hfit.frame f hf hr
            rw [show (viewOf (d.segment u.segment) (framesOf d u.segment)).step r = _ from hst] at hin
            exact hin.poll_of_turning hservice
        · exact .refl d
  · exact .refl d

theorem holdExpired_kept (r : RowNo) (d : Device) : BoardKept d (holdExpired r d) := by
  unfold holdExpired
  dsimp only
  split
  · exact .ofReached rfl fun h => h.reached.modRow (r := r)
      (f := fun x => { x with holdTimer := .stopped, lampOffOwed := x.lampOffOwed || x.display == .clean })
      ⟨rfl, rfl, rfl, rfl⟩
  · exact .refl d

theorem pollWaitExpired_kept (r : RowNo) (d : Device) : BoardKept d (pollWaitExpired r d) := by
  unfold pollWaitExpired
  split
  · exact .ofReached rfl fun h => h.reached.modRow ⟨rfl, rfl, rfl, rfl⟩
  · exact .refl d

theorem frameSent_kept (g : SegNo) (d : Device) : BoardKept d (frameSent g d) := by
  refine .ofReached ?_ fun h => h.reached.changes (frameSent_changes g d) (by simp) (by simp)
  unfold frameSent
  dsimp only
  split
  · next f hf =>
    split
    · rfl
    · funext k
      unfold framesOf
      rw [Device.line_setLine]
      split
      · next hk => rw [hk]
      · rfl
  · rfl

end Sys2Proof.Machine
end


section
/-! PROOFS. What a free board line chooses (R116, R118, R124), and the conditions of R91, R95, R96, R112 and R124 when its choice is
sent. -/

namespace Sys2Proof.Machine

variable {start : Device} {g : SegNo} {r : RowNo} {hold : SegNo → Option Frame} {d : Device}

/-! ## The choice -/

theorem firstOf_mem {l : List (LineUse × Option RowNo)} {u : LineUse} (h : firstOf l = some (u, r)) :
    (u, some r) ∈ l := by
  induction l with
  | nil => exact absurd h (by simp [firstOf])
  | cons p l ih =>
    obtain ⟨v, o⟩ := p
    cases o with
    | none => exact List.mem_cons_of_mem _ (ih h)
    | some q =>
      cases h
      exact List.mem_cons_self

theorem leastBy_mem {key : RowNo → Nat} {l : List RowNo} (h : leastBy key l = some r) : r ∈ l := by
  induction l generalizing r with
  | nil => exact absurd h (by simp [leastBy])
  | cons a l ih =>
    unfold leastBy at h
    split at h
    · cases h
      exact List.mem_cons_self
    · next q hq =>
      split at h
      · cases h
        exact List.mem_cons_self
      · cases h
        exact List.mem_cons_of_mem _ (ih hq)

theorem mem_rowsOf : r ∈ rowsOf d g ↔ (d.row r).onSegment g = true := by
  simp [rowsOf, everyRow]

theorem dueRow_mem (h : dueRow d g = some r) :
    (d.row r).onSegment g = true ∧ (d.row r).pollWait = .due ∧ turns d r = true := by
  have hmem : r ∈ (rowsOf d g).filter (fun r => (d.row r).pollWait == .due && turns d r) := by
    unfold dueRow at h
    dsimp only at h
    split at h
    · exact leastBy_mem h
    · split at h
      · next hr =>
        cases h
        exact List.mem_of_mem_filter (leastBy_mem hr)
      · exact leastBy_mem h
  obtain ⟨hrow, hdue⟩ := List.mem_filter.1 hmem
  obtain ⟨hwait, hturns⟩ := Bool.and_eq_true_iff.1 hdue
  exact ⟨mem_rowsOf.1 hrow, by simpa using hwait, hturns⟩

theorem readinessRow_mem (h : readinessRow d g = some r) : (d.row r).onSegment g = true ∧ pollable d r = true := by
  have hmem : r ∈ (rowsOf d g).filter (pollable d) := by
    unfold readinessRow at h
    dsimp only at h
    split at h
    · exact leastBy_mem h
    · split at h
      · next hr =>
        cases h
        exact List.mem_of_mem_filter (leastBy_mem hr)
      · exact leastBy_mem h
  obtain ⟨hrow, hp⟩ := List.mem_filter.1 hmem
  exact ⟨mem_rowsOf.1 hrow, hp⟩

/-- What each use has for its row. -/
def OfferFor (d : Device) (g : SegNo) (r : RowNo) : LineUse → Prop
  | .repaint => (d.segment g).state = .active ∧ startReady d g = some r
  | .lampChange => (d.segment g).state = .active ∧ lampRow d g = some r
  | .completionPoll => dueRow d g = some r
  | .readinessPoll => readinessRow d g = some r
  | .echoRequest => (d.segment g).state = .exercise ∧ echoRow d g = some r
  | .pattern => (d.segment g).state = .exercise ∧ patternRow d g = some r

theorem lineState_eq_free : d.lineState g = .free ↔ (d.segment g).state ≠ .disabled ∧ (d.line g).frame = none := by
  unfold Device.lineState
  cases (d.line g).frame <;> by_cases h : (d.segment g).state = .disabled <;> simp [h]

/-- A line chooses only when it is free, and for a row that the use waits for. -/
theorem lineChoice_offer {u : LineUse} (h : lineChoice d g = some (u, r)) :
    (d.segment g).state ≠ .disabled ∧ (d.line g).frame = none ∧ OfferFor d g r u := by
  unfold lineChoice at h
  split at h
  · next hfree =>
    obtain ⟨hstate, hframe⟩ := lineState_eq_free.1 hfree
    refine ⟨hstate, hframe, ?_⟩
    split at h
    · exact absurd h (by simp)
    · next hs =>
      have hmem := firstOf_mem h
      simp only [List.mem_cons, Prod.mk.injEq, List.not_mem_nil, or_false] at hmem
      obtain ⟨rfl, hr⟩ | ⟨rfl, hr⟩ | ⟨rfl, hr⟩ | ⟨rfl, hr⟩ := hmem
      · exact ⟨hs, hr.symm⟩
      · exact ⟨hs, hr.symm⟩
      · exact hr.symm
      · exact hr.symm
    · next hs =>
      have hmem := firstOf_mem h
      simp only [List.mem_cons, Prod.mk.injEq, List.not_mem_nil, or_false] at hmem
      obtain ⟨rfl, hr⟩ | ⟨rfl, hr⟩ | ⟨rfl, hr⟩ | ⟨rfl, hr⟩ := hmem
      · exact ⟨hs, hr.symm⟩
      · exact ⟨hs, hr.symm⟩
      · exact hr.symm
      · exact hr.symm
  · exact absurd h (by simp)

/-! ## Sending (R112) -/

theorem line_sendFrame (use : LineUse) (r : RowNo) (body : FrameBody) (g k : SegNo) (d : Device) :
    (sendFrame g use r body d).line k =
      if k = g then handed ⟨use, r, rowAddress d r, body⟩ (d.line g) else d.line k := line_modLine d g k _

theorem rowAddress_congr {d e : Device} {r : RowNo} (h : (e.row r).rowUnit = (d.row r).rowUnit) :
    rowAddress e r = rowAddress d r := by
  unfold rowAddress
  rw [h]

theorem framesOf_sendFrame (use : LineUse) (r : RowNo) (body : FrameBody) (g : SegNo) (d : Device) :
    framesOf (sendFrame g use r body d) = holdWith (framesOf d) g (some ⟨use, r, rowAddress d r, body⟩) := by
  funext k
  unfold framesOf sendFrame holdWith
  rw [line_modLine]
  split <;> rfl

theorem rowAddress_unit {u : RowUnit} (hu : (d.row r).rowUnit = some u) : rowAddress d r = u.address := by
  simp [rowAddress, hu]

theorem unit_of_onSegment (hon : (d.row r).onSegment g = true) : (d.row r).rowUnit = some ⟨g, rowAddress d r⟩ := by
  obtain ⟨u, hu, rfl⟩ := onSegment_iff.1 hon
  rw [rowAddress_unit hu, hu]

/-- A frame for a row of a free line, when it says of the row what the row is. -/
theorem BoardReached.sent {f : Frame} (h : BoardReached start hold d) (hfree : hold g = none)
    (hstate : (d.segment g).state ≠ .disabled) (hon : (d.row f.row).onSegment g = true)
    (hin : InHand g (stepIn (d.segment g).exerciseList f.row) (d.row f.row) f) :
    BoardReached start (holdWith hold g (some f)) d := by
  have hfit := (h.sound.segment g).fits f.row
  refine h.oneRow (.ofRow h.sound hon (x := d.row f.row) (fun q => ?_) rfl (fun _ => .refl _)) (.sent hfree hstate)
    ⟨hfit.queued, hfit.off, hfit.listed, fun f' hf' _ => ?_, fun hon hs => ?_, fun hst => ?_⟩ le_rfl
  · split
    · next hq => rw [hq]
    · rfl
  · rw [holdWith_same] at hf'
    cases hf'
    exact hin
  · obtain ⟨f', hf', -⟩ := hfit.sending hon hs
    exact absurd (hfree.symm.trans hf') (by simp)
  · obtain ⟨f', hf', -⟩ := hfit.patternSent hst
    exact absurd (hfree.symm.trans hf') (by simp)

/-- The work of a use, when it is the line's choice. -/
theorem takeUse_kept {use : LineUse} {work : RowNo → Device → Device}
    (hwork : ∀ r, (d.segment g).state ≠ .disabled → (d.line g).frame = none → OfferFor d g r use → BoardKept d (work r d)) :
    BoardKept d (takeUse use g work d) := by
  unfold takeUse
  split
  · next u r h =>
    split
    · next hu =>
      obtain ⟨hstate, hframe, hoffer⟩ := lineChoice_offer h
      exact hwork r hstate hframe (hu ▸ hoffer)
    · exact .refl d
  · exact .refl d

theorem startReadinessPoll_kept (g : SegNo) (d : Device) :
    BoardKept d (takeUse .readinessPoll g (startReadinessPoll g) d) := by
  refine takeUse_kept fun r hstate hframe hoffer => ⟨fun h => ?_⟩
  obtain ⟨hon, -⟩ := readinessRow_mem hoffer
  have hsame : framesOf (d.modLine g (fun l => { l with pollCursor := some (rowAddress d r) })) = framesOf d := by
    funext k
    unfold framesOf
    rw [line_modLine]
    split
    · next hk => rw [hk]
    · rfl
  have hcursor : BoardReached d (framesOf d) (d.modLine g (fun l => { l with pollCursor := some (rowAddress d r) })) :=
    h.reached.changes (modLine_changes d g _) (by simp) (by simp)
  unfold startReadinessPoll
  rw [framesOf_sendFrame, hsame]
  exact (hcursor.sent (f := ⟨.readinessPoll, r, rowAddress d r, .poll⟩) hframe hstate hon (InHand.ofPoll ⟨.inr rfl, rfl⟩ _ _ _)).changes (sendFrame_changes g _ r _ _)
    (by simp) (by simp)

theorem startCompletionPoll_kept (g : SegNo) (d : Device) :
    BoardKept d (takeUse .completionPoll g (startCompletionPoll g) d) := by
  refine takeUse_kept fun r hstate hframe hoffer => ⟨fun h => ?_⟩
  obtain ⟨hon, -⟩ := dueRow_mem hoffer
  have hsame : framesOf ((d.modLine g (fun l => { l with completionCursor := (d.row r).motionOrder })).modRow r
      (fun x => { x with pollWait := .stopped })) = framesOf d := by
    funext k
    unfold framesOf
    rw [(modRow_changes _ _ _).line_eq (by simp), line_modLine]
    split
    · next hk => rw [hk]
    · rfl
  have hcursor : BoardReached d (framesOf d) (d.modLine g (fun l => { l with completionCursor := (d.row r).motionOrder })) :=
    h.reached.changes (modLine_changes d g _) (by simp) (by simp)
  have hwait := hcursor.modRow (r := r) (f := fun x => { x with pollWait := .stopped }) ⟨rfl, rfl, rfl, rfl⟩
  unfold startCompletionPoll
  dsimp only
  rw [framesOf_sendFrame, hsame]
  refine (hwait.sent (f := ⟨.completionPoll, r, _, .poll⟩) hframe hstate ?_ (InHand.ofPoll ⟨.inl rfl, rfl⟩ _ _ _)).changes (sendFrame_changes g _ r _ _)
    (by simp) (by simp)
  rw [row_modRow, if_pos rfl]
  exact hon

theorem lampRow_mem (h : lampRow d g = some r) :
    (d.row r).onSegment g = true ∧ (d.row r).display = .clean ∧ (d.row r).lampOffOwed = true := by
  have hp := List.find?_some h
  have hmem := mem_rowsOf.1 (List.mem_of_find?_eq_some h)
  simp only [Bool.and_eq_true, beq_iff_eq] at hp
  exact ⟨hmem, hp⟩

/-- In ACTIVE no exercise list stands. -/
theorem BoardSound.stepIn_active (h : BoardSound hold d) (hs : (d.segment g).state = .active) (r : RowNo) :
    stepIn (d.segment g).exerciseList r = none := by
  cases hst : stepIn (d.segment g).exerciseList r with
  | none => rfl
  | some st => exact absurd ((((h.segment g).fits r).listed st hst).1.symm.trans hs) (by simp)

theorem startLampChange_kept (g : SegNo) (d : Device) : BoardKept d (takeUse .lampChange g (startLampChange g) d) := by
  refine takeUse_kept fun r hstate hframe hoffer => ⟨fun h => ?_⟩
  obtain ⟨hactive, hrow⟩ := hoffer
  obtain ⟨hon, hclean, -⟩ := lampRow_mem hrow
  unfold startLampChange
  rw [framesOf_sendFrame]
  exact (h.reached.sent (f := ⟨.lampChange, r, rowAddress d r, .lamps (lampsWithoutFresh (d.row r))⟩) hframe hstate hon
    ⟨unit_of_onSegment hon, .inl hclean, .inl (h.stepIn_active hactive r)⟩).changes (sendFrame_changes g _ r _ _)
    (by simp) (by simp)

theorem echoRow_mem (h : echoRow d g = some r) : ∃ x ∈ (d.segment g).exerciseList, x.row = r ∧ x.step = .echoing := by
  simpa using List.find?_some h

theorem startEchoRequest_kept (g : SegNo) (d : Device) : BoardKept d (takeUse .echoRequest g (startEchoRequest g) d) := by
  refine takeUse_kept fun r hstate hframe hoffer => ⟨fun h => ?_⟩
  have hst := h.stepIn_iff.2 (echoRow_mem hoffer.2)
  have hon : (d.row r).onSegment g = true := (((h.segment g).fits r).listed _ hst).2.1
  unfold startEchoRequest
  rw [framesOf_sendFrame]
  exact (h.reached.sent (f := ⟨.echoRequest, r, rowAddress d r, .echoRequest⟩) hframe hstate hon
    ⟨unit_of_onSegment hon, hst⟩).changes (sendFrame_changes g _ r _ _) (by simp) (by simp)

/-! ## Starts (R96, R124) -/

theorem weight_none_le (x : Row) : weight g none x ≤ 1 := by
  unfold weight
  split <;> simp

/-- On a free line no row is SENDING and none is at PATTERN-SENT. -/
theorem BoardSound.load_of_free (h : BoardSound (framesOf d) d) (hframe : (d.line g).frame = none) :
    load g (stepIn (d.segment g).exerciseList) d.row = countDisplay d g .moving + turningCount d g := by
  have hsending : countDisplay d g .sending = 0 := by
    rw [countDisplay, List.length_eq_zero_iff, List.filter_eq_nil_iff]
    intro q hq hs
    obtain ⟨f, hf, -⟩ := ((h.segment g).fits q).sending (mem_rowsOf.1 hq) (by simpa using hs)
    exact absurd (hframe.symm.trans hf) (by simp)
  rw [← motionLoad_eq (nodup_of_rising (h.rising g)), motionLoad, hsending]
  rfl

theorem turningCount_nil (h : (d.segment g).exerciseList = []) : turningCount d g = 0 := by simp [turningCount, h]

theorem startReady_eq_some (h : startReady d g = some r) : (d.segment g).state = .active ∧
    countDisplay d g .moving < (d.segment g).motionLimit ∧ (d.segment g).queue.head? = some r := by
  unfold startReady at h
  split at h
  · next hc => exact ⟨hc.1, hc.2, h⟩
  · exact absurd h (by simp)

theorem tail_eq_filter {l : List RowNo} (h : l.Nodup) (hr : l.head? = some r) : l.tail = l.filter (fun q => q ≠ r) := by
  cases l with
  | nil => exact absurd hr (by simp)
  | cons a l =>
    cases hr
    obtain ⟨ha, -⟩ := List.nodup_cons.1 h
    have hkeep : l.filter (fun q => decide (q ≠ r)) = l := List.filter_eq_self.2 fun q hq => by
      simpa using fun e : q = r => ha (e ▸ hq)
    rw [List.filter_cons_of_neg (by simp), hkeep]
    rfl

/-- The row of a repaint that starts (R96 to R99). -/
def startedRow (d : Device) (g : SegNo) (r : RowNo) : Row :=
  let x := d.row r
  let image := composeImage d (d.segment g) x
  { x with
    display := .sending, sent := some ⟨image, estimate (d.segment g) x.shown image⟩,
    newFresh := lastTextChanged d x image.cells,
    holdTimer := if lastTextChanged d x image.cells then .stopped else x.holdTimer }

theorem row_startRepaint (g : SegNo) (r q : RowNo) (d : Device) :
    (startRepaint g r d).row q = if q = r then startedRow d g r else d.row q := by
  unfold startRepaint
  dsimp only
  rw [(sendFrame_changes _ _ _ _ _).row_eq (by simp), Device.row_setRow, (modSegment_changes d g _).row_eq (by simp)]
  rfl

theorem segment_startRepaint (g k : SegNo) (r : RowNo) (d : Device) : (startRepaint g r d).segment k =
    if k = g then { d.segment g with queue := (d.segment g).queue.tail } else d.segment k := by
  unfold startRepaint
  dsimp only
  rw [(sendFrame_changes _ _ _ _ _).segment_eq (by simp), Device.segment_setRow, segment_modSegment]

theorem line_startRepaint (g k : SegNo) (r : RowNo) (d : Device) : (startRepaint g r d).line k =
    if k = g then handed ⟨.repaint, r, rowAddress d r, .image (composeImage d (d.segment g) (d.row r))⟩ (d.line g)
    else d.line k := by
  unfold startRepaint
  dsimp only
  rw [line_sendFrame]
  refine if_congr Iff.rfl (congrArg₂ handed (congrArg (Frame.mk _ _ · _) (rowAddress_congr ?_)) rfl) rfl
  rw [Device.row_setRow_same]

theorem startRepaint_kept (g : SegNo) (d : Device) : BoardKept d (takeUse .repaint g (startRepaint g) d) := by
  refine takeUse_kept fun r hstate hframe hoffer => ⟨fun h => ?_⟩
  obtain ⟨hactive, hroom, hhead⟩ := startReady_eq_some hoffer.2
  have hmem : r ∈ (d.segment g).queue := List.mem_of_mem_head? hhead
  have hfit := (h.segment g).fits r
  obtain ⟨hqueued, hon⟩ := hfit.queued.1 hmem
  have hstep := h.stepIn_active hactive
  have hnil : (d.segment g).exerciseList = [] := by
    by_contra hne
    exact absurd ((h.listed hne).symm.trans hactive) (by simp)
  have hframes : framesOf (startRepaint g r d) = holdWith (framesOf d) g
      (some ⟨.repaint, r, rowAddress d r, .image (composeImage d (d.segment g) (d.row r))⟩) := by
    funext k
    unfold framesOf holdWith
    rw [line_startRepaint]
    split <;> rfl
  have hseg : (startRepaint g r d).segment g =
      { d.segment g with queue := (d.segment g).queue.filter (fun q => q ≠ r) } := by
    rw [segment_startRepaint, if_pos rfl, tail_eq_filter (l := (d.segment g).queue) (h.segment g).nodup hhead]
  have honly : RowOnly g r d (startRepaint g r d) := by
    refine .ofDequeue h hon (fun q => row_startRepaint g r q d) rfl (fun k hk => ?_) hseg
    rw [segment_startRepaint, if_neg hk]
    exact .refl _
  rw [hframes]
  refine h.reached.oneRowMore honly (.sent
    (f := ⟨.repaint, r, rowAddress d r, .image (composeImage d (d.segment g) (d.row r))⟩) hframe hstate) ?_ ?_ ?_
  · rw [holdWith_same, row_startRepaint, if_pos rfl]
    refine ⟨⟨fun hq => ?_, fun hq => absurd hq.1 (by simp [startedRow])⟩, fun hs => ?_, fun st hst => ?_,
      fun f hf _ => ?_, fun _ _ => ⟨_, rfl, rfl, rfl⟩, fun hst => ?_⟩
    · have hq' : r ∈ ((startRepaint g r d).segment g).queue := hq
      rw [hseg] at hq'
      simp at hq'
    · exact absurd (honly.state ▸ hs) hstate
    · have hst' : stepIn ((startRepaint g r d).segment g).exerciseList r = some st := hst
      rw [hseg, hstep] at hst'
      exact absurd hst' (by simp)
    · cases hf
      exact ⟨unit_of_onSegment hon, rfl, rfl⟩
    · have hst' : stepIn ((startRepaint g r d).segment g).exerciseList r = some .patternSent := hst
      rw [hseg, hstep] at hst'
      exact absurd hst' (by simp)
  · rw [row_startRepaint, if_pos rfl, hseg, hstep]
    exact (weight_none_le _).trans (Nat.le_add_left 1 _)
  · rw [h.load_of_free hframe, turningCount_nil hnil]
    exact hroom

theorem patternRow_eq_some (h : patternRow d g = some r) :
    (∃ x, (d.segment g).exerciseList.find? (fun x => x.step == .waiting) = some x ∧ x.row = r) ∧
    ((d.row r).display = .clean ∨ (d.row r).display = .queued) ∧
    countDisplay d g .moving + turningCount d g < (d.segment g).motionLimit := by
  unfold patternRow at h
  split at h
  · exact absurd h (by simp)
  · next x hx =>
    split at h
    · next hc =>
      cases h
      exact ⟨⟨x, hx, rfl⟩, hc⟩
    · exact absurd h (by simp)

theorem row_startPattern (g : SegNo) (r q : RowNo) (d : Device) : (startPattern g r d).row q =
    if q = r then { d.row r with holdTimer := .stopped, lampOffOwed := false } else d.row q := by
  unfold startPattern
  dsimp only
  rw [(sendFrame_changes _ _ _ _ _).row_eq (by simp), (setStep_changes _ _ _ _).row_eq (by simp), row_modRow]

theorem segment_startPattern (g k : SegNo) (r : RowNo) (d : Device) : (startPattern g r d).segment k =
    if k = g then { d.segment g with
      exerciseList := (d.segment g).exerciseList.map (fun y =>
        if y.row = r then { y with
          step := .patternSent,
          estimate := estimate (d.segment g) (d.row r).shown (exercisePattern (d.segment g).seed r) }
        else y) }
    else d.segment k := by
  unfold startPattern
  dsimp only
  rw [(sendFrame_changes _ _ _ _ _).segment_eq (by simp), segment_setStep, (modRow_changes d r _).segment_eq (by simp),
    (modRow_changes d r _).segment_eq (by simp)]

theorem line_startPattern (g k : SegNo) (r : RowNo) (d : Device) : (startPattern g r d).line k =
    if k = g then handed ⟨.pattern, r, rowAddress d r, .image (exercisePattern (d.segment g).seed r)⟩ (d.line g)
    else d.line k := by
  unfold startPattern
  dsimp only
  rw [line_sendFrame]
  refine if_congr Iff.rfl (congrArg₂ handed (congrArg (Frame.mk _ _ · _) (rowAddress_congr ?_)) rfl) rfl
  rw [(setStep_changes _ _ _ _).row_eq (by simp), row_modRow, if_pos rfl]

theorem startPattern_kept (g : SegNo) (d : Device) : BoardKept d (takeUse .pattern g (startPattern g) d) := by
  refine takeUse_kept fun r hstate hframe hoffer => ⟨fun h => ?_⟩
  obtain ⟨hexercise, hrow⟩ := hoffer
  obtain ⟨⟨y, hy, hyr⟩, hservice, hroom⟩ := patternRow_eq_some hrow
  have hfit := (h.segment g).fits r
  have hst : stepIn (d.segment g).exerciseList r = some .waiting :=
    h.stepIn_iff.2 ⟨y, List.mem_of_find?_eq_some hy, hyr, by simpa using List.find?_some hy⟩
  have hon : (d.row r).onSegment g = true := (hfit.listed _ hst).2.1
  have hframes : framesOf (startPattern g r d) = holdWith (framesOf d) g
      (some ⟨.pattern, r, rowAddress d r, .image (exercisePattern (d.segment g).seed r)⟩) := by
    funext k
    unfold framesOf holdWith
    rw [line_startPattern]
    split <;> rfl
  have honly : RowOnly g r d (startPattern g r d) := by
    refine .ofStep (st := .patternSent) (f := fun y => { y with
          step := .patternSent,
          estimate := estimate (d.segment g) (d.row r).shown (exercisePattern (d.segment g).seed r) })
      h hon (fun q => row_startPattern g r q d) rfl (fun k hk => ?_) (fun _ => rfl) (fun _ => rfl) ?_ ?_ ?_ ?_
    · rw [segment_startPattern, if_neg hk]
      exact .refl _
    all_goals rw [segment_startPattern, if_pos rfl]
  have hstep : stepIn ((startPattern g r d).segment g).exerciseList r = some .patternSent := by
    rw [segment_startPattern, if_pos rfl, stepIn_setRow _ (st := .patternSent) (f := fun y => { y with
          step := .patternSent,
          estimate := estimate (d.segment g) (d.row r).shown (exercisePattern (d.segment g).seed r) })
      (fun _ => rfl) r r (fun _ => rfl), if_pos rfl, hst]
    rfl
  rw [hframes]
  refine h.reached.oneRowMore honly (.sent
    (f := ⟨.pattern, r, rowAddress d r, .image (exercisePattern (d.segment g).seed r)⟩) hframe hstate) ?_ ?_ ?_
  · rw [holdWith_same, row_startPattern, if_pos rfl]
    refine ⟨?_, fun hs => absurd (honly.state ▸ hs) hstate, fun st _ => ⟨honly.state.trans hexercise, hon, fun _ => hservice⟩,
      fun f hf _ => ?_, fun _ hs => ?_, fun _ => ⟨_, rfl, rfl, rfl⟩⟩
    · show r ∈ ((startPattern g r d).segment g).queue ↔ _
      rw [segment_startPattern, if_pos rfl]
      exact hfit.queued
    · cases hf
      exact ⟨unit_of_onSegment hon, hstep⟩
    · obtain hd | hd := hservice <;> exact absurd (hd.symm.trans hs) (by simp)
  · rw [row_startPattern, if_pos rfl, hstep, hst]
    have honx : ({ d.row r with holdTimer := .stopped, lampOffOwed := false } : Row).onSegment g = (d.row r).onSegment g := rfl
    simp [weight, honx]
  · rw [h.load_of_free hframe]
    exact hroom

/-- Every event of a board line or of a row keeps the conditions. -/
theorem BoardEvent.kept {f : Device → Device} (h : BoardEvent f) (d : Device) : BoardKept d (f d) := by
  cases h with
  | repaint g => exact startRepaint_kept g d
  | lampChange g => exact startLampChange_kept g d
  | completionPoll g => exact startCompletionPoll_kept g d
  | readinessPoll g => exact startReadinessPoll_kept g d
  | echoRequest g => exact startEchoRequest_kept g d
  | pattern g => exact startPattern_kept g d
  | frameSent g => exact frameSent_kept g d
  | ack g addr sum spoiled => exact ack_kept g addr sum spoiled d
  | nak g addr sum spoiled => exact nak_kept g addr sum spoiled d
  | status g addr state sum spoiled => exact status_kept g addr state sum spoiled d
  | echo g addr sensed sum spoiled => exact echo_kept g addr sensed sum spoiled d
  | badAnswer g => exact badAnswerNow_kept g d
  | stall r => exact stallExpired_kept r d
  | hold r => exact holdExpired_kept r d
  | pollWait r => exact pollWaitExpired_kept r d

end Sys2Proof.Machine
end


section
/-! PROOFS. The conditions of R91, R95, R96, R112 and R124 over the requests to the board controller (R87 to R90, R104 to R107,
R122). -/

namespace Sys2Proof.Machine

variable {start : Device} {g : SegNo} {r : RowNo} {hold : SegNo → Option Frame} {d e : Device}

/-! ## Keeping the conditions -/

theorem BoardKept.trans {a b c : Device} (h : BoardKept a b) (k : BoardKept b c) : BoardKept a c :=
  ⟨fun hs =>
    have hb := h.reached hs
    have hc := k.reached hb.sound
    ⟨hc.sound, fun hm => hc.motion (hb.motion hm)⟩⟩

theorem BoardKept.after {a b c : Device} (k : BoardKept b c) (h : BoardKept a b) : BoardKept a c := h.trans k

theorem BoardKept.ite {a b c : Device} {p : Prop} [Decidable p] (h : p → BoardKept a b) (k : ¬p → BoardKept a c) :
    BoardKept a (if p then b else c) := by
  split
  · exact h ‹_›
  · exact k ‹_›

theorem BoardKept.of_changes {l : List Part} (h : ChangesOnly l d e) (hrows : Part.rows ∉ l := by simp)
    (hsegments : Part.segments ∉ l := by simp) (hlines : Part.lines ∉ l := by simp) : BoardKept d e :=
  .ofReached (.ofChanges h hlines) fun hs => hs.reached.changes h hrows hsegments

theorem BoardKept.forEach {α : Type} {f : α → Device → Device} (h : ∀ x d, BoardKept d (f x d)) (xs : List α) (d : Device) :
    BoardKept d (forEach xs f d) := by
  induction xs generalizing d with
  | nil => exact .refl d
  | cons x xs ih =>
    rw [forEach_cons]
    exact (h x d).trans (ih _)

/-- A change of rows that the conditions do not read. -/
theorem BoardKept.of_rows (h : ChangesOnly [.rows] d e) (hrow : ∀ q, SameRow (d.row q) (e.row q)) : BoardKept d e :=
  .ofReached (.ofChanges h (by simp)) fun hs => hs.reached.same hrow fun k => by
    rw [h.segment_eq (by simp)]
    exact .refl _

theorem BoardKept.modRow {f : Row → Row} (hf : SameRow (d.row r) (f (d.row r))) : BoardKept d (d.modRow r f) :=
  .ofReached rfl fun hs => hs.reached.modRow hf

theorem markRow_kept (r : RowNo) (d : Device) : BoardKept d (markRow r d) :=
  .ofReached (.ofChanges (markRow_changes r d) (by simp)) fun hs => hs.reached.mark r

theorem markRows_kept (l : List RowNo) (d : Device) : BoardKept d (markRows l d) := .forEach markRow_kept l d

theorem unbindAndMark_kept (r : RowNo) (d : Device) : BoardKept d (unbindAndMark r d) :=
  (BoardKept.modRow (f := fun x => { x with binding := none }) ⟨rfl, rfl, rfl, rfl⟩).trans (markRow_kept r _)

/-! ## One change of each of several rows -/

/-- A change of one row after another, each by the row's own record. -/
theorem row_forEach {f : RowNo → Device → Device} {F : Row → Row} {P : Device → Prop} {l : List RowNo}
    (hP : ∀ r ∈ l, ∀ e, P e → P (f r e))
    (hf : ∀ r ∈ l, ∀ q e, P e → (f r e).row q = if q = r then F (e.row r) else e.row q) (hl : l.Nodup) (hd : P d)
    (q : RowNo) : (forEach l f d).row q = if q ∈ l then F (d.row q) else d.row q := by
  induction l generalizing d with
  | nil => simp [Machine.forEach]
  | cons r l ih =>
    obtain ⟨hr, hl⟩ := List.nodup_cons.1 hl
    rw [forEach_cons, ih (fun s hs => hP s (by simp [hs])) (fun s hs => hf s (by simp [hs])) hl (hP r (by simp) d hd),
      hf r (by simp) q d hd]
    by_cases hq : q = r
    · subst hq
      simp [hr]
    · simp [hq]

theorem nodup_rowsOf (d : Device) (g : SegNo) : (rowsOf d g).Nodup := (List.nodup_finRange 256).filter _

/-! ## SEGMENT-SETUP (R87 to R89) -/

/-- A segment whose rows are all out of service, with no list and no frame, carries no load. -/
theorem SegSound.ofDark {s : Segment} {row : RowNo → Row} (hqueue : s.queue = []) (hlist : s.exerciseList = [])
    (hrow : ∀ q, (row q).onSegment g = true →
      (row q).display = .down ∧ (s.state = .disabled → (row q).cause = .segmentOff)) :
    SegSound g (viewOf s none) row := by
  have hstep (q : RowNo) : (viewOf s none).step q = none := by
    show stepIn s.exerciseList q = none
    rw [hlist]
    rfl
  refine ⟨by show s.queue.Nodup; rw [hqueue]; exact List.nodup_nil, fun _ => rfl, fun q => ⟨⟨fun hq => ?_, fun hq => ?_⟩,
    fun hs hon => ⟨(hrow q hon).1, (hrow q hon).2 hs⟩, fun st hst => ?_, fun _ hf => absurd hf (by simp [viewOf]),
    fun hon hd => ?_, fun hst => ?_⟩⟩
  · have hq' : q ∈ s.queue := hq
    rw [hqueue] at hq'
    simp at hq'
  · exact absurd (((hrow q hq.2).1).symm.trans hq.1) (by simp)
  · exact absurd ((hstep q).symm.trans hst) (by simp)
  · exact absurd ((hrow q hon).1.symm.trans hd) (by simp)
  · exact absurd ((hstep q).symm.trans hst) (by simp)

theorem load_dark {row : RowNo → Row} (hrow : ∀ q, (row q).onSegment g = true → (row q).display = .down) :
    load g (stepIn []) row = 0 := by
  refine List.sum_eq_zero fun n hn => ?_
  obtain ⟨q, -, rfl⟩ := List.mem_map.1 hn
  have hstill : ¬ ((row q).onSegment g = true ∧ ((row q).display = .moving ∨ (row q).display = .sending)) := by
    rintro ⟨hon, hd⟩
    rw [hrow q hon] at hd
    simp at hd
  unfold weight
  rw [if_neg hstill, if_neg (by simp [stepIn]), Nat.add_zero]

/-- A segment that is switched, with all its rows out of service. -/
theorem BoardKept.switched (hunit : ∀ q, (e.row q).rowUnit = (d.row q).rowUnit)
    (hrows : ∀ q, (d.row q).onSegment g = false → e.row q = d.row q)
    (hdark : ∀ q, (d.row q).onSegment g = true →
      (e.row q).display = .down ∧ ((e.segment g).state = .disabled → (e.row q).cause = .segmentOff))
    (hother : ∀ k, k ≠ g → e.segment k = d.segment k ∧ e.line k = d.line k)
    (hqueue : (e.segment g).queue = []) (hlist : (e.segment g).exerciseList = []) (hline : (e.line g).frame = none) :
    BoardKept d e := by
  have hon (q : RowNo) : (e.row q).onSegment g = (d.row q).onSegment g := onSegment_congr (hunit q) g
  have hframe : framesOf e g = none := hline
  refine ⟨fun hs => hs.reached.onlySegment (g := g) ⟨hunit, fun q hq => hrows q hq ▸ .refl _, fun k hk => ?_, fun k hk => ?_⟩
    ?_ ?_ fun _ => ?_⟩
  · rw [(hother k hk).1]
    exact .refl _
  · unfold framesOf
    rw [(hother k hk).2]
  · rw [hlist]
    exact List.Pairwise.nil
  · rw [hframe]
    exact .ofDark hqueue hlist fun q hq => hdark q ((hon q).symm.trans hq)
  · rw [hlist, load_dark fun q hq => (hdark q ((hon q).symm.trans hq)).1]
    exact Nat.zero_le _

/-- A row of a segment made ACTIVE (R88, R121). -/
def activatedRow (x : Row) : Row :=
  { x with display := .down, cause := .unknown, shown := none, shownSlot := none, missed := 0 }

theorem row_activateSegment (g : SegNo) (q : RowNo) (d : Device) : (activateSegment g d).row q =
    if (d.row q).onSegment g = true then activatedRow (d.row q) else d.row q := by
  unfold activateSegment
  dsimp only
  rw [row_forEach (f := activateRow) (F := activatedRow) (P := fun _ => True) (fun _ _ _ _ => trivial) (fun r _ q e _ => row_modRow e r q _)
    (nodup_rowsOf _ g) trivial q]
  exact if_congr mem_rowsOf rfl rfl

theorem activateSegment_rest (g : SegNo) (d : Device) :
    ChangesOnly [.rows] ((d.modSegment g (fun s => { s with state := .active, queue := [] })).setLine g BoardLine.powerOn)
      (activateSegment g d) := .forEach (fun r e => modRow_changes e r _) _ _

theorem segment_activateSegment (g k : SegNo) (d : Device) : (activateSegment g d).segment k =
    if k = g then { d.segment g with state := .active, queue := [] } else d.segment k := by
  rw [(activateSegment_rest g d).segment_eq (by simp), Device.segment_setLine, segment_modSegment]

theorem line_activateSegment (g k : SegNo) (d : Device) : (activateSegment g d).line k =
    if k = g then BoardLine.powerOn else d.line k := by
  rw [(activateSegment_rest g d).line_eq (by simp), Device.line_setLine]
  rfl

theorem activateSegment_kept (hstate : (d.segment g).state = .disabled) : BoardKept d (activateSegment g d) := by
  refine ⟨fun hs => ?_⟩
  have hnil : (d.segment g).exerciseList = [] := by
    by_contra hne
    exact absurd ((hs.listed hne).symm.trans hstate) (by simp)
  refine (BoardKept.switched (g := g) (fun q => ?_) (fun q hq => ?_) (fun q hq => ?_) (fun k hk => ⟨?_, ?_⟩) ?_ ?_ ?_).reached hs
  · rw [row_activateSegment]
    split <;> rfl
  · rw [row_activateSegment, if_neg (by simp [hq])]
  · rw [row_activateSegment, if_pos hq, segment_activateSegment, if_pos rfl]
    exact ⟨rfl, fun h => absurd h (by simp)⟩
  · rw [segment_activateSegment, if_neg hk]
  · rw [line_activateSegment, if_neg hk]
  · rw [segment_activateSegment, if_pos rfl]
  · rw [segment_activateSegment, if_pos rfl]
    exact hnil
  · rw [line_activateSegment, if_pos rfl]
    rfl

/-- A row of a segment made DISABLED (R89). -/
def switchedOffRow (x : Row) : Row :=
  if x.display = .down ∧ x.cause = .segmentOff then x else darkRow x .down .segmentOff

/-- While rows of a DISABLED segment are switched off, the segment stays as it is but for the queue, and everything else of the
board but the rows. -/
structure SwitchingOff (g : SegNo) (d e : Device) : Prop where
  segment : ∃ q, e.segment g = { d.segment g with queue := q }
  other : ∀ k, k ≠ g → e.segment k = d.segment k
  line : ∀ k, e.line k = d.line k
  unit : ∀ q, (e.row q).rowUnit = (d.row q).rowUnit

theorem switchOffRow_eq (hon : (d.row r).onSegment g = true) (hstate : (d.segment g).state ≠ .exercise) :
    switchOffRow r d = if (d.row r).display = .down ∧ (d.row r).cause = .segmentOff then d
      else darkenOnly r .down .segmentOff false d := by
  obtain ⟨u, hu, rfl⟩ := onSegment_iff.1 hon
  unfold switchOffRow
  refine if_congr Iff.rfl rfl ?_
  exact darken_of_not_exercise hu hstate .down .segmentOff false

theorem row_switchOffRow (hon : (d.row r).onSegment g = true) (hstate : (d.segment g).state ≠ .exercise) (q : RowNo) :
    (switchOffRow r d).row q = if q = r then switchedOffRow (d.row r) else d.row q := by
  rw [switchOffRow_eq hon hstate]
  unfold switchedOffRow
  split
  · split
    · next hq => rw [hq]
    · rfl
  · rw [row_darkenOnly]

theorem SwitchingOff.step (h : SwitchingOff g d e) (hon : (d.row r).onSegment g = true)
    (hstate : (d.segment g).state ≠ .exercise) : SwitchingOff g d (switchOffRow r e) := by
  obtain ⟨⟨queue, hseg⟩, hother, hline, hunit⟩ := h
  have hon' : (e.row r).onSegment g = true := (onSegment_congr (hunit r) g).trans hon
  have hstate' : (e.segment g).state ≠ .exercise := by
    rw [hseg]
    exact hstate
  refine ⟨?_, fun k hk => ?_, fun k => ?_, fun q => ?_⟩
  · rw [switchOffRow_eq hon' hstate']
    split
    · exact ⟨queue, hseg⟩
    · rw [segment_darkenOnly, hseg]
      exact ⟨_, rfl⟩
  · rw [switchOffRow_eq hon' hstate', ← hother k hk]
    split
    · rfl
    · have hoff : (e.row r).onSegment k = false := by
        rw [← Bool.not_eq_true]
        exact fun h => hk (onSegment_unique h hon')
      rw [segment_darkenOnly, hoff]
      rfl
  · rw [switchOffRow_eq hon' hstate', ← hline k]
    split
    · rfl
    · rw [line_darkenOnly]
  · rw [row_switchOffRow hon' hstate', ← hunit q]
    split
    · next hq =>
      rw [hq]
      unfold switchedOffRow
      split <;> rfl
    · rfl

theorem switchingOff_forEach {l : List RowNo} (hstate : (d.segment g).state ≠ .exercise)
    (hl : ∀ r ∈ l, (d.row r).onSegment g = true) (he : SwitchingOff g d e) : SwitchingOff g d (forEach l switchOffRow e) := by
  induction l generalizing e with
  | nil => exact he
  | cons r l ih =>
    rw [forEach_cons]
    exact ih (fun q hq => hl q (by simp [hq])) (he.step (hl r (by simp)) hstate)

/-- The segment as DISABLED, before its rows are switched off. -/
def offSegment (g : SegNo) (d : Device) : Device :=
  (d.modSegment g (fun s => { s with state := .disabled, exerciseList := [], motionCounter := 0 })).setLine g
    BoardLine.powerOn

theorem segment_offSegment (g k : SegNo) (d : Device) : (offSegment g d).segment k =
    if k = g then { d.segment g with state := .disabled, exerciseList := [], motionCounter := 0 } else d.segment k := by
  unfold offSegment
  rw [Device.segment_setLine, segment_modSegment]

theorem switchingOff_all (g : SegNo) (d : Device) :
    SwitchingOff g (offSegment g d) (forEach (rowsOf (offSegment g d) g) switchOffRow (offSegment g d)) := by
  refine switchingOff_forEach ?_ (fun r hr => mem_rowsOf.1 hr) ⟨⟨_, rfl⟩, fun _ _ => rfl, fun _ => rfl, fun _ => rfl⟩
  rw [segment_offSegment, if_pos rfl]
  simp

theorem disableSegment_eq (g : SegNo) (d : Device) : disableSegment g d =
    (forEach (rowsOf (offSegment g d) g) switchOffRow (offSegment g d)).modSegment g (fun s => { s with queue := [] }) := rfl

theorem row_disableSegment (g : SegNo) (q : RowNo) (d : Device) : (disableSegment g d).row q =
    if (d.row q).onSegment g = true then switchedOffRow (d.row q) else d.row q := by
  have hstate : ((offSegment g d).segment g).state ≠ .exercise := by
    rw [segment_offSegment, if_pos rfl]
    simp
  rw [disableSegment_eq, (modSegment_changes _ g _).row_eq (by simp), row_forEach (F := switchedOffRow)
    (P := fun e => SwitchingOff g (offSegment g d) e)
    (fun r hr e he => he.step (mem_rowsOf.1 hr) hstate)
    (fun r hr q e he => ?_) (nodup_rowsOf _ g) ⟨⟨_, rfl⟩, fun _ _ => rfl, fun _ => rfl, fun _ => rfl⟩ q]
  · exact if_congr mem_rowsOf rfl rfl
  · obtain ⟨queue, hseg⟩ := he.segment
    refine row_switchOffRow ((onSegment_congr (he.unit r) g).trans (mem_rowsOf.1 hr)) ?_ q
    rw [hseg]
    exact hstate

theorem segment_disableSegment (g k : SegNo) (d : Device) : (disableSegment g d).segment k =
    if k = g then { d.segment g with state := .disabled, exerciseList := [], motionCounter := 0, queue := [] }
    else d.segment k := by
  have hoff := switchingOff_all g d
  obtain ⟨queue, hseg⟩ := hoff.segment
  rw [disableSegment_eq, segment_modSegment]
  split
  · rw [hseg, segment_offSegment, if_pos rfl]
  · next hk => rw [hoff.other k hk, segment_offSegment, if_neg hk]

theorem line_disableSegment (g k : SegNo) (d : Device) : (disableSegment g d).line k =
    if k = g then BoardLine.powerOn else d.line k := by
  rw [disableSegment_eq, (modSegment_changes _ g _).line_eq (by simp), (switchingOff_all g d).line, offSegment,
    Device.line_setLine]
  rfl

theorem disableSegment_kept (g : SegNo) (d : Device) : BoardKept d (disableSegment g d) := by
  refine .switched (g := g) (fun q => ?_) (fun q hq => ?_) (fun q hq => ?_) (fun k hk => ⟨?_, ?_⟩) ?_ ?_ ?_
  · rw [row_disableSegment]
    unfold switchedOffRow
    split
    · split <;> rfl
    · rfl
  · rw [row_disableSegment, if_neg (by simp [hq])]
  · rw [row_disableSegment, if_pos hq]
    unfold switchedOffRow
    split
    · next h => exact ⟨h.1, fun _ => h.2⟩
    · exact ⟨rfl, fun _ => rfl⟩
  · rw [segment_disableSegment, if_neg hk]
  · rw [line_disableSegment, if_neg hk]
  · rw [segment_disableSegment, if_pos rfl]
  · rw [segment_disableSegment, if_pos rfl]
  · rw [line_disableSegment, if_pos rfl]
    rfl

/-- Settings that leave room for the rows in motion (R87, R109). -/
theorem setSettings_kept {f : SegmentFields} (hroom : limitTooLow f d = false) :
    BoardKept d (d.modSegment f.segment (setSettings f)) := by
  have hseg (k : SegNo) := segment_modSegment d f.segment k (setSettings f)
  refine .ofReached rfl fun hs => hs.reached.onlySegment (g := f.segment) ⟨fun _ => rfl, fun _ _ => .refl _, fun k hk => ?_,
    fun _ _ => rfl⟩ ?_ ?_ fun hm => ?_
  · rw [hseg, if_neg hk]
    exact .refl _
  · rw [hseg, if_pos rfl]
    exact hs.rising f.segment
  · rw [hseg, if_pos rfl]
    exact hs.segment f.segment
  · rw [hseg, if_pos rfl]
    show load f.segment (stepIn (d.segment f.segment).exerciseList) d.row ≤
      (f.motionLimit.map (clamp 1 8)).getD (d.segment f.segment).motionLimit
    unfold limitTooLow at hroom
    cases hlimit : f.motionLimit with
    | none => exact hm
    | some n =>
      simp only [hlimit, decide_eq_false_iff_not, not_lt] at hroom
      rw [motionLoad_eq (nodup_of_rising (hs.rising f.segment))] at hroom
      exact hroom

theorem changeSegment_kept (g : SegNo) (o : Option Bool) (d : Device) : BoardKept d (changeSegment g o d) := by
  unfold changeSegment
  split
  · next hs => exact activateSegment_kept hs
  · exact disableSegment_kept g d
  · exact disableSegment_kept g d
  · exact .refl d

theorem setupSegment_kept (f : SegmentFields) (d : Device) : BoardKept d (setupSegment f d).1 := by
  unfold setupSegment
  split
  · exact .refl d
  · next h =>
    dsimp only
    exact (setSettings_kept (by simpa using (not_or.1 h).1)).trans (changeSegment_kept _ _ _)

end Sys2Proof.Machine
end


section
/-! PROOFS. The conditions of R91, R95, R96, R112 and R124 over every step. -/

namespace Sys2Proof.Machine

variable {start : Device} {g : SegNo} {r : RowNo} {hold : SegNo → Option Frame} {d e : Device}

/-! ## ROW-CLEAR, BIND and LAYOUT -/

theorem replaceLayout_kept (f : LayoutNo × List Field) (d : Device) : BoardKept d (replaceLayout f d).1 :=
  (BoardKept.of_changes (setLayout_changes d f.1 f.2)).trans (markRows_kept _ _)

theorem bindRow_kept (f : RowNo × Slot × LayoutNo) (d : Device) : BoardKept d (bindRow f d).1 := by
  obtain ⟨r, i, l⟩ := f
  rw [bindRow_cases]
  split
  · exact .refl d
  · split
    · exact .refl d
    · have hslots : BoardKept d (if (d.row r).binding = some i then d
          else (removeBinding r d).modSlot i (fun x => { x with boundRows := x.boundRows ++ [r] })) :=
        .ite (fun _ => .refl d) fun _ => .of_changes ((removeBinding_changes r d).trans (modSlot_changes _ i _))
      dsimp only
      exact (hslots.trans (.modRow (f := fun y => { y with binding := some i, layout := l }) ⟨rfl, rfl, rfl, rfl⟩)).trans
        (markRow_kept r _)

theorem unbindRow_kept (r : RowNo) (d : Device) : BoardKept d (unbindRow r d).1 :=
  (BoardKept.of_changes (removeBinding_changes r d)).trans (unbindAndMark_kept r _)

theorem clearRow_kept (r : RowNo) (d : Device) : BoardKept d (clearRow r d).1 := by
  unfold clearRow
  split
  · exact .refl d
  · next h =>
    have hd : (d.row r).display = .faulted := not_not.1 h
    refine .ofReached (.ofChanges ((modRow_changes d r _).andThen (enqueueRow_changes r _) (n := [.rows, .segments])
      (by simp) (by simp)) (by simp)) fun hs => ?_
    cases hu : (d.row r).rowUnit with
    | none => exact absurd ((hs.noUnit r hu).1.symm.trans hd) (by simp)
    | some u =>
      have hshown := hs.reached.modRow (r := r) (f := fun x => { x with shown := none }) ⟨rfl, rfl, rfl, rfl⟩
      refine BoardReached.enqueue (g := u.segment) hshown ?_ (.inr (.inl ?_))
      all_goals rw [row_modRow, if_pos rfl]
      · exact onSegment_of_unit hu
      · exact hd

/-! ## ROW-SETUP (R107) -/

/-- A row that is DOWN and in no exercise takes any unit outside an exercise. -/
theorem RowFits.rehoused {v : SegView} {x y : Row} (h : RowFits g v r x) (hx : x.display = .down) (hy : y.display = .down)
    (hstate : x.onSegment g = true → v.state ≠ .exercise)
    (hoff : v.state = .disabled → y.onSegment g = true → y.cause = .segmentOff) : RowFits g v r y := by
  have hno {st : ExerciseStep} (hst : v.step r = some st) {p : Prop} : p :=
    absurd (h.listed st hst).1 (hstate (h.listed st hst).2.1)
  refine ⟨⟨fun hq => ?_, fun hq => absurd (hy.symm.trans hq.1) (by simp)⟩, fun hs hon => ⟨hy, hoff hs hon⟩,
    fun st hst => hno hst, fun f hf hr => .ofPoll (h.isPoll (.inl hx) hf hr) _ _ _,
    fun _ hs => absurd (hy.symm.trans hs) (by simp), fun hst => hno hst⟩
  exact absurd ((h.queued.1 hq).1.symm.trans hx) (by simp)

theorem BoardReached.rehoused {f : Row → Row} (h : BoardReached start hold d) (hx : (d.row r).display = .down)
    (hy : (f (d.row r)).display = .down)
    (hnone : (f (d.row r)).rowUnit = none → (f (d.row r)).cause = .segmentOff)
    (hstate : ∀ k, (d.row r).onSegment k = true → (d.segment k).state ≠ .exercise)
    (hoff : ∀ k, (d.segment k).state = .disabled → (f (d.row r)).onSegment k = true → (f (d.row r)).cause = .segmentOff) :
    BoardReached start hold (d.modRow r f) := by
  have hrow (q : RowNo) : (d.modRow r f).row q = if q = r then f (d.row r) else d.row q := row_modRow d r q f
  refine ⟨⟨fun q hq => ?_, h.sound.rising, fun k => ⟨(h.sound.segment k).nodup, (h.sound.segment k).noFrame, fun q => ?_⟩⟩,
    fun hm k => (load_le fun q => ?_).trans (h.motion hm k)⟩
  · rw [hrow] at hq ⊢
    split at hq
    · next hqr => rw [if_pos hqr]; exact ⟨hy, hnone hq⟩
    · next hqr => rw [if_neg hqr]; exact h.sound.noUnit q hq
  · rw [hrow]
    split
    · next hqr =>
      subst hqr
      exact ((h.sound.segment k).fits q).rehoused hx hy (hstate k) (hoff k)
    · exact (h.sound.segment k).fits q
  · rw [hrow]
    split
    · next hqr =>
      subst hqr
      unfold weight
      rw [if_neg (by simp [hy])]
      exact Nat.add_le_add_right (Nat.zero_le _) _
    · exact le_rfl

theorem setupCause_disabled {u : RowUnit} (h : (d.segment u.segment).state = .disabled) :
    setupCause d (some u) = .segmentOff := if_pos h

/-- The row's own record after an accepted ROW-SETUP. -/
def rehousedRow (u : Option RowUnit) (c : Cause) (y : Row) : Row :=
  { y with rowUnit := u, cause := c, shown := none, shownSlot := none, missed := 0 }

theorem setupRow_cases (r : RowNo) (u : Option RowUnit) (d : Device) : setupRow (r, u) d =
    if (d.row r).display ≠ .down ∧ (d.row r).display ≠ .faulted ∧ unitSegmentIs d (d.row r).rowUnit .disabled = false then
      (d, refuse .wrongState)
    else if unitSegmentIs d (d.row r).rowUnit .exercise = true ∨ unitSegmentIs d u .exercise = true then (d, refuse .busy)
    else if unitTaken d r u = true then (d, refuse .duplicate)
    else ((if (d.row r).display = .down then d else enterDown r (setupCause d u) d).modRow r
      (rehousedRow u (setupCause d u)), accept []) := rfl

theorem setupRow_kept (f : RowNo × Option RowUnit) (d : Device) : BoardKept d (setupRow f d).1 := by
  obtain ⟨r, u⟩ := f
  rw [setupRow_cases]
  split
  · exact .refl d
  · next hwrong =>
    split
    · exact .refl d
    · next hbusy =>
      split
      · exact .refl d
      · dsimp only
        obtain ⟨hold, hnew⟩ := not_or.1 hbusy
        have hfree (k : SegNo) (hk : (d.row r).onSegment k = true) : (d.segment k).state ≠ .exercise := fun hs => by
          obtain ⟨v, hv, rfl⟩ := onSegment_iff.1 hk
          exact hold (unitSegmentIs_eq_true.2 ⟨v, hv, hs⟩)
        have hcause (k : SegNo) (hs : (d.segment k).state = .disabled) (v : RowUnit) (hv : u = some v)
            (hk : v.segment = k) : setupCause d u = .segmentOff := by
          subst hv hk
          exact setupCause_disabled hs
        refine .ofReached ?_ fun hs => ?_
        · refine (SameFrames.ofChanges (modRow_changes _ r _) (by simp)).trans ?_
          split
          · rfl
          · exact sameFrames_darken r _ _ _ d
        · split
          · next hd =>
            refine hs.reached.rehoused hd hd (fun hu => ?_) hfree fun k hk hon => ?_
            · rw [show u = none from hu]
              rfl
            · obtain ⟨v, hv, hvk⟩ := onSegment_iff.1 hon
              exact hcause k hk v hv hvk
          · next hd =>
            have hfaulted : (d.row r).display = .faulted := by
              by_contra hf
              refine hwrong ⟨hd, hf, ?_⟩
              rw [← Bool.not_eq_true, unitSegmentIs_eq_true]
              rintro ⟨v, hv, hoff⟩
              exact hd (((hs.segment v.segment).fits r).off hoff (onSegment_of_unit hv)).1
            cases hu : (d.row r).rowUnit with
            | none => exact absurd (hs.noUnit r hu).1 hd
            | some v =>
              have hdark := hs.reached.enterDown (u := v) hu hd (fun f hf hr =>
                ((hs.segment v.segment).fits r).isPoll (.inr (.inl hfaulted)) hf hr) (setupCause d u)
              have hon : (d.row r).onSegment v.segment = true := onSegment_of_unit hu
              have honly : enterDown r (setupCause d u) d = darkenOnly r .down (setupCause d u)
                  (setupCause d u != .segmentOff) d := darken_of_not_exercise hu (hfree _ hon) _ _ _
              have hrow : (enterDown r (setupCause d u) d).row r = darkRow (d.row r) .down (setupCause d u) := by
                rw [honly, row_darkenOnly, if_pos rfl]
              have hseg (k : SegNo) : ((enterDown r (setupCause d u) d).segment k).state = (d.segment k).state := by
                rw [honly, segment_darkenOnly]
              refine hdark.rehoused ?_ ?_ (fun hu => ?_) (fun k hk => ?_) fun k hk hon => ?_
              · rw [hrow]
                rfl
              · rw [hrow]
                rfl
              · rw [show u = none from hu]
                rfl
              · rw [hseg]
                rw [hrow] at hk
                exact hfree k hk
              · rw [hseg] at hk
                obtain ⟨w, hw, hwk⟩ := onSegment_iff.1 hon
                exact hcause k hk w hw hwk

/-! ## EXERCISE (R122) -/

theorem map_row_exerciseRows (d : Device) (g : SegNo) : (exerciseRows d g).map (·.row) =
    (rowsOf d g).filter (fun r => (d.row r).display != .down && (d.row r).display != .faulted) := by
  unfold exerciseRows
  rw [List.map_map]
  exact List.map_id _

theorem rising_exerciseRows (d : Device) (g : SegNo) : ((exerciseRows d g).map (·.row)).Pairwise (· < ·) := by
  rw [map_row_exerciseRows]
  exact ((List.pairwise_lt_finRange 256).filter _).filter _

theorem stepIn_exerciseRows {st : ExerciseStep} (h : stepIn (exerciseRows d g) r = some st) :
    st = .waiting ∧ (d.row r).onSegment g = true := by
  obtain ⟨x, hx, rfl, rfl⟩ := (stepIn_eq_some (nodup_of_rising (rising_exerciseRows d g))).1 h
  obtain ⟨q, hq, rfl⟩ := List.mem_map.1 hx
  exact ⟨rfl, mem_rowsOf.1 (List.mem_filter.1 hq).1⟩

theorem InHand.waiting {st : Option ExerciseStep} {x : Row} {f : Frame} (h : InHand g none x f)
    (hst : ∀ s, st = some s → s = .waiting) : InHand g st x f := by
  obtain ⟨use, row, address, body⟩ := f
  cases use with
  | lampChange =>
    cases body with
    | lamps l =>
      refine ⟨h.1, h.2.1, ?_⟩
      cases st with
      | none => exact .inl rfl
      | some s => exact .inr (congrArg some (hst s rfl))
    | _ => exact h
  | pattern =>
    cases body with
    | image i => exact absurd h.2 (by simp)
    | _ => exact h
  | echoRequest =>
    cases body with
    | echoRequest => exact absurd h.2 (by simp)
    | _ => exact h
  | repaint => cases body <;> exact h
  | completionPoll => cases body <;> exact h
  | readinessPoll => cases body <;> exact h

/-- The segment of an exercise that begins. -/
def exercisingSegment (d : Device) (g : SegNo) (seed : Word) : Segment :=
  { d.segment g with state := .exercise, seed := seed, exerciseList := exerciseRows d g }

theorem startExercise_of_active {seed : Word} (h : (d.segment g).state = .active) : startExercise (g, seed) d =
    (exerciseCheck g (d.setSegment g (exercisingSegment d g seed)), accept [byte (exerciseRows d g).length]) := by
  unfold startExercise
  simp only [h]
  rfl

theorem startExercise_kept (f : SegNo × Word) (d : Device) : BoardKept d (startExercise f d).1 := by
  obtain ⟨g, seed⟩ := f
  cases hstate : (d.segment g).state with
  | disabled =>
    unfold startExercise
    simp only [hstate]
    exact .refl d
  | exercise =>
    unfold startExercise
    simp only [hstate]
    exact .refl d
  | active =>
    rw [startExercise_of_active hstate]
    dsimp only
    refine .ofReached ((sameFrames_exerciseCheck g _).trans rfl) fun hs => BoardReached.afterExerciseCheck ?_ g
    have hseg := Device.segment_setSegment_same d g (exercisingSegment d g seed)
    refine hs.reached.onlySegment (g := g) ⟨fun _ => rfl, fun _ _ => .refl _, fun k hk => ?_, fun _ _ => rfl⟩ ?_ ?_ fun hm => ?_
    · rw [Device.segment_setSegment_other d g k _ hk]
      exact .refl _
    · rw [hseg]
      exact rising_exerciseRows d g
    · rw [hseg]
      refine ⟨(hs.segment g).nodup, fun h => absurd h (by simp [viewOf, exercisingSegment]), fun q => ?_⟩
      have hfit := (hs.segment g).fits q
      have hnone := hs.stepIn_active hstate q
      refine ⟨hfit.queued, fun h => absurd h (by simp [viewOf, exercisingSegment]), fun st hst => ?_, fun f hf hr => ?_,
        hfit.sending, fun hst => ?_⟩
      · obtain ⟨rfl, hon⟩ := stepIn_exerciseRows hst
        exact ⟨rfl, hon, fun hu => absurd hu (by simp [underTest])⟩
      · have hin := hfit.frame f hf hr
        rw [show (viewOf (d.segment g) (framesOf d g)).step q = none from hnone] at hin
        exact hin.waiting fun s hs => (stepIn_exerciseRows hs).1
      · exact absurd (stepIn_exerciseRows hst).1 (by simp)
    · rw [hseg]
      refine (load_le fun q => ?_).trans hm
      refine weight_le rfl id fun hst => ?_
      obtain hst | hst := hst <;> exact absurd (stepIn_exerciseRows hst).1 (by simp)

theorem BoardWork.kept {w : Device → Device × Answer} (h : BoardWork w) (d : Device) : BoardKept d (w d).1 := by
  cases h with
  | segmentSetup f => exact setupSegment_kept f d
  | layout f => exact replaceLayout_kept f d
  | bind f => exact bindRow_kept f d
  | unbind r => exact unbindRow_kept r d
  | rowClear r => exact clearRow_kept r d
  | rowSetup f => exact setupRow_kept f d
  | exercise f => exact startExercise_kept f d

end Sys2Proof.Machine
end


section
/-! PROOFS. Every step keeps the repaint queues, the frames in hand and the motion limit (R91, R95, R96, R109, R112, R124). -/

namespace Sys2Proof.Machine

variable {start : Device} {g : SegNo} {r : RowNo} {hold : SegNo → Option Frame} {d e : Device}

/-! ## The market -/

theorem offerEntry_kept (b : EntryBody) (d : Device) : BoardKept d (offerEntry b d) := .of_changes (offer_changes b d)

theorem marks_kept (i : Slot) (l : List RowNo) (d : Device) : BoardKept d (markPages i (markRows l d)) :=
  (markRows_kept l d).trans (.of_changes (markPages_changes i _))

theorem writeRecord_kept (i : Slot) (x : Record) (d : Device) : BoardKept d (writeRecord i x d) :=
  .of_changes (writeRecord_changes i x d)

theorem applyTrade_kept (t : TradeItem) (d : Device) : BoardKept d (applyTrade t d) := by
  refine (writeRecord_kept t.slot (tradedRecord t (d.slot t.slot)) d).trans ?_
  have hoffer (e : Device) : BoardKept e (if t.onTape then offerEntry (.print t.slot t.price t.shares) e else e) :=
    .ite (fun _ => offerEntry_kept _ e) (fun _ => .refl e)
  have hmarks (e : Device) : BoardKept e (markPages t.slot (markRows (e.slot t.slot).boundRows e)) := marks_kept _ _ e
  exact BoardKept.ite (fun _ => (hoffer _).trans (hmarks _))
    (fun _ => ((hoffer _).trans (hmarks _)).trans (.of_changes (evaluateWatches_changes _ _ _)))

theorem applyItems_kept (l : List TradeItem) (n : Nat) (d : Device) : BoardKept d (applyItems l n d).1 := by
  induction l generalizing n d with
  | nil => exact .refl d
  | cons t l ih =>
    unfold applyItems
    split
    · exact .refl d
    · exact (applyTrade_kept t d).trans (ih _ _)

theorem amendHandOffs_kept (f : AmendFields) (x y : Record) (d : Device) : BoardKept d (amendHandOffs f x y d) := by
  have hoffer : BoardKept d (match f.print, y.last with
      | true, some p => offerEntry (.corr f.slot p) d
      | _, _ => d) := by
    split
    · exact offerEntry_kept _ d
    · exact .refl d
  exact BoardKept.ite (fun _ => (hoffer.trans (marks_kept _ _ _)).trans (.of_changes (evaluateWatches_changes _ _ _)))
    (fun _ => hoffer.trans (marks_kept _ _ _))

theorem withdrawn_kept (i : Slot) (d : Device) : BoardKept d (withdrawn i d) := by
  have hwritten : BoardKept d (writeRecord i { d.slot i with state := .delisting, boundRows := [] }
      (d.setDirectory (d.directory.filter (fun p => p.2 ≠ i)))) :=
    (BoardKept.of_changes (setDirectory_changes d _)).trans (writeRecord_kept i _ _)
  exact (hwritten.trans (.forEach unbindAndMark_kept _ _)).trans (.of_changes (delistWatches_changes i _ _))

theorem MarketWork.kept {w : Device → Device × Answer} (h : MarketWork w) (d : Device) : BoardKept d (w d).1 := by
  cases h with
  | list f =>
    unfold listInstrument
    split
    · exact .refl d
    · split
      · exact .refl d
      · exact .of_changes ((setSlot_changes d _ _).andThen (setDirectory_changes _ _) (n := [.slots, .directory])
          (by simp) (by simp))
  | delist i =>
    cases hl : isListed (d.slot i).state with
    | false =>
      rw [delistSlot_of_not_listed hl]
      exact .refl d
    | true =>
      cases hn : tapeNames d i with
      | true =>
        rw [delistSlot_named hl hn]
        dsimp only
        exact withdrawn_kept i d
      | false =>
        rw [delistSlot_unnamed hl hn]
        dsimp only
        have hw := withdrawn_kept i d
        exact hw.trans (.of_changes (freeSlot_changes i _))
  | trade t =>
    unfold tradeOne
    split
    · exact .refl d
    · exact applyTrade_kept t d
  | block l => exact applyItems_kept l 0 d
  | quote f =>
    unfold quoteSlot
    dsimp only
    split
    · exact .refl d
    · dsimp only
      exact (writeRecord_kept _ _ d).trans (marks_kept _ _ _)
  | setState f =>
    unfold Machine.setState
    dsimp only
    split
    · exact .refl d
    · dsimp only
      exact ((writeRecord_kept _ _ d).trans (offerEntry_kept _ _)).trans (marks_kept _ _ _)
  | fetch f =>
    have hfetch (i : Slot) (reserve : Bool) : BoardKept d (fetchSlot i reserve d).1 := by
      unfold fetchSlot
      split
      · exact .refl d
      · exact .ite (fun _ => .of_changes (setChannel_changes d _)) (fun _ => .refl d)
    unfold fetchTarget
    split
    · exact hfetch _ _
    · split
      · exact hfetch _ _
      · exact .refl d
  | amend f =>
    have hended : BoardKept d (endReservation d) := .of_changes (endReservation_changes d)
    unfold amendSlot
    dsimp only
    split
    · exact hended
    · split
      · exact hended
      · exact (hended.trans (writeRecord_kept _ _ _)).trans (amendHandOffs_kept _ _ _ _)
  | amendRefused a => exact .of_changes (endReservation_changes d)
  | dayRoll =>
    have hroll (i : Slot) (e : Device) : BoardKept e (rollSlot i e) :=
      (writeRecord_kept i (rolledRecord (e.slot i)) e).trans (marks_kept i _ _)
    have hrolled : BoardKept d (forEach (listedSlots d) rollSlot (endReservation d)) :=
      (BoardKept.of_changes (endReservation_changes d)).trans (.forEach hroll _ _)
    exact hrolled.trans (.of_changes (setWatches_changes _ _))

/-! ## SETTLE, RESTART and reset -/

theorem settleNow_kept (d : Device) : BoardKept d (settleNow () d).1 := by
  unfold settleNow
  split
  · exact .refl d
  · dsimp only
    have howed : BoardKept d (setOwed d) := .forEach (fun r e => .modRow ⟨rfl, rfl, rfl, rfl⟩) _ d
    exact (howed.trans (.of_changes (modSettle_changes _ _))).trans (.of_changes (openSettle_changes _))

/-- The board after the segments' part of a RESTART. -/
theorem restartSegments_rest (d : Device) : ChangesOnly [.segments, .lines] d (forEach everySegment restartSegment d) :=
  .forEach (fun g e => (modSegment_changes e g _).andThen (setLine_changes _ g _) (by simp) (by simp)) _ d

theorem segment_forEach_restartSegment {l : List SegNo} (hl : l.Nodup) (g : SegNo) (d : Device) :
    (forEach l restartSegment d).segment g = (if g ∈ l then restartedSegment (d.segment g) else d.segment g) ∧
    (forEach l restartSegment d).line g = if g ∈ l then BoardLine.powerOn else d.line g := by
  induction l generalizing d with
  | nil => simp [forEach]
  | cons k l ih =>
    obtain ⟨hk, hl⟩ := List.nodup_cons.1 hl
    have hseg : (restartSegment k d).segment g = if g = k then restartedSegment (d.segment k) else d.segment g :=
      segment_modSegment d k g _
    have hline : (restartSegment k d).line g = if g = k then BoardLine.powerOn else d.line g := Device.line_setLine _ k g _
    rw [forEach_cons, (ih hl _).1, (ih hl _).2, hseg, hline]
    by_cases hg : g = k
    · subst hg
      simp [hk]
    · simp [hg]

theorem segment_restartSegments (g : SegNo) (d : Device) :
    (forEach everySegment restartSegment d).segment g = restartedSegment (d.segment g) := by
  rw [(segment_forEach_restartSegment (l := everySegment) (List.nodup_finRange 8) g d).1, if_pos (show g ∈ everySegment from List.mem_finRange g)]

theorem line_restartSegments (g : SegNo) (d : Device) :
    (forEach everySegment restartSegment d).line g = BoardLine.powerOn := by
  rw [(segment_forEach_restartSegment (l := everySegment) (List.nodup_finRange 8) g d).2, if_pos (show g ∈ everySegment from List.mem_finRange g)]

/-- A row after a RESTART; `active` says whether its segment is ACTIVE then. -/
def restartedRow (active : Bool) (x : Row) : Row :=
  if active then { darkRow x .down .unknown with missed := 0 } else { x with missed := 0, owed := 0, pollWait := .stopped }

theorem row_restartRow (r q : RowNo) (d : Device) : (restartRow r d).row q =
    if q = r then restartedRow (unitSegmentIs d (d.row r).rowUnit .active) (d.row r) else d.row q := by
  unfold restartRow restartedRow
  split
  · rw [row_modRow]
  · rw [row_modRow]

theorem unitSegmentIs_congr (h : ∀ k, (e.segment k).state = (d.segment k).state) (o : Option RowUnit) (s : SegmentState) :
    unitSegmentIs e o s = unitSegmentIs d o s := by
  unfold unitSegmentIs
  cases o with
  | none => rfl
  | some u => simp only [h]

theorem row_restartRows (q : RowNo) (d : Device) : (forEach everyRow restartRow d).row q =
    restartedRow (unitSegmentIs d (d.row q).rowUnit .active) (d.row q) := by
  rw [row_forEach (F := fun x => restartedRow (unitSegmentIs d x.rowUnit .active) x)
    (P := fun e => ∀ k, (e.segment k).state = (d.segment k).state)
    (fun r _ e he k => by rw [(restartRow_changes r e).segment_eq (by simp), he])
    (fun r _ q e he => by rw [row_restartRow, unitSegmentIs_congr he]) (l := everyRow) (List.nodup_finRange 256) (fun _ => rfl) q,
    if_pos (show q ∈ everyRow from List.mem_finRange q)]

/-- The rows, the segments and the lines after a RESTART (R111, R129). -/
theorem board_restartAll (d : Device) :
    (∀ q, (restartAll d).row q = restartedRow
      (unitSegmentIs (forEach everySegment restartSegment d) (d.row q).rowUnit .active) (d.row q)) ∧
    (∀ g, (restartAll d).segment g = restartedSegment (d.segment g)) ∧
    ∀ g, (restartAll d).line g = BoardLine.powerOn := by
  have hbefore : ChangesOnly [.slots, .tape, .ribbons] d (restartTape (restartStore d)) :=
    (restartStore_changes d).andThen (restartTape_changes _) (by simp) (by simp)
  have hafter : ChangesOnly [.terminals, .dealers, .link, .reservation, .settle, .notices]
      (forEach everyRow restartRow (forEach everySegment restartSegment (restartTape (restartStore d)))) (restartAll d) := by
    have hchannel (e : Device) : ChangesOnly [.link, .reservation, .settle, .notices] e ((restartChannel e).setNotices []) :=
      (setChannel_changes e _).andThen (setNotices_changes _ _) (by simp) (by simp)
    exact ((ChangesOnly.forEach restartTerminal_changes everyLine _).mono (by simp)).trans ((hchannel _).mono (by simp))
  have hrows := ChangesOnly.forEach restartRow_changes everyRow
    (forEach everySegment restartSegment (restartTape (restartStore d)))
  have hstate (k : SegNo) : ((forEach everySegment restartSegment (restartTape (restartStore d))).segment k).state =
      ((forEach everySegment restartSegment d).segment k).state := by
    rw [segment_restartSegments, segment_restartSegments, hbefore.segment_eq (by simp)]
  refine ⟨fun q => ?_, fun g => ?_, fun g => ?_⟩
  · rw [hafter.row_eq (by simp), row_restartRows, (restartSegments_rest _).row_eq (by simp), hbefore.row_eq (by simp),
      unitSegmentIs_congr hstate]
  · rw [hafter.segment_eq (by simp), hrows.segment_eq (by simp), segment_restartSegments, hbefore.segment_eq (by simp)]
  · rw [hafter.line_eq (by simp), hrows.line_eq (by simp), line_restartSegments]

theorem restartAll_kept (d : Device) : BoardKept d (restartAll d) := by
  obtain ⟨hrow, hseg, hline⟩ := board_restartAll d
  refine ⟨fun hs => ?_⟩
  have hframe (k : SegNo) : framesOf (restartAll d) k = none := by
    unfold framesOf
    rw [hline]
    rfl
  have hunit (q : RowNo) : ((restartAll d).row q).rowUnit = (d.row q).rowUnit := by
    rw [hrow]
    unfold restartedRow
    split <;> rfl
  have hactive (k : SegNo) : ((forEach everySegment restartSegment d).segment k).state = .active ↔
      (d.segment k).state ≠ .disabled := by
    rw [segment_restartSegments]
    cases hst : (d.segment k).state <;> simp [restartedSegment, hst]
  have hdark (k : SegNo) (q : RowNo) (hon : ((restartAll d).row q).onSegment k = true) :
      ((restartAll d).row q).display = .down ∧
        (((restartAll d).segment k).state = .disabled → ((restartAll d).row q).cause = .segmentOff) := by
    have hon' : (d.row q).onSegment k = true := (onSegment_congr (hunit q) k).symm.trans hon
    obtain ⟨u, hu, rfl⟩ := onSegment_iff.1 hon'
    rw [hrow, hseg]
    unfold restartedRow
    split
    · next h =>
      obtain ⟨v, hv, hv'⟩ := unitSegmentIs_eq_true.1 h
      cases hu.symm.trans hv
      refine ⟨rfl, fun hoff => absurd hoff ?_⟩
      have := (hactive _).1 hv'
      cases hst : (d.segment u.segment).state <;> simp_all [restartedSegment]
    · next h =>
      have hoff : (d.segment u.segment).state = .disabled := by
        by_contra hne
        exact h (unitSegmentIs_eq_true.2 ⟨u, hu, (hactive _).2 hne⟩)
      obtain ⟨hd, hc⟩ := ((hs.segment u.segment).fits q).off hoff hon'
      exact ⟨hd, fun _ => hc⟩
  refine ⟨⟨fun q hq => ?_, fun k => ?_, fun k => ?_⟩, fun _ k => ?_⟩
  · rw [hunit] at hq
    rw [hrow, hq]
    exact hs.noUnit q hq
  · rw [hseg]
    exact List.Pairwise.nil
  · rw [hframe]
    exact .ofDark (by rw [hseg]; rfl) (by rw [hseg]; rfl) (hdark k)
  · rw [show ((restartAll d).segment k).exerciseList = [] by rw [hseg]; rfl, load_dark fun q hq => (hdark k q hq).1]
    exact Nat.zero_le _

theorem MotionFits.iff (h : BoardSound hold d) : MotionFits d ↔ MotionSound d :=
  forall_congr' fun g => by rw [motionLoad_eq (nodup_of_rising (h.rising g))]

theorem powerOnAgain_kept (d : Device) : BoardKept d (powerOnAgain d) := by
  have hp : BoardSound (framesOf Device.powerOn) Device.powerOn := boardSound_of_sound queuesSound_powerOn linesSound_powerOn
  have hagain := (BoardKept.of_changes (powerOnAgain_changes d)).reached hp
  exact ⟨fun _ => ⟨hagain.sound, fun _ => hagain.motion ((MotionFits.iff hp).2 motionSound_powerOn)⟩⟩

/-! ## Every step -/

theorem board_stepLaw : StepLaw BoardKept where
  refl := .refl
  link h k l := (BoardKept.of_changes h).trans (k.trans (.of_changes l))
  reset := powerOnAgain_kept
  raises l d := .of_changes (foldl_raise_changes l d)
  forwarded t d := .of_changes (modDealer_changes d t _)
  pacing r d := .of_changes (pacing_changes r d)
  board h d := h.kept d
  terminal h d := .of_changes (h.changes d)
  marketWork h d := h.kept d
  ribbonWork h d := .of_changes (h.changes d)
  boardWork h d := h.kept d
  terminalWork h d := .of_changes (h.changes d)
  collect d := .of_changes (collectNotice_changes d)
  settle := settleNow_kept
  restart := restartAll_kept

/-- Settles O48: the queues, the frames in hand and the lists keep their conditions together, segment by segment. -/
theorem everyStepKeepsTheQueuesSound : Obligations.EveryStepKeepsTheQueuesSound := fun _ _ h hq hl =>
  ((board_stepLaw.step h).reached (boardSound_of_sound hq hl)).sound.queuesSound

/-- Settles O49: beside the conditions of O48, no change of a row counts more against the limit, but for the starts of a
repaint and of a pattern, which the line chooses only where there is room. -/
theorem everyStepKeepsTheMotionLimit : Obligations.EveryStepKeepsTheMotionLimit := by
  intro s t h hq hl hm
  have hsound := boardSound_of_sound hq hl
  have hreached := (board_stepLaw.step h).reached hsound
  exact ⟨hreached.sound.linesSound, (MotionFits.iff hreached.sound).1 (hreached.motion ((MotionFits.iff hsound).2 hm))⟩

end Sys2Proof.Machine
end


section
/-! PROOFS. Marks, dark rows, the start of a repaint, the frames of a board line and the timers of a row (O35, O37, O39, O45). -/

namespace Sys2Proof.Machine

variable {g : SegNo} {r : RowNo} {d : Device}

/-! ## O35 -/

theorem off_of_unit {x : Row} {u : RowUnit} {k : SegNo} (hu : x.rowUnit = some u) (hk : k ≠ u.segment) :
    x.onSegment k = false := by
  rw [← Bool.not_eq_true]
  exact fun h => hk (onSegment_unique h (onSegment_of_unit hu))

/-- The entry into a dark state of a row that no exercise lists, part by part (R93). -/
theorem darken_parts {u : RowUnit} (hu : (d.row r).rowUnit = some u) (hs : (d.segment u.segment).state ≠ .exercise)
    (s : Display) (c : Cause) (notice : Bool) :
    let d' := darken r s c notice d
    (∀ q, q ≠ r → d'.row q = d.row q) ∧
    d'.segment u.segment =
      { d.segment u.segment with queue := (d.segment u.segment).queue.filter (fun q => q ≠ r) } ∧
    (∀ g, g ≠ u.segment → d'.segment g = d.segment g) ∧
    d'.channel.settle = (if 0 < (d.row r).owed then d.reportNotShown else d).channel.settle ∧
    ChangesOnly [.rows, .segments, .settle, .notices] d d' ∧ d'.row r = darkRow (d.row r) s c ∧
    (notice = true → Notice.row r ∈ d'.notices) := by
  dsimp only
  rw [darken_of_not_exercise hu hs]
  refine ⟨fun q hq => ?_, ?_, fun k hk => ?_, settle_darkenOnly r s c notice d, ?_, ?_, fun hn => ?_⟩
  · rw [row_darkenOnly, if_neg hq]
  · rw [segment_darkenOnly, if_pos (onSegment_of_unit hu)]
  · rw [segment_darkenOnly, off_of_unit hu hk]
    rfl
  · exact ((dequeueRow_changes r d).andThen (modRow_changes _ r _) (n := [.rows, .segments, .settle, .notices])
      (by simp) (by simp)).trans ((darkenOnly_changes r s c notice d).mono (by simp))
  · rw [row_darkenOnly, if_pos rfl]
  · exact (mem_darkenOnly r s c notice d _).2 (.inr ⟨hn, rfl⟩)

/-- Settles O35: the table of R94 from the row a mark leaves, and the parts of a row that goes dark. -/
theorem marksAndDarkRows : Obligations.MarksAndDarkRows := by
  intro d r
  refine ⟨fun u hd hu => ⟨?_, fun q hq => ?_, ?_, fun k hk => ?_, markRow_changes r d⟩, markRow_of_painting,
    markRow_of_waiting, fun u c cell hu hs => ?_⟩
  · rw [row_markRow, if_pos rfl, markedRow_of_clean hd, if_neg (by simp [hu])]
  · rw [row_markRow, if_neg hq]
  · rw [segment_markRow, joining_singleton, if_pos ⟨hd, onSegment_of_unit hu⟩]
  · rw [segment_markRow, joining_singleton, if_neg (by simp [off_of_unit hu hk])]
    simp
  · obtain ⟨hother, hseg, hsegs, hsettle, hchanges, hrow, hnotice⟩ :=
      darken_parts hu hs .down c (c != .segmentOff)
    have hcell : (d.modRow r (fun x => { x with faultCell := cell })).row r = { d.row r with faultCell := cell } := by
      rw [row_modRow, if_pos rfl]
    have howed : ((d.modRow r (fun x => { x with faultCell := cell })).row r).owed = (d.row r).owed := by rw [hcell]
    obtain ⟨fother, fseg, fsegs, fsettle, fchanges, frow, fnotice⟩ :=
      darken_parts (d := d.modRow r (fun x => { x with faultCell := cell })) (r := r) (u := u) (by rw [hcell]; exact hu) hs
        .faulted c true
    refine ⟨⟨hother, hseg, hsegs, hsettle, hchanges⟩, hrow, fun hc => hnotice (by simpa using hc),
      ⟨fun q hq => ?_, fseg, fsegs, ?_, (modRow_changes d r _).andThen fchanges (by simp) (by simp)⟩, ?_, fnotice rfl⟩
    · rw [enterFaulted, fother q hq, row_modRow, if_neg hq]
    · rw [enterFaulted, fsettle, howed]
      split
      · exact settle_reportNotShown_congr rfl
      · rfl
    · rw [enterFaulted, frow, hcell]
      rfl

/-! ## O37 -/

theorem countDisplay_eq_length (d : Device) (g : SegNo) (s : Display) : countDisplay d g s =
    (everyRow.filter (fun q => (d.row q).onSegment g && (d.row q).display == s)).length := by
  rw [countDisplay, rowsOf, List.filter_filter]
  simp only [Bool.and_comm]

theorem cellSteps_eq (shown : Option Image) (target : Image) : cellSteps shown target =
    match shown with
    | none => target.cells.map (fun _ => 39)
    | some i => List.zipWith (fun target shown => (target + 40 - shown) % 40) target.cells i.cells := by
  unfold cellSteps
  cases shown with
  | none => rfl
  | some i =>
    dsimp only
    rw [List.zipWith_comm]
    rfl

theorem startReady_of_room {r : RowNo} {rest : List RowNo} (ha : (d.segment g).state = .active)
    (hm : countDisplay d g .moving < (d.segment g).motionLimit) (hq : (d.segment g).queue = r :: rest) :
    startReady d g = some r := by
  unfold startReady
  rw [if_pos ⟨ha, hm⟩, hq]
  rfl

/-- On a free line of an ACTIVE segment a repaint comes before every other use (R116). -/
theorem lineChoice_repaint (ha : (d.segment g).state = .active) (hf : (d.line g).frame = none)
    (hr : startReady d g = some r) : lineChoice d g = some (.repaint, r) := by
  have hfree : d.lineState g = .free := lineState_eq_free.2 ⟨by simp [ha], hf⟩
  unfold lineChoice
  rw [if_pos hfree, ha, hr]
  rfl

theorem takeUse_of_choice {use : LineUse} {work : RowNo → Device → Device} (h : lineChoice d g = some (use, r)) :
    takeUse use g work d = work r d := by
  unfold takeUse
  rw [h]
  exact if_pos rfl

/-- A command that is not the line's choice changes nothing (log 10). -/
theorem takeUse_of_not_choice {use : LineUse} {work : RowNo → Device → Device}
    (h : ∀ r, lineChoice d g ≠ some (use, r)) : takeUse use g work d = d := by
  unfold takeUse
  split
  · next u r hc =>
    split
    · next hu => exact absurd (hu ▸ hc) (h r)
    · rfl
  · rfl

/-- Settles O37: the line's choice is the repaint of the front row exactly when the segment is ready for one. -/
theorem repaintStartsAtTheFrontOfTheQueue : Obligations.RepaintStartsAtTheFrontOfTheQueue := by
  intro s g
  refine ⟨fun r rest hmay hq => ?_, fun hnot => ?_⟩
  · obtain ⟨ha, hf, hm⟩ := hmay
    have htake : takeUse .repaint g (startRepaint g) s.device = startRepaint g r s.device :=
      takeUse_of_choice (lineChoice_repaint ha hf
        (startReady_of_room ha ((countDisplay_eq_length _ _ _).trans_lt hm) hq))
    refine ⟨⟨takeUse .repaint g (startRepaint g) s.device, s.pending⟩, rfl, rfl, ?_⟩
    rw [htake]
    refine ⟨?_, fun q hq' => ?_, ?_, fun k hk => ?_, ?_, fun k hk => ?_, ?_⟩
    · rw [row_startRepaint, if_pos rfl]
      unfold startedRow estimate greatest
      simp only [cellSteps_eq] <;> rfl
    · rw [row_startRepaint, if_neg hq']
    · rw [segment_startRepaint, if_pos rfl, hq]
      rfl
    · rw [segment_startRepaint, if_neg hk]
    · rw [line_startRepaint, if_pos rfl]
    · rw [line_startRepaint, if_neg hk]
    · exact ((modSegment_changes s.device g _).andThen (setRow_changes _ r _) (n := [.rows, .segments, .lines])
        (by simp) (by simp)).trans ((sendFrame_changes g _ r _ _).mono (by simp))
  · have hsame : takeUse .repaint g (startRepaint g) s.device = s.device := by
      refine takeUse_of_not_choice fun r hc => ?_
      obtain ⟨-, hf, ha, hready⟩ := lineChoice_offer hc
      obtain ⟨-, hm, hhead⟩ := startReady_eq_some hready
      obtain hnot | hnil := hnot
      · exact hnot ⟨ha, hf, (countDisplay_eq_length _ _ _).symm.trans_lt hm⟩
      · rw [hnil] at hhead
        exact absurd hhead (by simp)
    show Host.Outcome.next (⟨takeUse .repaint g (startRepaint g) s.device, s.pending⟩ : State) = .next s
    rw [hsame]

/-! ## O39 -/

/-- A frame on its way leaves the rows and the segments as they are. -/
theorem sendFrame_board (use : LineUse) (r : RowNo) (body : FrameBody) (g : SegNo) (d : Device) :
    (∀ q, (sendFrame g use r body d).row q = d.row q) ∧ ∀ k, (sendFrame g use r body d).segment k = d.segment k :=
  ⟨(sendFrame_changes g use r body d).row_eq (by simp), (sendFrame_changes g use r body d).segment_eq (by simp)⟩

theorem lampsWithoutFresh_of_shown {x : Row} {i : Image} (h : x.shown = some i) :
    lampsWithoutFresh x = ⟨i.lamps.up, i.lamps.down, false⟩ := by
  unfold lampsWithoutFresh
  rw [h]

theorem line_startCompletionPoll (g k : SegNo) (r : RowNo) (d : Device) : (startCompletionPoll g r d).line k =
    if k = g then { handed ⟨.completionPoll, r, rowAddress d r, .poll⟩ (d.line g) with
      completionCursor := (d.row r).motionOrder }
    else d.line k := by
  unfold startCompletionPoll
  dsimp only
  rw [line_sendFrame, (modRow_changes _ r _).line_eq (by simp), (modRow_changes _ r _).line_eq (by simp), line_modLine,
    line_modLine, if_pos rfl]
  split
  · refine congrArg₂ handed (congrArg (Frame.mk _ _ · _) (rowAddress_congr ?_)) rfl
    rw [row_modRow, if_pos rfl]
    rfl
  · rfl

theorem row_startCompletionPoll (g : SegNo) (r q : RowNo) (d : Device) : (startCompletionPoll g r d).row q =
    if q = r then { d.row r with pollWait := .stopped } else d.row q := by
  unfold startCompletionPoll
  dsimp only
  rw [(sendFrame_board _ _ _ _ _).1, row_modRow]
  rfl

theorem line_startReadinessPoll (g k : SegNo) (r : RowNo) (d : Device) : (startReadinessPoll g r d).line k =
    if k = g then { handed ⟨.readinessPoll, r, rowAddress d r, .poll⟩ (d.line g) with pollCursor := some (rowAddress d r) }
    else d.line k := by
  unfold startReadinessPoll
  rw [line_sendFrame, line_modLine, line_modLine, if_pos rfl]
  split <;> rfl

theorem frameSent_of_frame {f : Frame} (hf : (d.line g).frame = some f) (ht : (d.line g).answerTimer = .stopped) :
    frameSent g d = d.setLine g { d.line g with answerTimer := .running (if f.body = .echoRequest then 120 else 40) } := by
  have htime : answerTimeOf f.body = if f.body = .echoRequest then 120 else 40 := by
    cases f.body <;> rfl
  unfold frameSent
  simp only [hf, ht, htime]
  rfl

theorem frameSent_of_untimely (h : (d.line g).frame = none ∨ (d.line g).answerTimer ≠ .stopped) : frameSent g d = d := by
  unfold frameSent
  dsimp only
  split
  · next f hf =>
    have hrun : (d.line g).answerTimer.isRunning = true := by
      cases ht : (d.line g).answerTimer with
      | stopped => exact absurd ht (h.resolve_left (by simp [hf]))
      | running n => rfl
    rw [if_pos hrun]
  · rfl

/-- Settles O39: each use sends the frame of the line's choice, and a command that is not the choice sends none. -/
theorem lineUsesSendTheirFrames : Obligations.LineUsesSendTheirFrames := by
  intro s g r
  refine ⟨fun hc i hi => ?_, fun hc => ?_, fun hc => ?_, fun hc => ?_, fun hc => ?_, fun u c hu hno => ?_, fun f hf ht => ?_,
    fun h => ?_⟩
  · refine ⟨⟨takeUse .lampChange g (startLampChange g) s.device, s.pending⟩, rfl, rfl, ?_⟩
    rw [takeUse_of_choice hc]
    obtain ⟨hrow, hseg⟩ := sendFrame_board .lampChange r (.lamps (lampsWithoutFresh (s.device.row r))) g s.device
    refine ⟨?_, fun k hk => ?_, hrow r, fun q _ => hrow q, hseg g, fun k _ => hseg k, (sendFrame_changes g _ r _ _).mono (by simp)⟩
    · rw [startLampChange, line_sendFrame, if_pos rfl, lampsWithoutFresh_of_shown hi]
    · rw [startLampChange, line_sendFrame, if_neg hk]
  · refine ⟨⟨takeUse .completionPoll g (startCompletionPoll g) s.device, s.pending⟩, rfl, rfl, ?_⟩
    rw [takeUse_of_choice hc]
    have hseg (k : SegNo) : (startCompletionPoll g r s.device).segment k = s.device.segment k :=
      (startCompletionPoll_changes g r s.device).segment_eq (by simp) k
    refine ⟨?_, fun k hk => ?_, ?_, fun q hq => ?_, hseg g, fun k _ => hseg k,
      (startCompletionPoll_changes g r s.device).mono (by simp)⟩
    · rw [line_startCompletionPoll, if_pos rfl]
    · rw [line_startCompletionPoll, if_neg hk]
    · rw [row_startCompletionPoll, if_pos rfl]
    · rw [row_startCompletionPoll, if_neg hq]
  · refine ⟨⟨takeUse .readinessPoll g (startReadinessPoll g) s.device, s.pending⟩, rfl, rfl, ?_⟩
    rw [takeUse_of_choice hc]
    have hchanges := startReadinessPoll_changes g r s.device
    refine ⟨?_, fun k hk => ?_, hchanges.row_eq (by simp) r, fun q _ => hchanges.row_eq (by simp) q,
      hchanges.segment_eq (by simp) g, fun k _ => hchanges.segment_eq (by simp) k, hchanges.mono (by simp)⟩
    · rw [line_startReadinessPoll, if_pos rfl]
    · rw [line_startReadinessPoll, if_neg hk]
  · refine ⟨⟨takeUse .echoRequest g (startEchoRequest g) s.device, s.pending⟩, rfl, rfl, ?_⟩
    rw [takeUse_of_choice hc]
    obtain ⟨hrow, hseg⟩ := sendFrame_board .echoRequest r .echoRequest g s.device
    refine ⟨?_, fun k hk => ?_, hrow r, fun q _ => hrow q, hseg g, fun k _ => hseg k, (sendFrame_changes g _ r _ _).mono (by simp)⟩
    · rw [startEchoRequest, line_sendFrame, if_pos rfl]
    · rw [startEchoRequest, line_sendFrame, if_neg hk]
  · refine ⟨⟨takeUse .pattern g (startPattern g) s.device, s.pending⟩, rfl, rfl, ?_⟩
    rw [takeUse_of_choice hc]
    refine ⟨?_, fun k hk => ?_, ?_, fun q hq => ?_, ?_, fun k hk => ?_, ?_⟩
    · rw [line_startPattern, if_pos rfl]
    · rw [line_startPattern, if_neg hk]
    · rw [row_startPattern, if_pos rfl]
    · rw [row_startPattern, if_neg hq]
    · rw [segment_startPattern, if_pos rfl]
    · rw [segment_startPattern, if_neg hk]
    · exact ((modRow_changes s.device r _).andThen (setStep_changes r _ g _) (n := [.lines, .rows, .segments])
        (by simp) (by simp)).trans ((sendFrame_changes g _ r _ _).mono (by simp))
  · have hnot {work : RowNo → Device → Device} : takeUse u g work s.device = s.device := takeUse_of_not_choice hno
    simp only [List.mem_cons, Prod.mk.injEq, List.not_mem_nil, or_false] at hu
    obtain ⟨rfl, rfl⟩ | ⟨rfl, rfl⟩ | ⟨rfl, rfl⟩ | ⟨rfl, rfl⟩ | ⟨rfl, rfl⟩ := hu
    all_goals exact congrArg (fun e => Host.Outcome.next (⟨e, s.pending⟩ : State)) hnot
  · exact congrArg (fun e => Host.Outcome.next (⟨e, s.pending⟩ : State)) (frameSent_of_frame hf ht)
  · exact congrArg (fun e => Host.Outcome.next (⟨e, s.pending⟩ : State)) (frameSent_of_untimely h)

/-! ## O45 -/

/-- The cell that is blamed for a stall (R102). -/
theorem slowestCell_eq (shown : Option Image) (target : Image) : slowestCell shown target =
    (let steps := match shown with
      | none => target.cells.map (fun _ => 39)
      | some i => List.zipWith (fun shown target => (target + 40 - shown) % 40) i.cells target.cells
    steps.idxOf (steps.foldl max 0)) := by
  cases shown <;> rfl

theorem stallExpired_of_moving {n : Nat} {u : RowUnit} {sent : Sent} (ht : (d.row r).stallTimer = .running n)
    (hu : (d.row r).rowUnit = some u) (hd : (d.row r).display = .moving) (hs : (d.row r).sent = some sent) :
    stallExpired r d = enterFaulted r .stalled (slowestCell (d.row r).shown sent.image) d := by
  simp only [stallExpired, ht, hu, hd, hs, Timer.isRunning, if_true]

theorem stallExpired_of_turning {n : Nat} {u : RowUnit} (ht : (d.row r).stallTimer = .running n)
    (hu : (d.row r).rowUnit = some u) (hd : (d.row r).display ≠ .moving) (hst : exerciseStep d r = some .turning) :
    stallExpired r d =
      enterFaulted r .stalled (slowestCell (d.row r).shown (exercisePattern (d.segment u.segment).seed r)) d := by
  simp only [stallExpired, ht, hu, hd, hst, Timer.isRunning, if_true, if_false]

/-- Settles O45, timer by timer. -/
theorem rowTimersExpire : Obligations.RowTimersExpire := by
  intro s r n
  have hnext {f : Device → Device} {e : Device} (h : f s.device = e) :
      Host.Outcome.next (⟨f s.device, s.pending⟩ : State) = (.next ⟨e, s.pending⟩ : Host.Outcome State Fault Refusal) :=
    congrArg (fun e => Host.Outcome.next (⟨e, s.pending⟩ : State)) h
  refine ⟨fun u sent ht hu hd hs => hnext (f := stallExpired r) ?_, fun u ht hu hd hst => hnext (f := stallExpired r) ?_,
    fun ht => hnext (f := stallExpired r) ?_, fun ht => hnext (f := holdExpired r) ?_, fun ht => hnext (f := holdExpired r) ?_,
    fun ht => hnext (f := pollWaitExpired r) ?_, fun ht => hnext (f := pollWaitExpired r) ?_⟩
  · rw [stallExpired_of_moving ht hu hd hs, slowestCell_eq] <;> rfl
  · rw [stallExpired_of_turning ht hu hd hst, slowestCell_eq] <;> rfl
  · simp [stallExpired, ht, Timer.isRunning]
  · have hclean : ((s.device.row r).display == .clean) = decide ((s.device.row r).display = .clean) := by
      cases (s.device.row r).display <;> rfl
    simp only [holdExpired, ht, Timer.isRunning, if_true, hclean]
  · simp [holdExpired, ht, Timer.isRunning]
  · unfold pollWaitExpired
    rw [ht]
    rfl
  · unfold pollWaitExpired
    obtain ht | ht := ht <;> rw [ht]

end Sys2Proof.Machine
end


section
/-! PROOFS. The choice of a free board line (O38). -/

namespace Sys2Proof.Machine

variable {g : SegNo} {r q : RowNo} {d : Device}

/-! ## First rows -/

/-- In a rising list the row found is the lowest that fits. -/
theorem find?_le {l : List RowNo} {p : RowNo → Bool} (hl : l.Pairwise (· < ·)) (hr : l.find? p = some r) (hq : q ∈ l)
    (hp : p q = true) : r ≤ q := by
  induction l with
  | nil => exact absurd hr (by simp)
  | cons a l ih =>
    obtain ⟨ha, hl⟩ := List.pairwise_cons.1 hl
    cases hpa : p a with
    | true =>
      rw [List.find?_cons_of_pos hpa] at hr
      cases hr
      obtain rfl | hq := List.mem_cons.1 hq
      · exact le_rfl
      · exact (ha q hq).le
    | false =>
      rw [List.find?_cons_of_neg (by simp [hpa])] at hr
      obtain rfl | hq := List.mem_cons.1 hq
      · exact absurd (hpa.symm.trans hp) (by simp)
      · exact ih hl hr hq

theorem leastBy_le {key : RowNo → Nat} {l : List RowNo} (h : leastBy key l = some r) (hq : q ∈ l) : key r ≤ key q := by
  induction l generalizing r with
  | nil => exact absurd hq (by simp)
  | cons a l ih =>
    unfold leastBy at h
    split at h
    · next hnone =>
      cases h
      obtain rfl | hq := List.mem_cons.1 hq
      · exact le_rfl
      · cases l with
        | nil => exact absurd hq (by simp)
        | cons b l =>
          unfold leastBy at hnone
          split at hnone
          · exact absurd hnone (by simp)
          · split at hnone <;> exact absurd hnone (by simp)
    · next m hm =>
      split at h
      · next hle =>
        cases h
        obtain rfl | hq := List.mem_cons.1 hq
        · exact le_rfl
        · exact hle.trans (ih hm hq)
      · next hlt =>
        cases h
        obtain rfl | hq := List.mem_cons.1 hq
        · exact (not_le.1 hlt).le
        · exact ih hm hq

theorem leastBy_eq_none {key : RowNo → Nat} {l : List RowNo} : leastBy key l = none ↔ l = [] := by
  cases l with
  | nil => exact ⟨fun _ => rfl, fun _ => rfl⟩
  | cons a l =>
    unfold leastBy
    refine ⟨fun h => ?_, fun h => absurd h (by simp)⟩
    split at h
    · exact absurd h (by simp)
    · split at h <;> exact absurd h (by simp)

theorem pairwise_rowsOf (d : Device) (g : SegNo) : (rowsOf d g).Pairwise (· < ·) := (List.pairwise_lt_finRange 256).filter _

/-! ## The uses in their order -/

/-- The row a use is offered. -/
def offered (d : Device) (g : SegNo) : LineUse → Option RowNo
  | .repaint => startReady d g
  | .lampChange => lampRow d g
  | .completionPoll => dueRow d g
  | .readinessPoll => readinessRow d g
  | .echoRequest => echoRow d g
  | .pattern => patternRow d g

theorem firstOf_map_eq_some {offer : LineUse → Option RowNo} {l : List LineUse} {u : LineUse}
    (h : firstOf (l.map (fun v => (v, offer v))) = some (u, r)) :
    u ∈ l ∧ offer u = some r ∧ ∀ v ∈ l.takeWhile (fun v => v ≠ u), offer v = none := by
  induction l with
  | nil => exact absurd h (by simp [firstOf])
  | cons w l ih =>
    rw [List.map_cons] at h
    cases hw : offer w with
    | some q =>
      rw [hw] at h
      cases h
      exact ⟨by simp, hw, by simp⟩
    | none =>
      rw [hw] at h
      obtain ⟨hu, hr, hbefore⟩ := ih h
      have hne : w ≠ u := fun e => by
        rw [e, hr] at hw
        exact absurd hw (by simp)
      refine ⟨List.mem_cons_of_mem _ hu, hr, fun v hv => ?_⟩
      rw [List.takeWhile_cons_of_pos (by simpa using hne)] at hv
      obtain rfl | hv := List.mem_cons.1 hv
      · exact hw
      · exact hbefore v hv

theorem firstOf_map_eq_none {offer : LineUse → Option RowNo} {l : List LineUse}
    (h : firstOf (l.map (fun v => (v, offer v))) = none) : ∀ v ∈ l, offer v = none := by
  induction l with
  | nil => exact fun v hv => absurd hv (by simp)
  | cons w l ih =>
    rw [List.map_cons] at h
    cases hw : offer w with
    | some q =>
      rw [hw] at h
      exact absurd h (by simp [firstOf])
    | none =>
      rw [hw] at h
      intro v hv
      obtain rfl | hv := List.mem_cons.1 hv
      · exact hw
      · exact ih h v hv

theorem lineChoice_eq (hf : (d.line g).frame = none) :
    lineChoice d g = firstOf ((useOrder (d.segment g).state).map (fun u => (u, offered d g u))) := by
  unfold lineChoice
  cases hs : (d.segment g).state with
  | disabled =>
    rw [if_neg (fun h => (lineState_eq_free.1 h).1 hs)]
    rfl
  | active =>
    rw [if_pos (lineState_eq_free.2 ⟨by simp [hs], hf⟩)]
    rfl
  | exercise =>
    rw [if_pos (lineState_eq_free.2 ⟨by simp [hs], hf⟩)]
    rfl

/-! ## What each use waits for -/

theorem waits_lampChange : UseWaits d g .lampChange r ↔
    r ∈ rowsOf d g ∧ ((d.row r).display == .clean && (d.row r).lampOffOwed) = true := by
  rw [mem_rowsOf, Bool.and_eq_true_iff, beq_iff_eq]
  exact Iff.rfl

theorem waits_completionPoll : UseWaits d g .completionPoll r ↔
    r ∈ (rowsOf d g).filter (fun r => (d.row r).pollWait == .due && turns d r) := by
  rw [List.mem_filter, mem_rowsOf, Bool.and_eq_true_iff, beq_iff_eq, turns_iff]
  exact Iff.rfl

theorem pollable_iff : pollable d r = true ↔
    ((d.row r).display = .clean ∨ (d.row r).display = .queued ∨ (d.row r).display = .down) ∧
      (exerciseStep d r = none ∨ exerciseStep d r = some .waiting ∨ exerciseStep d r = some .passed) := by
  unfold pollable
  rw [Bool.and_eq_true_iff]
  refine and_congr ?_ ?_
  · simp [or_assoc]
  · cases hst : exerciseStep d r with
    | none => simp
    | some st => cases st <;> simp

theorem waits_readinessPoll : UseWaits d g .readinessPoll r ↔ r ∈ (rowsOf d g).filter (pollable d) := by
  rw [List.mem_filter, mem_rowsOf, pollable_iff]
  exact Iff.rfl

theorem waits_echoRequest : UseWaits d g .echoRequest r ↔
    (d.segment g).exerciseList.any (fun x => x.row == r && x.step == .echoing) = true := by
  simp [UseWaits]

/-! ## The first row of each use -/

/-- What an offer means: the row the use waits for and no row it waits for comes before it, or no row at all. -/
structure FirstRow (d : Device) (g : SegNo) (u : LineUse) : Prop where
  waits : ∀ r, offered d g u = some r → UseWaits d g u r ∧ ∀ q, UseWaits d g u q → ¬ Before d g u q r
  none : offered d g u = none → ∀ q, ¬ UseWaits d g u q

theorem firstRow_repaint (hs : (d.segment g).state = .active) : FirstRow d g .repaint := by
  refine ⟨fun r hr => ?_, fun hn q hq => ?_⟩
  · obtain ⟨-, hm, hhead⟩ := startReady_eq_some hr
    exact ⟨⟨hhead, hm⟩, fun _ _ h => h⟩
  · have hready : startReady d g = some q := (if_pos ⟨hs, hq.2⟩).trans hq.1
    exact absurd (hn.symm.trans hready) (by simp)

theorem firstRow_lampChange : FirstRow d g .lampChange := by
  refine ⟨fun r hr => ⟨lampRow_mem hr, fun q hq hlt => ?_⟩, fun hn q hq => ?_⟩
  · obtain ⟨hmem, hp⟩ := waits_lampChange.1 hq
    exact absurd (find?_le (pairwise_rowsOf d g) hr hmem hp) (not_le.2 hlt)
  · obtain ⟨hmem, hp⟩ := waits_lampChange.1 hq
    exact List.find?_eq_none.1 hn q hmem hp

theorem firstRow_echoRequest : FirstRow d g .echoRequest := by
  refine ⟨fun r hr => ⟨echoRow_mem hr, fun q hq hlt => ?_⟩, fun hn q hq => ?_⟩
  · have hfind : everyRow.find? (fun r =>
        (d.segment g).exerciseList.any (fun x => x.row == r && x.step == .echoing)) = some r := hr
    exact absurd (find?_le (List.pairwise_lt_finRange 256) hfind (List.mem_finRange q) (waits_echoRequest.1 hq))
      (not_le.2 hlt)
  · exact List.find?_eq_none.1 hn q (List.mem_finRange q) (waits_echoRequest.1 hq)

theorem waits_pattern : UseWaits d g .pattern r ↔ patternRow d g = some r := by
  unfold patternRow
  show ((((d.segment g).exerciseList.filter (fun y => y.step == .waiting)).head?.map (·.row) = some r ∧ _) ↔ _)
  rw [List.head?_filter]
  cases hfind : (d.segment g).exerciseList.find? (fun x => x.step == .waiting) with
  | none => simp
  | some x =>
    dsimp only
    split
    · next hc =>
      simp only [Option.map_some, Option.some.injEq]
      exact ⟨fun h => h.1, fun h => ⟨h, h ▸ hc⟩⟩
    · next hc =>
      simp only [Option.map_some, Option.some.injEq]
      refine ⟨fun h => absurd ?_ hc, fun h => absurd h (by simp)⟩
      rw [h.1]
      exact h.2

theorem firstRow_pattern : FirstRow d g .pattern :=
  ⟨fun _ hr => ⟨waits_pattern.2 hr, fun _ _ h => h⟩, fun hn q hq => absurd (hn.symm.trans (waits_pattern.1 hq)) (by simp)⟩

theorem age_lt (w : Word) : w.toNat < 65536 := w.isLt

theorem rowAge_lt (d : Device) (g : SegNo) (r : RowNo) : rowAge d g r < 65536 := by
  unfold rowAge
  split
  · exact age_lt _
  · omega

/-- Whether a row lies past the completion cursor in motion order (R116). -/
def pastCursor (d : Device) (g : SegNo) (x : RowNo) : Bool :=
  match (d.line g).completionCursor with
  | some c => decide (rowAge d g x < motionAge d g c)
  | none => true

theorem before_completionPoll : Before d g .completionPoll q r ↔
    (pastCursor d g q = true ∧ pastCursor d g r = false) ∨
      (pastCursor d g q = pastCursor d g r ∧ rowAge d g r < rowAge d g q) := Iff.rfl

/-- A row's address as a number, 0 without a unit. -/
def addressOf (d : Device) (x : RowNo) : Nat :=
  match (d.row x).rowUnit with
  | some v => v.address.val
  | none => 0

theorem rowAddress_val (d : Device) (x : RowNo) : (rowAddress d x).val = addressOf d x := by
  unfold rowAddress addressOf
  cases (d.row x).rowUnit <;> rfl

/-- Whether a row's address lies above the poll cursor (R118). -/
def aboveCursor (d : Device) (g : SegNo) (x : RowNo) : Bool :=
  match (d.line g).pollCursor with
  | some c => decide (c.val < addressOf d x)
  | none => true

theorem before_readinessPoll : Before d g .readinessPoll q r ↔
    (aboveCursor d g q = true ∧ aboveCursor d g r = false) ∨
      (aboveCursor d g q = aboveCursor d g r ∧ addressOf d q < addressOf d r) := Iff.rfl

/-- Of the rows past the cursor the least, and where there is none the least of all: no row comes before it. -/
theorem least_wrapping {key : RowNo → Nat} {past : RowNo → Bool} {l : List RowNo} {o : Option RowNo}
    (ho : o = match leastBy key (l.filter past) with
      | some r => some r
      | none => leastBy key l) :
    (∀ r, o = some r → r ∈ l ∧ ∀ q ∈ l, ¬ ((past q = true ∧ past r = false) ∨ (past q = past r ∧ key q < key r))) ∧
    (o = none → l = []) := by
  cases hm : leastBy key (l.filter past) with
  | some m =>
    rw [hm] at ho
    subst ho
    obtain ⟨hmem, hpast⟩ := List.mem_filter.1 (leastBy_mem hm)
    refine ⟨fun r hr => ?_, fun h => absurd h (by simp)⟩
    cases hr
    refine ⟨hmem, fun q hq hbefore => ?_⟩
    obtain ⟨-, hr⟩ | ⟨hqr, hlt⟩ := hbefore
    · exact absurd (hpast.symm.trans hr) (by simp)
    · exact absurd (leastBy_le hm (List.mem_filter.2 ⟨hq, hqr.trans hpast⟩)) (not_le.2 hlt)
  | none =>
    rw [hm] at ho
    have hnone : ∀ q ∈ l, past q = false := fun q hq => by
      simpa using List.filter_eq_nil_iff.1 (leastBy_eq_none.1 hm) q hq
    refine ⟨fun r hr => ?_, fun h => leastBy_eq_none.1 (ho.symm.trans h)⟩
    have hleast := ho.symm.trans hr
    refine ⟨leastBy_mem hleast, fun q hq hbefore => ?_⟩
    obtain ⟨hp, -⟩ | ⟨-, hlt⟩ := hbefore
    · exact absurd (hp.symm.trans (hnone q hq)) (by simp)
    · exact absurd (leastBy_le hleast hq) (not_le.2 hlt)

theorem leastBy_filter_true (key : RowNo → Nat) (l : List RowNo) :
    leastBy key l = match leastBy key (l.filter (fun _ => true)) with
      | some r => some r
      | none => leastBy key l := by
  rw [List.filter_true]
  cases h : leastBy key l <;> rfl

theorem dueRow_eq (d : Device) (g : SegNo) :
    dueRow d g = match leastBy (fun r => 65536 - rowAge d g r)
        (((rowsOf d g).filter (fun r => (d.row r).pollWait == .due && turns d r)).filter (pastCursor d g)) with
      | some r => some r
      | none => leastBy (fun r => 65536 - rowAge d g r)
          ((rowsOf d g).filter (fun r => (d.row r).pollWait == .due && turns d r)) := by
  unfold dueRow pastCursor
  cases hc : (d.line g).completionCursor with
  | none => exact leastBy_filter_true _ _
  | some c => rfl

theorem readinessRow_eq (d : Device) (g : SegNo) :
    readinessRow d g = match leastBy (addressOf d) (((rowsOf d g).filter (pollable d)).filter (aboveCursor d g)) with
      | some r => some r
      | none => leastBy (addressOf d) ((rowsOf d g).filter (pollable d)) := by
  unfold readinessRow aboveCursor
  simp only [Fin.lt_def, rowAddress_val]
  cases hc : (d.line g).pollCursor with
  | none => exact leastBy_filter_true _ _
  | some c => rfl

theorem firstRow_completionPoll : FirstRow d g .completionPoll := by
  obtain ⟨hsome, hnone⟩ := least_wrapping (dueRow_eq d g)
  refine ⟨fun r hr => ?_, fun hn q hq => ?_⟩
  · obtain ⟨hmem, hfirst⟩ := hsome r hr
    refine ⟨waits_completionPoll.2 hmem, fun q hq hbefore => hfirst q (waits_completionPoll.1 hq) ?_⟩
    refine (before_completionPoll.1 hbefore).imp id fun ⟨hp, hage⟩ => ⟨hp, ?_⟩
    have hq := rowAge_lt d g q
    have hr := rowAge_lt d g r
    omega
  · have hmem := waits_completionPoll.1 hq
    rw [hnone hn] at hmem
    exact absurd hmem (by simp)

theorem firstRow_readinessPoll : FirstRow d g .readinessPoll := by
  obtain ⟨hsome, hnone⟩ := least_wrapping (readinessRow_eq d g)
  refine ⟨fun r hr => ?_, fun hn q hq => ?_⟩
  · obtain ⟨hmem, hfirst⟩ := hsome r hr
    exact ⟨waits_readinessPoll.2 hmem, fun q hq hbefore => hfirst q (waits_readinessPoll.1 hq)
      (before_readinessPoll.1 hbefore)⟩
  · have hmem := waits_readinessPoll.1 hq
    rw [hnone hn] at hmem
    exact absurd hmem (by simp)

theorem firstRow_of_order {u : LineUse} (h : u ∈ useOrder (d.segment g).state) : FirstRow d g u := by
  cases u with
  | repaint =>
    refine firstRow_repaint ?_
    cases hs : (d.segment g).state with
    | active => rfl
    | disabled => rw [hs] at h; simp [useOrder] at h
    | exercise => rw [hs] at h; simp [useOrder] at h
  | lampChange => exact firstRow_lampChange
  | completionPoll => exact firstRow_completionPoll
  | readinessPoll => exact firstRow_readinessPoll
  | echoRequest => exact firstRow_echoRequest
  | pattern => exact firstRow_pattern

/-- Settles O38: a free line asks its uses in their order, and each use names its first row. -/
theorem freeLineTakesItsFirstUse : Obligations.FreeLineTakesItsFirstUse := by
  intro d g
  refine ⟨fun h => ?_, fun hf => ⟨fun u r hc => ?_, fun hc v hv => ?_⟩⟩
  · have hbusy : d.lineState g ≠ .free := fun hfree => by
      obtain ⟨hs, hf⟩ := lineState_eq_free.1 hfree
      exact h.elim hs (fun hne => hne hf)
    exact if_neg hbusy
  · rw [lineChoice_eq hf] at hc
    obtain ⟨hu, hr, hbefore⟩ := firstOf_map_eq_some hc
    obtain ⟨hwaits, hfirst⟩ := (firstRow_of_order hu).waits r hr
    exact ⟨hu, hwaits, fun v hv =>
      (firstRow_of_order ((List.takeWhile_sublist _).subset hv)).none (hbefore v hv), hfirst⟩
  · rw [lineChoice_eq hf] at hc
    exact (firstRow_of_order hv).none (firstOf_map_eq_none hc v hv)

end Sys2Proof.Machine
end


section
/-! PROOFS. The answers of the row units (O40, O41, O42, O44). -/

namespace Sys2Proof.Machine

variable {g : SegNo} {r : RowNo} {d : Device} {s : State} {c : Instr} {f : Frame}

/-! ## Good and bad answers -/

/-- What a good answer does past the end of its exchange. -/
def goodWork (c : Instr) (g : SegNo) (f : Frame) (d : Device) : Device :=
  match c with
  | .ack .. => accepted g f d
  | .status _ _ state _ _ => polled g state f d
  | .echo _ _ sensed _ _ => echoed g sensed f d
  | _ => d

/-- What an answer does to a line that waits for one. -/
def answered (c : Instr) (g : SegNo) (f : Frame) (d : Device) : Device :=
  if goodAnswer c f = true then goodWork c g f (heard g f (endExchange g d)) else badAnswerTo g f d

theorem takeAnswer_of_unawaited {kind addr sum : Byte} {body : List Byte} {spoiled : Bool} {act : Frame → Device → Device}
    (h : awaited d g = none) : takeAnswer g kind addr body sum spoiled act d = d := by
  unfold takeAnswer
  rw [h]

theorem takeAnswer_of_awaited {kind addr sum : Byte} {body : List Byte} {spoiled : Bool} {act : Frame → Device → Device}
    (h : awaited d g = some f) : takeAnswer g kind addr body sum spoiled act d =
      if isGood f kind addr body sum spoiled then act f (heard g f (endExchange g d)) else badAnswerTo g f d := by
  unfold takeAnswer
  rw [h]

theorem awaited_eq_none : awaited d g = none ↔ (d.line g).frame = none ∨ (d.line g).answerTimer = .stopped := by
  unfold awaited
  cases (d.line g).answerTimer <;> simp [Timer.isRunning]

theorem awaited_of_running {n : Nat} (hf : (d.line g).frame = some f) (ht : (d.line g).answerTimer = .running n) :
    awaited d g = some f := by
  unfold awaited
  rw [ht]
  exact hf

theorem isGood_ack (addr sum : Byte) (spoiled : Bool) :
    isGood f ackKind addr [] sum spoiled = goodAnswer (.ack g addr sum spoiled) f := by
  have hsum : frameSum [ackKind, addr] = 0x06 + addr := by simp [frameSum, ackKind]
  unfold isGood frameRight goodAnswer
  rw [hsum]
  cases f.body with
  | image i => simp [goodKind]
  | lamps l => simp [goodKind]
  | poll => simp [goodKind, (by decide : (ackKind == statusKind) = false)]
  | echoRequest => simp [goodKind, (by decide : (ackKind == echoKind) = false)]

theorem isGood_nak (addr sum : Byte) (spoiled : Bool) : isGood f nakKind addr [] sum spoiled = false := by
  have hkind : (nakKind == goodKind f.body) = false := by
    simpa using (goodKind_ne_nakKind f.body).symm
  unfold isGood
  rw [hkind, Bool.and_false]

theorem isGood_status (addr state sum : Byte) (spoiled : Bool) :
    isGood f statusKind addr [state] sum spoiled = goodAnswer (.status g addr state sum spoiled) f := by
  have hsum : frameSum [statusKind, addr, state] = 0x53 + addr + state := by simp [frameSum, statusKind]
  unfold isGood frameRight goodAnswer
  rw [hsum]
  cases f.body with
  | poll => simp [goodKind]
  | image i => simp [goodKind, (by decide : (statusKind == ackKind) = false)]
  | lamps l => simp [goodKind, (by decide : (statusKind == ackKind) = false)]
  | echoRequest => simp [goodKind, (by decide : (statusKind == echoKind) = false)]

theorem isGood_echo (addr sum : Byte) (sensed : List Byte) (spoiled : Bool) :
    isGood f echoKind addr sensed sum spoiled = goodAnswer (.echo g addr sensed sum spoiled) f := by
  unfold isGood frameRight goodAnswer
  cases f.body with
  | echoRequest => simp [goodKind, show echoKind = 0x65 from rfl]
  | image i => simp [goodKind, (by decide : (echoKind == ackKind) = false)]
  | lamps l => simp [goodKind, (by decide : (echoKind == ackKind) = false)]
  | poll => simp [goodKind, (by decide : (echoKind == statusKind) = false)]

/-- A command that answers a line: nothing while no answer is awaited, and else what its answer does. -/
theorem exec_answer (h : answersOn c = some g) : exec c s =
    .next ⟨match awaited s.device g with
      | none => s.device
      | some f => answered c g f s.device, s.pending⟩ := by
  have htake {kind addr sum : Byte} {body : List Byte} {spoiled : Bool} {act : Frame → Device → Device}
      (hgood : ∀ f, isGood f kind addr body sum spoiled = goodAnswer c f)
      (hwork : ∀ f, goodAnswer c f = true → goodWork c g f = act f) :
      takeAnswer g kind addr body sum spoiled act s.device = (match awaited s.device g with
        | none => s.device
        | some f => answered c g f s.device) := by
    cases ha : awaited s.device g with
    | none => exact takeAnswer_of_unawaited ha
    | some f =>
      rw [takeAnswer_of_awaited ha, hgood]
      show _ = answered c g f s.device
      unfold answered
      by_cases hc : goodAnswer c f = true
      · rw [if_pos hc, if_pos hc, hwork f hc]
      · rw [if_neg hc, if_neg hc]
  have hbad (hgood : ∀ f, goodAnswer c f = false) : badAnswerNow g s.device = (match awaited s.device g with
      | none => s.device
      | some f => answered c g f s.device) := by
    unfold badAnswerNow
    cases ha : awaited s.device g with
    | none => rfl
    | some f => exact (if_neg (by simp [hgood f])).symm
  unfold answersOn at h
  split at h
  · cases h
    exact congrArg (fun e => Host.Outcome.next (⟨e, s.pending⟩ : State))
      (htake (fun f => isGood_ack _ _ _) fun _ _ => rfl)
  · cases h
    exact congrArg (fun e => Host.Outcome.next (⟨e, s.pending⟩ : State))
      (htake (act := fun _ d => d) (fun f => isGood_nak _ _ _) fun _ _ => rfl)
  · cases h
    exact congrArg (fun e => Host.Outcome.next (⟨e, s.pending⟩ : State))
      (htake (fun f => isGood_status _ _ _ _) fun _ _ => rfl)
  · split at h
    · next hlen =>
      cases h
      refine Eq.trans ?_ (congrArg (fun e => Host.Outcome.next (⟨e, s.pending⟩ : State))
        (htake (act := echoed _ _) (fun f => isGood_echo _ _ _ _) fun _ _ => rfl))
      exact congrArg (fun e => Host.Outcome.next (⟨e, s.pending⟩ : State)) (if_pos hlen)
    · exact absurd h (by simp)
  · split at h
    · exact absurd h (by simp)
    · next hfirst =>
      cases h
      refine Eq.trans ?_ (congrArg (fun e => Host.Outcome.next (⟨e, s.pending⟩ : State)) (hbad fun _ => rfl))
      exact congrArg (fun e => Host.Outcome.next (⟨e, s.pending⟩ : State)) (if_neg (by simpa using hfirst))
  · cases h
    exact congrArg (fun e => Host.Outcome.next (⟨e, s.pending⟩ : State)) (hbad fun _ => rfl)
  · exact absurd h (by simp)

theorem exec_unawaited (h : answersOn c = some g)
    (hno : (s.device.line g).frame = none ∨ (s.device.line g).answerTimer = .stopped) : exec c s = .next s := by
  rw [exec_answer h, awaited_eq_none.2 hno]

theorem exec_bad {n : Nat} (h : answersOn c = some g) (hf : (s.device.line g).frame = some f)
    (ht : (s.device.line g).answerTimer = .running n) (hbad : goodAnswer c f = false) :
    exec c s = .next ⟨badAnswerTo g f s.device, s.pending⟩ := by
  rw [exec_answer h, awaited_of_running hf ht]
  exact congrArg (fun e => Host.Outcome.next (⟨e, s.pending⟩ : State)) (if_neg (by simp [hbad]))

theorem exec_good {n : Nat} (h : answersOn c = some g) (hf : (s.device.line g).frame = some f)
    (ht : (s.device.line g).answerTimer = .running n) (hgood : goodAnswer c f = true) :
    exec c s = .next ⟨goodWork c g f (heard g f (endExchange g s.device)), s.pending⟩ := by
  rw [exec_answer h, awaited_of_running hf ht]
  exact congrArg (fun e => Host.Outcome.next (⟨e, s.pending⟩ : State)) (if_pos hgood)

/-! ## O40 -/

theorem badAnswerTo_of_resend (hb : f.body ≠ .poll) (hr : (d.line g).retry < 2) : badAnswerTo g f d =
    d.setLine g { d.line g with retry := (d.line g).retry + 1, answerTimer := .stopped } := by
  unfold badAnswerTo
  split
  · next hp => exact absurd hp hb
  · exact if_pos hr

theorem badAnswerTo_of_final (hb : f.body ≠ .poll) (hr : 2 ≤ (d.line g).retry) :
    badAnswerTo g f d = enterDown f.row .silent (endExchange g d) := by
  unfold badAnswerTo
  split
  · next hp => exact absurd hp hb
  · exact if_neg (not_lt.2 hr)

theorem badAnswerTo_of_poll (hb : f.body = .poll) : badAnswerTo g f d = unansweredPoll g f (endExchange g d) := by
  unfold badAnswerTo
  rw [hb]

theorem takenSilent_of_service (h : (d.row r).display = .clean ∨ (d.row r).display = .queued ∨ (d.row r).display = .moving) :
    takenSilent r d = enterDown r .silent d := by
  unfold takenSilent
  obtain h | h | h := h <;> rw [h]

theorem takenSilent_of_down (h : (d.row r).display = .down) (hc : (d.row r).cause ≠ .segmentOff) :
    takenSilent r d = d.modRow r (fun x => { x with cause := .silent }) := by
  unfold takenSilent
  rw [h]
  exact if_neg hc

/-- The count of an unanswered poll on the line as the exchange leaves it. -/
theorem countedPoll_eq (g : SegNo) (f : Frame) (d : Device) : countedPoll f (endExchange g d) =
    (d.setLine g (closedLine (d.line g))).setRow f.row { d.row f.row with
      missed := min ((d.row f.row).missed + 1) 3,
      pollWait := if f.use = .completionPoll ∧ ((d.row f.row).display = .moving ∨ exerciseStep d f.row = some .turning) then
        .running 50 else (d.row f.row).pollWait } := by
  have hturns : (f.use == .completionPoll && turns (endExchange g d) f.row) = true ↔
      f.use = .completionPoll ∧ ((d.row f.row).display = .moving ∨ exerciseStep d f.row = some .turning) := by
    rw [Bool.and_eq_true_iff, beq_iff_eq, turns_iff]
    exact Iff.rfl
  unfold countedPoll
  rw [Device.modRow_eq]
  simp only [hturns]
  rfl

/-- Settles O40: a bad answer sends a frame again, fails it, or counts a poll against its row. -/
theorem badAnswersAreResentOrCounted : Obligations.BadAnswersAreResentOrCounted := by
  intro s c g hc
  refine ⟨exec_unawaited hc, fun f n hf ht hbad => ?_⟩
  have hexec := exec_bad hc hf ht hbad
  have hrow : ((endExchange g s.device).row f.row) = s.device.row f.row := rfl
  have hstill : stillAt (endExchange g s.device) g f = false ↔ (s.device.row f.row).rowUnit ≠ some ⟨g, f.address⟩ := by
    rw [← Bool.not_eq_true, stillAt_iff]
    rfl
  have hcount (hb : f.body = .poll) (hd : (s.device.row f.row).display ≠ .faulted)
      (hu : (s.device.row f.row).rowUnit = some ⟨g, f.address⟩) : badAnswerTo g f s.device =
        if min ((s.device.row f.row).missed + 1) 3 = 3 then takenSilent f.row (countedPoll f (endExchange g s.device))
        else countedPoll f (endExchange g s.device) := by
    rw [badAnswerTo_of_poll hb]
    exact unansweredPoll_of_counted (not_or.2 ⟨hd, fun h => hstill.1 h hu⟩)
  have hcounted : (countedPoll f (endExchange g s.device)).row f.row = { s.device.row f.row with
      missed := min ((s.device.row f.row).missed + 1) 3,
      pollWait := if f.use = .completionPoll ∧
          ((s.device.row f.row).display = .moving ∨ exerciseStep s.device f.row = some .turning) then
        .running 50 else (s.device.row f.row).pollWait } := by
    rw [countedPoll_eq, Device.row_setRow_same]
  refine ⟨fun hb hr => ?_, fun hb hr => ?_, fun hb hno => ?_, fun hb hd hu hm => ?_, fun hb hu hm hd => ?_,
    fun hb hu hm hd hcause => ?_⟩
  · rw [hexec, badAnswerTo_of_resend hb hr]
  · rw [hexec, badAnswerTo_of_final hb hr]
    rfl
  · rw [hexec, badAnswerTo_of_poll hb, unansweredPoll_of_ignored (hno.imp id hstill.2)]
    rfl
  · rw [hexec, hcount hb hd hu, if_neg (ne_of_lt hm), countedPoll_eq]
  · have hfaulted : (s.device.row f.row).display ≠ .faulted := by obtain hd | hd | hd := hd <;> simp [hd]
    rw [hexec, hcount hb hfaulted hu, if_pos hm, takenSilent_of_service (by rw [hcounted]; exact hd), countedPoll_eq]
  · have hsilent := takenSilent_of_down (d := countedPoll f (endExchange g s.device)) (r := f.row)
      (by rw [hcounted]; exact hd) (by rw [hcounted]; exact hcause)
    refine ⟨_, hexec, rfl, ?_⟩
    dsimp only
    rw [hcount hb (by simp [hd]) hu, if_pos hm, hsilent]
    refine ⟨?_, ?_, fun q hq => ?_, fun k hk => ?_, ?_⟩
    · rw [(modRow_changes _ _ _).line_eq (by simp), countedPoll_eq, Device.line_setRow, Device.line_setLine_same]
    · rw [row_modRow, if_pos rfl, countedPoll_eq]
    · rw [row_modRow, if_neg hq, countedPoll_eq, Device.row_setRow_other _ _ _ _ hq]
      rfl
    · rw [(modRow_changes _ _ _).line_eq (by simp), countedPoll_eq, Device.line_setRow, Device.line_setLine_other _ _ _ _ hk]
    · exact ((endExchange_changes g s.device).andThen (modRow_changes _ _ _) (n := [.lines, .rows]) (by simp)
        (by simp)).trans ((modRow_changes _ _ _).mono (by simp))

/-! ## O41 -/

/-- The line free and its row heard, as a good answer that is of use finds them (R114). -/
def heardBy (g : SegNo) (f : Frame) (d : Device) : Device :=
  (endExchange g d).modRow f.row (fun x => { x with missed := 0 })

theorem heard_of_use (h : ofUse d g f = true) : heard g f (endExchange g d) = heardBy g f d := if_pos h

theorem heard_of_no_use (h : ofUse d g f = false) : heard g f (endExchange g d) = endExchange g d :=
  if_neg (fun h' : ofUse d g f = true => absurd (h.symm.trans h') (by simp))

theorem heardBy_eq (g : SegNo) (f : Frame) (d : Device) : heardBy g f d =
    (d.setLine g (closedLine (d.line g))).setRow f.row { d.row f.row with missed := 0 } := rfl

theorem row_heardBy (g : SegNo) (f : Frame) (q : RowNo) (d : Device) :
    (heardBy g f d).row q = if q = f.row then { d.row f.row with missed := 0 } else d.row q := by
  rw [heardBy, row_modRow]
  rfl

theorem segment_heardBy (g k : SegNo) (f : Frame) (d : Device) : (heardBy g f d).segment k = d.segment k := rfl

theorem line_heardBy (g k : SegNo) (f : Frame) (d : Device) :
    (heardBy g f d).line k = if k = g then closedLine (d.line g) else d.line k := by
  rw [heardBy_eq, Device.line_setRow, Device.line_setLine]

theorem heardBy_changes (g : SegNo) (f : Frame) (d : Device) : ChangesOnly [.lines, .rows] d (heardBy g f d) :=
  (endExchange_changes g d).andThen (modRow_changes _ _ _) (by simp) (by simp)

theorem exerciseStep_heardBy (g : SegNo) (f : Frame) (d : Device) : exerciseStep (heardBy g f d) f.row = exerciseStep d f.row := by
  have hunit : ((heardBy g f d).row f.row).rowUnit = (d.row f.row).rowUnit := by
    rw [row_heardBy, if_pos rfl]
  unfold exerciseStep
  rw [hunit]
  rfl

theorem ofUse_of_not_poll (hu : (d.row f.row).rowUnit = some ⟨g, f.address⟩)
    (h : f.use = .repaint ∨ f.use = .pattern ∨ f.use = .lampChange ∨ f.use = .echoRequest) : ofUse d g f = true := by
  unfold ofUse
  rw [stillAt_iff.2 hu]
  obtain h | h | h | h := h <;> rw [h] <;> rfl

theorem accepted_repaint {e : Device} {s : Sent} (hu : f.use = .repaint) (hd : (e.row f.row).display = .sending)
    (hs : (e.row f.row).sent = some s) :
    accepted g f e = startMotion f.row g s.estimate (e.modRow f.row (fun x => { x with display := .moving })) := by
  unfold accepted
  simp only [hu, hd, hs]

theorem accepted_pattern {e : Device} {y : ExerciseRow} (hu : f.use = .pattern)
    (hnodup : ((e.segment g).exerciseList.map (·.row)).Nodup) (hy : y ∈ (e.segment g).exerciseList) (hr : y.row = f.row)
    (hs : y.step = .patternSent) :
    accepted g f e = startMotion f.row g y.estimate (setStep f.row (fun z => { z with step := .turning }) g e) := by
  have hfind : (e.segment g).exerciseList.find? (fun x => x.row == f.row && x.step == .patternSent) = some y := by
    cases hx : (e.segment g).exerciseList.find? (fun x => x.row == f.row && x.step == .patternSent) with
    | none => simpa [hr, hs] using List.find?_eq_none.1 hx y hy
    | some z =>
      have hz := List.find?_some hx
      simp only [Bool.and_eq_true, beq_iff_eq] at hz
      exact congrArg some (List.inj_on_of_nodup_map hnodup (List.mem_of_find?_eq_some hx) hy (hz.1.trans hr.symm))
  unfold accepted
  simp only [hu, hfind]

theorem accepted_lampChange {e : Device} (hu : f.use = .lampChange) : accepted g f e = e.modRow f.row (fun x =>
    { x with
      shown := x.shown.map (fun i => { i with lamps := { i.lamps with fresh := false } }), lampOffOwed := false }) := by
  unfold accepted
  simp only [hu]

/-- Settles O41: the row is heard first, and what the accepted frame does goes by its use. -/
theorem acceptedFramesMoveTheRow : Obligations.AcceptedFramesMoveTheRow := by
  intro s g addr sum spoiled f n d x seg order hf ht hgood hunit
  have hexec := exec_good (c := .ack g addr sum spoiled) (g := g) rfl hf ht hgood
  have hwork : goodWork (.ack g addr sum spoiled) g f = accepted g f := rfl
  have hlines : ChangesOnly [.lines, .rows, .segments] d (heardBy g f d) := (heardBy_changes g f d).mono (by simp)
  have hrow : (heardBy g f d).row f.row = { x with missed := 0 } := by
    rw [row_heardBy, if_pos rfl]
  refine ⟨fun i est hu hd hs => ?_, fun y hu hnodup hy hr hst => ?_, fun hu => ?_⟩
  · rw [hwork, heard_of_use (ofUse_of_not_poll hunit (.inl hu)), accepted_repaint hu (by rw [hrow]; exact hd)
      (by rw [hrow]; exact hs)] at hexec
    refine ⟨_, hexec, rfl, ?_, fun k hk => ?_, ?_, fun q hq => ?_, ?_, fun k hk => ?_, ?_⟩
    · rw [(startMotion_changes _ _ _ _).line_eq (by simp), (modRow_changes _ _ _).line_eq (by simp), line_heardBy, if_pos rfl]
    · rw [(startMotion_changes _ _ _ _).line_eq (by simp), (modRow_changes _ _ _).line_eq (by simp), line_heardBy, if_neg hk]
    · rw [row_startMotion, if_pos rfl, row_modRow, if_pos rfl, hrow]
      rfl
    · rw [row_startMotion, if_neg hq, row_modRow, if_neg hq, row_heardBy, if_neg hq]
    · rw [segment_startMotion, if_pos rfl]
      rfl
    · rw [segment_startMotion, if_neg hk]
      rfl
    · exact hlines.trans ((modRow_changes _ _ _).andThen (startMotion_changes _ _ _ _) (by simp) (by simp))
  · rw [hwork, heard_of_use (ofUse_of_not_poll hunit (.inr (.inl hu))), 
      accepted_pattern (e := heardBy g f d) hu hnodup hy hr hst] at hexec
    refine ⟨_, hexec, rfl, ?_, fun k hk => ?_, ?_, fun q hq => ?_, ?_, fun k hk => ?_, ?_⟩
    · rw [(startMotion_changes _ _ _ _).line_eq (by simp), (setStep_changes _ _ _ _).line_eq (by simp), line_heardBy,
        if_pos rfl]
    · rw [(startMotion_changes _ _ _ _).line_eq (by simp), (setStep_changes _ _ _ _).line_eq (by simp), line_heardBy,
        if_neg hk]
    · rw [row_startMotion, if_pos rfl, (setStep_changes _ _ _ _).row_eq (by simp), hrow, segment_setStep, if_pos rfl]
      rfl
    · rw [row_startMotion, if_neg hq, (setStep_changes _ _ _ _).row_eq (by simp), row_heardBy, if_neg hq]
    · rw [segment_startMotion, if_pos rfl, segment_setStep, if_pos rfl]
      rfl
    · rw [segment_startMotion, if_neg hk, segment_setStep, if_neg hk]
      rfl
    · exact hlines.trans ((setStep_changes _ _ _ _).andThen (startMotion_changes _ _ _ _) (by simp) (by simp))
  · rw [hwork, heard_of_use (ofUse_of_not_poll hunit (.inr (.inr (.inl hu)))), accepted_lampChange hu] at hexec
    refine ⟨_, hexec, rfl, ?_, fun k hk => ?_, ?_, fun q hq => ?_, rfl, fun k _ => rfl, ?_⟩
    · rw [(modRow_changes _ _ _).line_eq (by simp), line_heardBy, if_pos rfl]
    · rw [(modRow_changes _ _ _).line_eq (by simp), line_heardBy, if_neg hk]
    · rw [row_modRow, if_pos rfl, hrow]
    · rw [row_modRow, if_neg hq, row_heardBy, if_neg hq]
    · exact hlines.trans ((modRow_changes _ _ _).mono (by simp))

/-! ## O42 -/

/-- The row whose repaint has completed, with what it owes paid (R101, R108). -/
def shownRow (hold : Nat) (x : Row) : Row :=
  { x with
    display := if x.again then .queued else .clean, stallTimer := .stopped, pollWait := .stopped, motionOrder := none,
    shown := x.sent.map (·.image), shownSlot := x.binding, sent := none, newFresh := false,
    holdTimer := if x.newFresh then .running hold else x.holdTimer, owed := x.owed - 1, again := false,
    lampOffOwed := !x.again && (x.lampOffOwed ||
      (!x.newFresh && x.sent.any (fun z => z.image.lamps.fresh) && decide (x.holdTimer = .stopped))) }

theorem lampOff_completedRow (n : Nat) (x : Row) : (completedRow n x).lampOffOwed =
    (x.lampOffOwed || (!x.newFresh && x.sent.any (fun z => z.image.lamps.fresh) && decide (x.holdTimer = .stopped))) := by
  unfold completedRow
  cases x.sent <;> cases x.holdTimer <;> simp [Timer.isRunning]

theorem row_completedPaid (r q : RowNo) (n : Nat) (d : Device) : (payDone r (d.modRow r (completedRow n))).row q =
    if q = r then { completedRow n (d.row r) with owed := (d.row r).owed - 1 } else d.row q := by
  rw [row_payDone, row_modRow, row_modRow, if_pos rfl]
  split <;> rfl

theorem completeRepaint_of_again {r : RowNo} {g : SegNo} {d : Device} (h : (d.row r).again = true) : completeRepaint r g d =
    enqueueRow r ((payDone r (d.modRow r (completedRow (d.segment g).hold))).modRow r
      (fun x => { x with again := false, lampOffOwed := false })) := if_pos h

theorem completeRepaint_of_once {r : RowNo} {g : SegNo} {d : Device} (h : (d.row r).again = false) : completeRepaint r g d =
    payDone r (d.modRow r (completedRow (d.segment g).hold)) := if_neg (by simp [h])

theorem row_completeRepaint {u : RowUnit} (hu : (d.row r).rowUnit = some u) (g : SegNo) (q : RowNo) :
    (completeRepaint r g d).row q = if q = r then shownRow (d.segment g).hold (d.row r) else d.row q := by
  have hoff := lampOff_completedRow (d.segment g).hold (d.row r)
  cases ha : (d.row r).again with
  | true =>
    rw [completeRepaint_of_again ha, row_enqueueRow, row_modRow, row_modRow, if_pos rfl, row_completedPaid, if_pos rfl,
      row_completedPaid]
    have hunit : (completedRow (d.segment g).hold (d.row r)).rowUnit = some u := hu
    by_cases hq : q = r
    · simp only [hq, hunit, shownRow, ha]
      simp [completedRow, hu]
    · simp [hq]
  | false =>
    rw [completeRepaint_of_once ha, row_completedPaid]
    refine if_congr Iff.rfl ?_ rfl
    unfold shownRow
    rw [ha, ← hoff]
    simp [completedRow, ha]

theorem segment_completeRepaint (r : RowNo) (g k : SegNo) (d : Device) : (completeRepaint r g d).segment k =
    { d.segment k with
      queue := (d.segment k).queue ++ if (d.row r).again = true ∧ (d.row r).onSegment k = true then [r] else [] } := by
  have hpaid : ChangesOnly [.rows, .settle, .notices] d (payDone r (d.modRow r (completedRow (d.segment g).hold))) :=
    (modRow_changes d r _).andThen (payDone_changes r _) (by simp) (by simp)
  cases ha : (d.row r).again with
  | true =>
    have hon : ({ completedRow (d.segment g).hold (d.row r) with
        owed := (d.row r).owed - 1, again := false, lampOffOwed := false } : Row).onSegment k = (d.row r).onSegment k := rfl
    rw [completeRepaint_of_again ha, segment_enqueueRow, row_modRow, if_pos rfl, row_completedPaid, if_pos rfl, hon,
      (modRow_changes _ r _).segment_eq (by simp), hpaid.segment_eq (by simp)]
    simp
  | false =>
    rw [completeRepaint_of_once ha, hpaid.segment_eq (by simp)]
    simp

theorem settle_completeRepaint (r : RowNo) (g : SegNo) (d : Device) : (completeRepaint r g d).channel.settle =
    (if (d.row r).owed = 1 then d.reportShown else d).channel.settle := by
  have hpaid : (payDone r (d.modRow r (completedRow (d.segment g).hold))).channel.settle =
      (if (d.row r).owed = 1 then d.reportShown else d).channel.settle := by
    rw [settle_payDone, row_modRow, if_pos rfl]
    show (if (d.row r).owed = 1 then _ else _ : Device).channel.settle = _
    split
    · exact settle_reportShown_congr (modRow_changes d r _ .settle (by simp))
    · exact modRow_changes d r _ .settle (by simp)
  cases ha : (d.row r).again with
  | true =>
    rw [completeRepaint_of_again ha]
    exact ((modRow_changes _ r _).andThen (enqueueRow_changes r _) (n := [.rows, .segments]) (by simp) (by simp) .settle
      (by simp)).trans hpaid
  | false =>
    rw [completeRepaint_of_once ha]
    exact hpaid

theorem turns_heardBy (g : SegNo) (f : Frame) (d : Device) : turns (heardBy g f d) f.row = turns d f.row := by
  unfold turns
  rw [exerciseStep_heardBy, row_heardBy, if_pos rfl]

/-- A good STATUS, by the row of the frame in hand. -/
theorem polled_of_moved {state : Byte} (hu : (d.row f.row).rowUnit ≠ some ⟨g, f.address⟩) :
    polled g state f (heard g f (endExchange g d)) = endExchange g d := by
  have hstill : stillAt d g f = false := by
    rw [← Bool.not_eq_true, stillAt_iff]
    exact hu
  have huse : ofUse d g f = false := by
    unfold ofUse
    rw [hstill]
    rfl
  rw [heard_of_no_use huse]
  exact if_pos hstill

theorem polled_of_completion {state : Byte} {e : Device} (hu : (e.row f.row).rowUnit = some ⟨g, f.address⟩)
    (h : f.use = .completionPoll) :
    polled g state f e = completionAnswer g f.row (state.getLsbD 0) (state.getLsbD 1) e := by
  have hs : stillAt e g f = true := stillAt_iff.2 hu
  unfold polled
  rw [if_neg (by simp [hs]), h]

theorem polled_of_readiness {state : Byte} {e : Device} (hu : (e.row f.row).rowUnit = some ⟨g, f.address⟩)
    (h : f.use = .readinessPoll) : polled g state f e = readinessAnswer f.row (state.getLsbD 0) e := by
  have hs : stillAt e g f = true := stillAt_iff.2 hu
  unfold polled
  rw [if_neg (by simp [hs]), h]

theorem ofUse_completion (hu : (d.row f.row).rowUnit = some ⟨g, f.address⟩) (h : f.use = .completionPoll) :
    ofUse d g f = turns d f.row := by
  unfold ofUse
  rw [stillAt_iff.2 hu, h]
  rfl

theorem ofUse_readiness (hu : (d.row f.row).rowUnit = some ⟨g, f.address⟩) (h : f.use = .readinessPoll)
    (hd : (d.row f.row).display = .clean ∨ (d.row f.row).display = .queued ∨ (d.row f.row).display = .down) :
    ofUse d g f = true := by
  unfold ofUse
  rw [stillAt_iff.2 hu, h]
  obtain hd | hd | hd := hd <;> simp [hd]

theorem completionAnswer_of_turning {ready moving : Bool} {e : Device} (h : turns e r = true) :
    completionAnswer g r ready moving e =
      if ready = false then enterDown r .notReady e
      else if moving then e.modRow r (fun x => { x with pollWait := .running Config.pollWaitTime })
      else if (e.row r).display = .moving then completeRepaint r g e
      else setStep r (fun y => { y with step := .echoing }) g
        (e.modRow r (fun x => { x with stallTimer := .stopped, pollWait := .stopped, motionOrder := none })) :=
  if_neg (by simp [h])

theorem readinessAnswer_of_service {ready : Bool} {e : Device} (h : (e.row r).display = .clean ∨ (e.row r).display = .queued) :
    readinessAnswer r ready e = if ready then e else enterDown r .notReady e := by
  unfold readinessAnswer
  obtain h | h := h <;> rw [h]

theorem readinessAnswer_of_down {ready : Bool} {e : Device} (h : (e.row r).display = .down) (hc : (e.row r).cause ≠ .segmentOff) :
    readinessAnswer r ready e =
      if ready then (enqueueRow r (e.modRow r (fun x => { x with shown := none, shownSlot := none }))).raise (.row r)
      else e.modRow r (fun x => { x with cause := .notReady }) := by
  unfold readinessAnswer
  rw [h]
  exact if_neg hc

/-- Settles O42: the row is heard first, and what the answer does goes by the table of the poll's use. -/
theorem statusActsByTheTables : Obligations.StatusActsByTheTables := by
  intro s g addr state sum spoiled f n d x c ready moving step hf ht hgood free heardRow heardOf
  have hexec := exec_good (c := .status g addr state sum spoiled) (g := g) rfl hf ht hgood
  have hwork : goodWork (.status g addr state sum spoiled) g f = polled g state f := rfl
  rw [hwork] at hexec
  refine ⟨fun hu => ?_, fun hu => ?_⟩
  · rw [polled_of_moved hu] at hexec
    exact hexec
  have hrow : (heardBy g f d).row f.row = heardRow := by
    rw [row_heardBy, if_pos rfl]
  have hother (q : RowNo) (hq : q ≠ f.row) : (heardBy g f d).row q = d.row q := by
    rw [row_heardBy, if_neg hq]
  have hline : (heardBy g f d).line g = closedLine (d.line g) := by
    rw [line_heardBy, if_pos rfl]
  have hlines (k : SegNo) (hk : k ≠ g) : (heardBy g f d).line k = d.line k := by
    rw [line_heardBy, if_neg hk]
  have hunit : ((heardBy g f d).row f.row).rowUnit = some ⟨g, f.address⟩ := by
    rw [hrow]
    exact hu
  have hchanges := heardBy_changes g f d
  have hcompletion (hp : f.use = .completionPoll) (hturn : x.display = .moving ∨ step = some .turning) :
      exec c s = .next ⟨if ready = false then enterDown f.row .notReady (heardBy g f d)
        else if moving then (heardBy g f d).modRow f.row (fun x => { x with pollWait := .running Config.pollWaitTime })
        else if x.display = .moving then completeRepaint f.row g (heardBy g f d)
        else setStep f.row (fun y => { y with step := .echoing }) g ((heardBy g f d).modRow f.row
          (fun x => { x with stallTimer := .stopped, pollWait := .stopped, motionOrder := none })), s.pending⟩ := by
    have hturns : turns d f.row = true := turns_iff.2 hturn
    rw [heard_of_use ((ofUse_completion hu hp).trans hturns), polled_of_completion hunit hp,
      completionAnswer_of_turning ((turns_heardBy g f d).trans hturns), hrow] at hexec
    exact hexec
  have hreadiness (hp : f.use = .readinessPoll) (hd : x.display = .clean ∨ x.display = .queued ∨ x.display = .down) :
      exec c s = .next ⟨readinessAnswer f.row ready (heardBy g f d), s.pending⟩ := by
    rw [heard_of_use (ofUse_readiness hu hp hd), polled_of_readiness hunit hp] at hexec
    exact hexec
  refine ⟨fun hp hd hst => ?_, fun hp hturn hr => ?_, fun hp hturn hr hm => ?_, fun hp hd hr hm => ?_,
    fun hp hd hst hr hm => ?_, fun hp hd => ?_, fun hp hd hcause hr => ?_, fun hp hd hcause hr => ?_⟩
  · have hturns : turns d f.row = false := by
      rw [← Bool.not_eq_true, turns_iff]
      exact not_or.2 ⟨hd, hst⟩
    rw [heard_of_no_use ((ofUse_completion hu hp).trans hturns),
      polled_of_completion (e := endExchange g s.device) hu hp] at hexec
    rw [hexec]
    exact congrArg (fun e => Host.Outcome.next (⟨e, s.pending⟩ : State)) (if_pos hturns)
  · rw [hcompletion hp hturn, if_pos hr]
    rfl
  · refine ⟨_, hcompletion hp hturn, rfl, ?_⟩
    dsimp only
    rw [if_neg (by simp [hr]), if_pos hm]
    refine ⟨?_, fun k hk => ?_, ?_, fun q hq => ?_, hchanges.trans ((modRow_changes _ _ _).mono (by simp))⟩
    · rw [(modRow_changes _ _ _).line_eq (by simp), hline]
    · rw [(modRow_changes _ _ _).line_eq (by simp), hlines k hk]
    · rw [row_modRow, if_pos rfl, hrow]
      rfl
    · rw [row_modRow, if_neg hq, hother q hq]
  · refine ⟨_, hcompletion hp (.inl hd), rfl, ?_⟩
    dsimp only
    rw [if_neg (by simp [hr]), if_neg (by simp [hm]), if_pos hd]
    refine ⟨?_, fun k hk => ?_, ?_, fun q hq => ?_, ?_, fun k hk => ?_, ?_,
      (hchanges.mono (by simp)).trans ((completeRepaint_changes _ _ _).mono (by simp))⟩
    · rw [(completeRepaint_changes _ _ _).line_eq (by simp), hline]
    · rw [(completeRepaint_changes _ _ _).line_eq (by simp), hlines k hk]
    · rw [row_completeRepaint hunit, if_pos rfl, hrow]
      rfl
    · rw [row_completeRepaint hunit, if_neg hq, hother q hq]
    · have hon : ((heardBy g f d).row f.row).onSegment g = true := onSegment_of_unit hunit
      have hagain : ((heardBy g f d).row f.row).again = x.again := by rw [hrow]
      rw [segment_completeRepaint, hon, hagain]
      cases hx : x.again <;> simp [segment_heardBy]
    · have hoff : ((heardBy g f d).row f.row).onSegment k = false := off_of_unit hunit hk
      rw [segment_completeRepaint, hoff]
      simp [segment_heardBy]
    · rw [settle_completeRepaint, hrow]
      show (if x.owed = 1 then _ else _ : Device).channel.settle = _
      split
      · exact settle_reportShown_congr rfl
      · rfl
  · refine ⟨_, hcompletion hp (.inr hst), rfl, ?_⟩
    dsimp only
    rw [if_neg (by simp [hr]), if_neg (by simp [hm]), if_neg hd]
    refine ⟨?_, fun k hk => ?_, ?_, fun q hq => ?_, ?_, fun k hk => ?_,
      (hchanges.mono (by simp)).trans ((modRow_changes _ _ _).andThen (setStep_changes _ _ _ _) (by simp) (by simp))⟩
    · rw [(setStep_changes _ _ _ _).line_eq (by simp), (modRow_changes _ _ _).line_eq (by simp), hline]
    · rw [(setStep_changes _ _ _ _).line_eq (by simp), (modRow_changes _ _ _).line_eq (by simp), hlines k hk]
    · rw [(setStep_changes _ _ _ _).row_eq (by simp), row_modRow, if_pos rfl, hrow]
    · rw [(setStep_changes _ _ _ _).row_eq (by simp), row_modRow, if_neg hq, hother q hq]
    · rw [segment_setStep, if_pos rfl]
      rfl
    · rw [segment_setStep, if_neg hk]
      rfl
  · rw [hreadiness hp (hd.imp id .inl), readinessAnswer_of_service (by rw [hrow]; exact hd)]
    rfl
  · refine ⟨_, hreadiness hp (.inr (.inr hd)), rfl, ?_⟩
    dsimp only
    rw [readinessAnswer_of_down (by rw [hrow]; exact hd) (by rw [hrow]; exact hcause), if_pos hr]
    have hshown : ((heardBy g f d).modRow f.row (fun x => { x with shown := none, shownSlot := none })).row f.row =
        { heardRow with shown := none, shownSlot := none } := by
      rw [row_modRow, if_pos rfl, hrow]
    have henqueued := (modRow_changes (heardBy g f d) f.row (fun x => { x with shown := none, shownSlot := none })).andThen
      (enqueueRow_changes f.row _) (n := [.rows, .segments]) (by simp) (by simp)
    refine ⟨?_, fun k hk => ?_, ?_, fun q hq => ?_, ?_, fun k hk => ?_, (mem_raise _ _ _).2 (.inl rfl),
      (hchanges.mono (by simp)).trans ((henqueued.mono (by simp)).trans ((raise_changes _ _).mono (by simp)))⟩
    · rw [(raise_changes _ _).line_eq (by simp), henqueued.line_eq (by simp), hline]
    · rw [(raise_changes _ _).line_eq (by simp), henqueued.line_eq (by simp), hlines k hk]
    · rw [(raise_changes _ _).row_eq (by simp), row_enqueueRow, hshown, if_pos ⟨rfl, by rw [show heardRow.rowUnit = _ from hu]; simp⟩]
    · rw [(raise_changes _ _).row_eq (by simp), row_enqueueRow, if_neg (fun h => hq h.1), row_modRow, if_neg hq, hother q hq]
    · have hon : ({ heardRow with shown := none, shownSlot := none } : Row).onSegment g = true := onSegment_of_unit (u := ⟨g, _⟩) hu
      rw [(raise_changes _ _).segment_eq (by simp), segment_enqueueRow, hshown, hon]
      rfl
    · have hoff : ({ heardRow with shown := none, shownSlot := none } : Row).onSegment k = false := off_of_unit (u := ⟨g, f.address⟩) hu hk
      rw [(raise_changes _ _).segment_eq (by simp), segment_enqueueRow, hshown, hoff, (modRow_changes _ _ _).segment_eq (by simp)]
      simp [segment_heardBy]
  · refine ⟨_, hreadiness hp (.inr (.inr hd)), rfl, ?_⟩
    dsimp only
    rw [readinessAnswer_of_down (by rw [hrow]; exact hd) (by rw [hrow]; exact hcause), if_neg (by simp [hr])]
    refine ⟨?_, fun k hk => ?_, ?_, fun q hq => ?_, hchanges.trans ((modRow_changes _ _ _).mono (by simp))⟩
    · rw [(modRow_changes _ _ _).line_eq (by simp), hline]
    · rw [(modRow_changes _ _ _).line_eq (by simp), hlines k hk]
    · rw [row_modRow, if_pos rfl, hrow]
    · rw [row_modRow, if_neg hq, hother q hq]

end Sys2Proof.Machine
end


section
/-! PROOFS. The requests of the board controller (O46, O47), over the rules of a request that is taken. -/

namespace Sys2Proof.Machine

variable {g : SegNo} {r : RowNo} {d e : Device} {s : State} {kind : Byte} {body : List Byte}

/-! ## A request that is taken, and its reply -/

/-- A taken request whose body reads back runs its work on the frame, and its reply is ready (R166). -/
theorem exec_request {α : Type} {fields : Except Status α} {f : α} {work : α → Device → Device × Answer}
    (h : takesRequest kind body s.device = true) (hf : fields = .ok f) :
    onDevice (request kind body (onFields fields work)) s =
      .next ⟨readyReply kind (work f (beginWork kind body s.device)).2 (work f (beginWork kind body s.device)).1,
        s.pending⟩ := by
  subst hf
  exact congrArg (fun e => Host.Outcome.next (⟨e, s.pending⟩ : State)) (request_of_taken h _)

/-- A refused request leaves the device with nothing but the reply (R169). -/
theorem exec_refused {α : Type} {fields : Except Status α} {f : α} {work : α → Device → Device × Answer} {code : Status}
    (h : takesRequest kind body s.device = true) (hf : fields = .ok f)
    (hwork : work f (beginWork kind body s.device) = (beginWork kind body s.device, refuse code)) :
    onDevice (request kind body (onFields fields work)) s =
      .next { s with device := { s.device with channel := replied kind code.code [] s.device.channel } } := by
  rw [exec_request h hf, hwork]
  rfl

/-- An accepted request leaves what its work has left, with the reply. -/
theorem exec_accepted {α : Type} {fields : Except Status α} {f : α} {work : α → Device → Device × Answer} {data : List Byte}
    (h : takesRequest kind body s.device = true) (hf : fields = .ok f)
    (hwork : work f (beginWork kind body s.device) = (e, accept data)) :
    onDevice (request kind body (onFields fields work)) s = .next ⟨readyReply kind (accept data) e, s.pending⟩ := by
  rw [exec_request h hf, hwork]

theorem Channel.eq_of_link {x y : Channel} (h : y.link = x.link) :
    y = { x with reservation := y.reservation, settle := y.settle } := by
  cases x
  cases y
  simpa [Channel.link] using h

/-- The channel once the reply of an accepted request is ready: of the work only the two records show. -/
theorem channel_readyReply (data : List Byte) (h : e.channel.link = (beginWork kind body d).channel.link) :
    (readyReply kind (accept data) e).channel = replied kind 0x00 data
      { d.channel with reservation := e.channel.reservation, settle := e.channel.settle } := by
  have he := Channel.eq_of_link h
  have hlength : data.length + 2 = 2 + data.length := Nat.add_comm _ _
  show { e.channel with
      state := .replying, assembly := [], gapTimer := .stopped,
      reply := ⟨byte (data.length + 2) :: replyKind kind :: 0x00 :: data, 0, none, false⟩,
      replyTimer := .running Config.replyTime } = _
  rw [he, hlength]
  rfl

theorem link_readyReply (data : List Byte) (h : e.channel.link = (beginWork kind body d).channel.link) :
    (readyReply kind (accept data) e).channel.link = (replied kind 0x00 data d.channel).link := by
  rw [channel_readyReply data h]
  rfl

/-- The channel after work that leaves it alone. -/
theorem channel_readyReply_of_kept {l : List Part} (data : List Byte) (h : ChangesOnly l (beginWork kind body d) e)
    (hl : Part.link ∉ l ∧ Part.reservation ∉ l ∧ Part.settle ∉ l) :
    (readyReply kind (accept data) e).channel = replied kind 0x00 data d.channel := by
  obtain ⟨hlink, hreservation, hsettle⟩ := hl
  rw [channel_readyReply data (h .link hlink), show _ = _ from h .reservation hreservation,
    show _ = _ from h .settle hsettle]
  rfl

/-- An answered request changes the link and what its work has changed. -/
theorem ready_changes {l : List Part} (a : Answer) (h : ChangesOnly l (beginWork kind body d) e) :
    ChangesOnly (.link :: l) d (readyReply kind a e) :=
  (((beginWork_changes kind body d).mono (by simp)).trans (h.mono (by simp))).trans
    ((readyReply_changes kind a e).mono (by simp))

/-! ## O47 -/

/-- A binding and a layout setting take no part in a mark. -/
theorem markedRow_bound (x : Row) (b : Option Slot) (l : LayoutNo) :
    markedRow { x with binding := b, layout := l } = { markedRow x with binding := b, layout := l } := by
  obtain h | h | h := display_cases x.display
  · rw [markedRow_of_clean h, markedRow_of_clean (x := { x with binding := b, layout := l }) h]
  · rw [markedRow_of_painting h, markedRow_of_painting (x := { x with binding := b, layout := l }) h]
  · rw [markedRow_of_waiting h, markedRow_of_waiting (x := { x with binding := b, layout := l }) h]

theorem unitSegmentIs_eq_any (d : Device) (u : Option RowUnit) (z : SegmentState) :
    unitSegmentIs d u z = u.any (fun w => (d.segment w.segment).state == z) := by
  cases u <;> rfl

theorem unitTaken_iff {u : Option RowUnit} :
    unitTaken d r u = true ↔ u ≠ none ∧ ∃ q, q ≠ r ∧ (d.row q).rowUnit = u := by
  unfold unitTaken
  simp [everyRow, Option.isSome_iff_ne_none]

theorem setupCause_eq (d : Device) (u : Option RowUnit) : setupCause d u =
    if u = none ∨ u.any (fun w => (d.segment w.segment).state == .disabled) = true then Cause.segmentOff else .unknown := by
  cases u with
  | none => rfl
  | some v => simp [setupCause]

theorem slot_modSlot (d : Device) (i j : Slot) (f : Record → Record) :
    (d.modSlot i f).slot j = if j = i then f (d.slot i) else d.slot j := Device.slot_setSlot d i j _

/-- What a report leaves of the notices depends on the settle record and the notices alone. -/
theorem mem_reportNotShown_congr {d e : Device} (hsettle : e.channel.settle = d.channel.settle)
    (hnotices : ∀ n, n ∈ e.notices ↔ n ∈ d.notices) (n : Notice) :
    n ∈ e.reportNotShown.notices ↔ n ∈ d.reportNotShown.notices := by
  rw [Device.reportNotShown, mem_settleReport, hsettle, hnotices, Device.reportNotShown, mem_settleReport]

/-- An accepted LAYOUT, part by part. -/
theorem replaceLayout_parts (l : LayoutNo) (fields : List Field) (d : Device) :
    let rows := everyRow.filter (fun r => (d.row r).layout == l)
    let e := markRows rows (d.setLayout l fields)
    replaceLayout (l, fields) d = (e, accept (wordBytes rows.length)) ∧
    (∀ k, e.layout k = if k = l then fields else d.layout k) ∧
    (∀ r, e.row r = if r ∈ rows then markedRow (d.row r) else d.row r) ∧
    (∀ g, e.segment g = { d.segment g with queue := (d.segment g).queue ++ joining d g rows }) ∧
    ChangesOnly [.layouts, .rows, .segments] d e := by
  intro rows e
  have hmarks := markRows_changes rows (d.setLayout l fields)
  have hnodup : rows.Nodup := (List.nodup_finRange _).filter _
  refine ⟨rfl, fun k => ?_, fun r => row_markRows rows r _, fun g => ?_,
    (setLayout_changes d l fields).andThen hmarks (by simp) (by simp)⟩
  · exact (hmarks.layout_eq (by simp) k).trans (Device.layout_setLayout d l k fields)
  · refine (segment_markRows rows g _).trans ?_
    rw [eraseDups_of_nodup hnodup]
    rfl

/-- The device of an accepted BIND before the mark of the row. -/
def boundTo (r : RowNo) (i : Slot) (d : Device) : Device :=
  if (d.row r).binding = some i then d
  else (removeBinding r d).modSlot i (fun x => { x with boundRows := x.boundRows ++ [r] })

theorem boundTo_changes (r : RowNo) (i : Slot) (d : Device) : ChangesOnly [.slots] d (boundTo r i d) :=
  .ite (.refl _ d) ((removeBinding_changes r d).trans (modSlot_changes _ i _))

theorem slot_boundTo (r : RowNo) (i j : Slot) (d : Device) : (boundTo r i d).slot j =
    if (d.row r).binding = some i then d.slot j
    else if j = i then { d.slot j with boundRows := (d.slot i).boundRows ++ [r] }
    else if (d.row r).binding = some j then { d.slot j with boundRows := (d.slot j).boundRows.filter (fun q => q ≠ r) }
    else d.slot j := by
  unfold boundTo
  split
  · rfl
  · next hb =>
    rw [slot_modSlot]
    split
    · next hj => rw [slot_removeBinding, if_neg hb, hj]
    · rw [slot_removeBinding]

theorem bindRow_of_unlisted {i : Slot} {l : LayoutNo} (h : isListed (d.slot i).state = false) :
    bindRow (r, i, l) d = (d, refuse .notListed) := if_pos h

theorem bindRow_of_full {i : Slot} {l : LayoutNo} (h : isListed (d.slot i).state = true)
    (hfull : 4 ≤ (d.slot i).boundRows.length ∧ r ∉ (d.slot i).boundRows) :
    bindRow (r, i, l) d = (d, refuse .noSpace) := by
  rw [bindRow_cases, if_neg (by simp [h]), if_pos hfull]

theorem bindRow_of_room {i : Slot} {l : LayoutNo} (h : isListed (d.slot i).state = true)
    (hfull : ¬ (4 ≤ (d.slot i).boundRows.length ∧ r ∉ (d.slot i).boundRows)) :
    bindRow (r, i, l) d =
      (markRow r ((boundTo r i d).modRow r (fun y => { y with binding := some i, layout := l })), accept []) := by
  rw [bindRow_cases, if_neg (by simp [h]), if_neg hfull]
  rfl

/-- An accepted BIND, part by part. -/
theorem bound_parts (r : RowNo) (i : Slot) (l : LayoutNo) (d : Device) :
    let e := markRow r ((boundTo r i d).modRow r (fun y => { y with binding := some i, layout := l }))
    e.row r = { markedRow (d.row r) with binding := some i, layout := l } ∧ (∀ q, q ≠ r → e.row q = d.row q) ∧
    (∀ g, e.segment g = { d.segment g with queue := (d.segment g).queue ++ joining d g [r] }) ∧
    (∀ j, e.slot j = (boundTo r i d).slot j) ∧ ChangesOnly [.slots, .rows, .segments] d e := by
  intro e
  have hslots := boundTo_changes r i d
  have hrow := hslots.row_eq (by simp)
  have hset := modRow_changes (boundTo r i d) r (fun y => { y with binding := some i, layout := l })
  have hbefore := hslots.andThen hset (n := [.slots, .rows]) (by simp) (by simp)
  have hmark := markRow_changes r ((boundTo r i d).modRow r (fun y => { y with binding := some i, layout := l }))
  refine ⟨?_, fun q hq => ?_, fun g => ?_, fun j => ?_, hbefore.andThen hmark (by simp) (by simp)⟩
  · rw [row_markRow, if_pos rfl, row_modRow, if_pos rfl, markedRow_bound, hrow]
  · rw [row_markRow, if_neg hq, row_modRow, if_neg hq, hrow]
  · rw [segment_markRow, hbefore.segment_eq (by simp), joining_congr (d := d) (fun q => ?_)]
    rw [row_modRow, hrow, hrow]
    split
    · next hq => rw [hq]; exact ⟨rfl, rfl⟩
    · exact ⟨rfl, rfl⟩
  · rw [hmark.slot_eq (by simp), hset.slot_eq (by simp)]

/-- An UNBIND, part by part. -/
theorem unbindRow_parts (r : RowNo) (d : Device) :
    let e := (unbindRow r d).1
    e.row r = { markedRow (d.row r) with binding := none } ∧ (∀ q, q ≠ r → e.row q = d.row q) ∧
    (∀ g, e.segment g = { d.segment g with queue := (d.segment g).queue ++ joining d g [r] }) ∧
    (∀ j, e.slot j =
      if (d.row r).binding = some j then { d.slot j with boundRows := (d.slot j).boundRows.filter (fun q => q ≠ r) }
      else d.slot j) ∧
    ChangesOnly [.slots, .rows, .segments] d e := by
  have hremoved := removeBinding_changes r d
  have hrow := hremoved.row_eq (by simp)
  refine ⟨?_, fun q hq => ?_, fun g => ?_, fun j => ?_, unbindRow_changes r d⟩
  · refine (row_unbindAndMark r r _).trans ?_
    rw [if_pos rfl, hrow]
  · refine (row_unbindAndMark r q _).trans ?_
    rw [if_neg hq, hrow]
  · refine (segment_unbindAndMark r g _).trans ?_
    rw [hremoved.segment_eq (by simp), joining_congr (d := d) (fun q => by rw [hrow]; exact ⟨rfl, rfl⟩)]
  · exact (unbindRow_slot r j d).trans (slot_removeBinding r j d)

theorem clearRow_of_faulted (h : (d.row r).display = .faulted) :
    clearRow r d = (enqueueRow r (d.modRow r (fun x => { x with shown := none })), accept []) := if_neg (not_not.2 h)

/-- An accepted ROW-CLEAR, part by part. -/
theorem cleared_parts {u : RowUnit} (hu : (d.row r).rowUnit = some u) :
    let e := enqueueRow r (d.modRow r (fun x => { x with shown := none }))
    e.row r = { d.row r with display := .queued, shown := none } ∧ (∀ q, q ≠ r → e.row q = d.row q) ∧
    e.segment u.segment = { d.segment u.segment with queue := (d.segment u.segment).queue ++ [r] } ∧
    (∀ h, h ≠ u.segment → e.segment h = d.segment h) ∧ ChangesOnly [.rows, .segments] d e := by
  intro e
  have hset := modRow_changes d r (fun x => { x with shown := none })
  have hrow : (d.modRow r (fun x => { x with shown := none })).row r = { d.row r with shown := none } := by
    rw [row_modRow, if_pos rfl]
  have hon : ({ d.row r with shown := none } : Row).onSegment u.segment = true := onSegment_of_unit (u := u) hu
  refine ⟨?_, fun q hq => ?_, ?_, fun k hk => ?_, hset.andThen (enqueueRow_changes r _) (by simp) (by simp)⟩
  · rw [row_enqueueRow, hrow, if_pos ⟨rfl, by simp [hu]⟩]
  · rw [row_enqueueRow, if_neg (fun hh => hq hh.1), row_modRow, if_neg hq]
  · rw [segment_enqueueRow, hrow, hon, hset.segment_eq (by simp)]
    rfl
  · have hoff : ({ d.row r with shown := none } : Row).onSegment k = false := off_of_unit (u := u) hu hk
    rw [segment_enqueueRow, hrow, hoff, hset.segment_eq (by simp)]
    simp

theorem setupRow_of_wrong {u : Option RowUnit} (h : (d.row r).display ≠ .down ∧ (d.row r).display ≠ .faulted ∧
    unitSegmentIs d (d.row r).rowUnit .disabled = false) : setupRow (r, u) d = (d, refuse .wrongState) := if_pos h

theorem setupRow_of_busy {u : Option RowUnit} (hw : ¬ ((d.row r).display ≠ .down ∧ (d.row r).display ≠ .faulted ∧
    unitSegmentIs d (d.row r).rowUnit .disabled = false))
    (h : unitSegmentIs d (d.row r).rowUnit .exercise = true ∨ unitSegmentIs d u .exercise = true) :
    setupRow (r, u) d = (d, refuse .busy) := by
  rw [setupRow_cases, if_neg hw, if_pos h]

theorem setupRow_of_taken {u : Option RowUnit} (hw : ¬ ((d.row r).display ≠ .down ∧ (d.row r).display ≠ .faulted ∧
    unitSegmentIs d (d.row r).rowUnit .disabled = false))
    (hb : ¬ (unitSegmentIs d (d.row r).rowUnit .exercise = true ∨ unitSegmentIs d u .exercise = true))
    (h : unitTaken d r u = true) : setupRow (r, u) d = (d, refuse .duplicate) := by
  rw [setupRow_cases, if_neg hw, if_neg hb, if_pos h]

theorem setupRow_of_accepted {u : Option RowUnit} (hw : ¬ ((d.row r).display ≠ .down ∧ (d.row r).display ≠ .faulted ∧
    unitSegmentIs d (d.row r).rowUnit .disabled = false))
    (hb : ¬ (unitSegmentIs d (d.row r).rowUnit .exercise = true ∨ unitSegmentIs d u .exercise = true))
    (h : ¬ unitTaken d r u = true) : setupRow (r, u) d =
      ((if (d.row r).display = .down then d else enterDown r (setupCause d u) d).modRow r
        (rehousedRow u (setupCause d u)), accept []) := by
  rw [setupRow_cases, if_neg hw, if_neg hb, if_neg h]

/-- A FAULTED row given another unit, part by part: it enters DOWN as `d` would have it, whose board, settle record and
notices are those of `b`. -/
theorem rehoused_parts {b : Device} {v : RowUnit} (hbegin : ChangesOnly [.link] d b) (hv : (d.row r).rowUnit = some v)
    (hstate : (d.segment v.segment).state ≠ .exercise) (u : Option RowUnit) (c : Cause) :
    let x := d.row r
    let e := (enterDown r c b).modRow r (rehousedRow u c)
    e.row r = { (enterDown r c d).row r with rowUnit := u, missed := 0 } ∧ (∀ q, q ≠ r → e.row q = d.row q) ∧
    (∀ n, n ∈ e.notices ↔ n ∈ (enterDown r c d).notices) ∧
    (c ≠ .segmentOff → Notice.row r ∈ (enterDown r c d).notices) ∧
    (∀ g, e.segment g = { d.segment g with
      queue := if x.rowUnit.any (fun u => u.segment == g) then (d.segment g).queue.filter (fun q => q ≠ r)
        else (d.segment g).queue }) ∧
    e.channel.settle = (if 0 < x.owed then d.reportNotShown else d).channel.settle ∧
    ChangesOnly [.settle, .notices, .rows, .segments] b e := by
  intro x e
  have hrow := hbegin.row_eq (by simp)
  have hseg := hbegin.segment_eq (by simp)
  have hdark : enterDown r c d = darkenOnly r .down c (c != .segmentOff) d := darken_of_not_exercise hv hstate _ _ _
  have hdark' : enterDown r c b = darkenOnly r .down c (c != .segmentOff) b :=
    darken_of_not_exercise (by rw [hrow]; exact hv) (by rw [hseg]; exact hstate) _ _ _
  have hset := modRow_changes (enterDown r c b) r (rehousedRow u c)
  obtain ⟨-, -, -, -, hdown, -, -⟩ := darken_parts (d := b) (r := r) (u := v) (by rw [hrow]; exact hv)
    (by rw [hseg]; exact hstate) .down c (c != .segmentOff)
  have hsettle : (if 0 < x.owed then b.reportNotShown else b).channel.settle =
      (if 0 < x.owed then d.reportNotShown else d).channel.settle := by
    split
    · exact settle_reportNotShown_congr (hbegin .settle (by simp))
    · exact hbegin .settle (by simp)
  have hreports (n : Notice) : n ∈ (if 0 < x.owed then b.reportNotShown else b).notices ↔
      n ∈ (if 0 < x.owed then d.reportNotShown else d).notices := by
    have hnotices : b.notices = d.notices := hbegin .notices (by simp)
    split
    · exact mem_reportNotShown_congr (hbegin .settle (by simp)) (fun n => by rw [hnotices]) n
    · rw [hnotices]
  refine ⟨?_, fun q hq => ?_, fun n => ?_, fun hc => ?_, fun g => ?_, ?_, hdown.andThen hset (by simp) (by simp)⟩
  · rw [row_modRow, if_pos rfl, hdark, hdark', row_darkenOnly, if_pos rfl, row_darkenOnly, if_pos rfl, hrow]
    rfl
  · rw [row_modRow, if_neg hq, hdark', row_darkenOnly, if_neg hq, hrow]
  · rw [show _ = _ from hset .notices (by simp), hdark, hdark', mem_darkenOnly, mem_darkenOnly, hrow, hreports]
  · rw [hdark]
    exact (mem_darkenOnly _ _ _ _ _ _).2 (.inr ⟨by simpa using hc, rfl⟩)
  · rw [hset.segment_eq (by simp), hdark', segment_darkenOnly, hrow, hseg, onSegment_eq_any]
  · rw [show _ = _ from hset .settle (by simp), hdark', settle_darkenOnly, hrow, hsettle]

/-- Settles O47: each request by its work, once it is taken and its body reads back. -/
theorem rowRequestsWriteTheirRow : Obligations.RowRequestsWriteTheirRow := by
  intro s body d refused without queuesOnly
  have hbegin (kind : Byte) := beginWork_changes kind body d
  refine ⟨fun l fields h hf => ?_, fun r i l h hf => ?_, fun r h hf => ?_, fun r h hf => ?_, fun r u h hf => ?_⟩
  · obtain ⟨hwork, hlayout, hrow, hseg, hchanges⟩ := replaceLayout_parts l fields (beginWork 0x21 body d)
    exact ⟨_, exec_accepted h hf hwork, rfl, channel_readyReply_of_kept _ hchanges (by simp), hlayout, hrow, hseg,
      ready_changes _ hchanges⟩
  · intro listed full
    have hfull : full = true ↔ 4 ≤ (d.slot i).boundRows.length ∧ r ∉ (d.slot i).boundRows := by
      simp [full]
    refine ⟨fun hl => exec_refused h hf (bindRow_of_unlisted hl),
      fun hl hf' => exec_refused h hf (bindRow_of_full hl (hfull.1 hf')), fun hl hf' => ?_⟩
    obtain ⟨hrow, hother, hseg, hslot, hchanges⟩ := bound_parts r i l (beginWork 0x22 body d)
    exact ⟨_, exec_accepted h hf (bindRow_of_room hl (mt hfull.2 (by simp [hf']))), rfl,
      channel_readyReply_of_kept _ hchanges (by simp), hrow, hother, hseg,
      fun j => (hslot j).trans (slot_boundTo r i j (beginWork 0x22 body d)), ready_changes _ hchanges⟩
  · obtain ⟨hrow, hother, hseg, hslot, hchanges⟩ := unbindRow_parts r (beginWork 0x23 body d)
    exact ⟨_, exec_accepted h hf (work := unbindRow) rfl, rfl, channel_readyReply_of_kept _ hchanges (by simp), hrow,
      hother, hseg, hslot, ready_changes _ hchanges⟩
  · refine ⟨fun hd => exec_refused h hf (work := clearRow) (if_pos hd), fun u hd hu => ?_⟩
    obtain ⟨hrow, hother, hseg, hsegs, hchanges⟩ := cleared_parts (d := beginWork 0x24 body d) (r := r) hu
    exact ⟨_, exec_accepted h hf (clearRow_of_faulted hd), rfl, channel_readyReply_of_kept _ hchanges (by simp), hrow,
      hother, hseg, hsegs, ready_changes _ hchanges⟩
  · intro x inState wrong busy double cause
    have hwrong : ((d.row r).display ≠ .down ∧ (d.row r).display ≠ .faulted ∧
        unitSegmentIs (beginWork 0x25 body d) (d.row r).rowUnit .disabled = false) ↔ wrong := by
      rw [unitSegmentIs_eq_any]
      exact Iff.rfl
    have hbusy : (unitSegmentIs (beginWork 0x25 body d) (d.row r).rowUnit .exercise = true ∨
        unitSegmentIs (beginWork 0x25 body d) u .exercise = true) ↔ busy := by
      rw [unitSegmentIs_eq_any, unitSegmentIs_eq_any]
      exact Iff.rfl
    have hdouble : unitTaken (beginWork 0x25 body d) r u = true ↔ double := unitTaken_iff
    have hcause : setupCause (beginWork 0x25 body d) u = cause := setupCause_eq _ u
    refine ⟨fun hw => exec_refused h hf (setupRow_of_wrong (hwrong.2 hw)),
      fun hw hb => exec_refused h hf (setupRow_of_busy (mt hwrong.1 hw) (hbusy.2 hb)),
      fun hw hb hd => exec_refused h hf (setupRow_of_taken (mt hwrong.1 hw) (mt hbusy.1 hb) (hdouble.2 hd)),
      fun hw hb hd hx => ?_, fun hw hb hd hx hu => ?_⟩
    · have hwork := setupRow_of_accepted (d := beginWork 0x25 body d) (mt hwrong.1 hw) (mt hbusy.1 hb) (mt hdouble.1 hd)
      rw [hcause, if_pos (show ((beginWork 0x25 body d).row r).display = _ from hx)] at hwork
      exact exec_accepted h hf hwork
    · have hwork := setupRow_of_accepted (d := beginWork 0x25 body d) (mt hwrong.1 hw) (mt hbusy.1 hb) (mt hdouble.1 hd)
      rw [hcause, if_neg (show ((beginWork 0x25 body d).row r).display ≠ _ by
        rw [show ((beginWork 0x25 body d).row r).display = _ from hx]; simp)] at hwork
      obtain ⟨v, hv⟩ := Option.ne_none_iff_exists'.1 hu
      have hstate : (d.segment v.segment).state ≠ .exercise := fun hs => hb (.inl (by
        simp only [inState, hv, Option.any_some, hs]
        rfl))
      obtain ⟨hrow, hother, hnotices, hnotice, hseg, hsettle, hchanges⟩ := rehoused_parts (hbegin 0x25) hv hstate u cause
      exact ⟨_, exec_accepted h hf hwork, rfl, link_readyReply _ (hchanges .link (by simp)), hrow, hother,
        fun hc => (hnotices _).2 (hnotice hc), hnotices, hseg, hsettle, (ready_changes _ hchanges).mono (by simp)⟩

/-! ## O46 -/

/-- Two devices hold the same settle record and the same notices. -/
structure SameReports (d e : Device) : Prop where
  settle : e.channel.settle = d.channel.settle
  notices : ∀ n, n ∈ e.notices ↔ n ∈ d.notices

theorem SameReports.report (h : SameReports d e) : SameReports d.reportNotShown e.reportNotShown :=
  ⟨settle_reportNotShown_congr h.settle, mem_reportNotShown_congr h.settle h.notices⟩

/-- Whether the row enters DOWN, cause SEGMENT-OFF, with an owed count. -/
def owesAtOff (x : Row) : Bool := !(x.display == .down && x.cause == .segmentOff) && decide (0 < x.owed)

/-- The reports of a set of rows counted not shown, one for each. -/
def notShownReports (l : List RowNo) (d : Device) : Device := l.foldl (fun e _ => e.reportNotShown) d

theorem reports_switchOffRow (hon : (d.row r).onSegment g = true) (hstate : (d.segment g).state ≠ .exercise) :
    SameReports (if owesAtOff (d.row r) = true then d.reportNotShown else d) (switchOffRow r d) := by
  rw [switchOffRow_eq hon hstate]
  by_cases hoff : (d.row r).display = .down ∧ (d.row r).cause = .segmentOff
  · rw [if_pos hoff, if_neg (by simp [owesAtOff, hoff])]
    exact ⟨rfl, fun _ => Iff.rfl⟩
  · rw [if_neg hoff]
    have howes : owesAtOff (d.row r) = true ↔ 0 < (d.row r).owed := by
      have hno : ((d.row r).display == .down && (d.row r).cause == .segmentOff) = false := by
        simpa [← not_and] using hoff
      simp [owesAtOff, hno]
    simp only [howes]
    exact ⟨settle_darkenOnly r _ _ _ d, fun n => (mem_darkenOnly r _ _ false d n).trans (by simp)⟩

theorem reports_forEach_switchOffRow {l : List RowNo} (hstate : (d.segment g).state ≠ .exercise) (hnodup : l.Nodup)
    (hl : ∀ r ∈ l, (d.row r).onSegment g = true) {c : Device} (he : SwitchingOff g d e) (hrow : ∀ r ∈ l, e.row r = d.row r)
    (hc : SameReports c e) :
    SameReports (notShownReports (l.filter (fun r => owesAtOff (d.row r))) c) (forEach l switchOffRow e) := by
  induction l generalizing e c with
  | nil => exact hc
  | cons r l ih =>
    have hon := hl r (by simp)
    have hr := hrow r (by simp)
    have hon' : (e.row r).onSegment g = true := by rw [hr]; exact hon
    have hstate' : (e.segment g).state ≠ .exercise := by
      obtain ⟨q, hq⟩ := he.segment
      rw [hq]
      exact hstate
    have hone := reports_switchOffRow hon' hstate'
    have hrow' : ∀ q ∈ l, (switchOffRow r e).row q = d.row q := fun q hq => by
      rw [row_switchOffRow hon' hstate', if_neg (ne_of_mem_of_not_mem hq (List.nodup_cons.1 hnodup).1), hrow q (by simp [hq])]
    have hnext := fun c hc => ih (List.nodup_cons.1 hnodup).2 (fun q hq => hl q (by simp [hq]))
      (he.step hon hstate) hrow' (c := c) hc
    rw [forEach_cons, List.filter_cons]
    rw [hr] at hone
    by_cases howes : owesAtOff (d.row r) = true
    · rw [if_pos howes] at hone ⊢
      have hreport := hc.report
      exact hnext _ ⟨hone.settle.trans hreport.settle, fun n => (hone.notices n).trans (hreport.notices n)⟩
    · rw [if_neg howes] at hone ⊢
      exact hnext _ ⟨hone.settle.trans hc.settle, fun n => (hone.notices n).trans (hc.notices n)⟩

/-- The rows of a segment made DISABLED that owed are counted not shown, each once (R89, R108). -/
theorem reports_disableSegment (g : SegNo) (d : Device) :
    SameReports (notShownReports ((rowsOf d g).filter (fun r => owesAtOff (d.row r))) d) (disableSegment g d) := by
  have hoff := reports_forEach_switchOffRow (l := rowsOf (offSegment g d) g) (d := offSegment g d) (e := offSegment g d)
    (c := d) (g := g) (by rw [segment_offSegment, if_pos rfl]; simp) (nodup_rowsOf _ g) (fun r hr => mem_rowsOf.1 hr)
    ⟨⟨_, rfl⟩, fun _ _ => rfl, fun _ => rfl, fun _ => rfl⟩ (fun _ _ => rfl) ⟨rfl, fun _ => Iff.rfl⟩
  obtain ⟨hsettle, hnotices⟩ := hoff
  have hlast := modSegment_changes (forEach (rowsOf (offSegment g d) g) switchOffRow (offSegment g d)) g
    (fun s => { s with queue := [] })
  exact ⟨(hlast .settle (by simp)).trans hsettle, fun n => by
    rw [disableSegment_eq, show _ = _ from hlast .notices (by simp)]
    exact hnotices n⟩

theorem sameReports_notShownReports (l : List RowNo) (h : SameReports d e) :
    SameReports (notShownReports l d) (notShownReports l e) := by
  induction l generalizing d e with
  | nil => exact h
  | cons r l ih => exact ih h.report

theorem limitTooLow_iff (f : SegmentFields) (d : Device) : limitTooLow f d = true ↔
    f.motionLimit ≠ none ∧ (setSettings f (d.segment f.segment)).motionLimit < motionLoad d f.segment := by
  unfold limitTooLow
  cases hm : f.motionLimit with
  | none => simp
  | some n => simp [setSettings, hm]

theorem setupSegment_of_busy {f : SegmentFields}
    (h : limitTooLow f d = true ∨ f.enable = some true ∧ (d.segment f.segment).state = .exercise) :
    setupSegment f d = (d, refuse .busy) := if_pos h

/-- An accepted SEGMENT-SETUP, by the device that its settings and its state change leave. -/
theorem setupSegment_of_accepted {f : SegmentFields}
    (h : ¬ (limitTooLow f d = true ∨ f.enable = some true ∧ (d.segment f.segment).state = .exercise))
    (he : changeSegment f.segment f.enable (d.modSegment f.segment (setSettings f)) = e) : setupSegment f d =
      (e, accept (segmentSettings (e.segment f.segment) ++ [segmentStateCode (e.segment f.segment).state])) := by
  subst he
  exact if_neg h

theorem changeSegment_of_kept {o : Option Bool}
    (h : o = none ∨ (o = some true ∧ (d.segment g).state = .active) ∨ (o = some false ∧ (d.segment g).state = .disabled)) :
    changeSegment g o d = d := by
  unfold changeSegment
  obtain rfl | ⟨rfl, hs⟩ | ⟨rfl, hs⟩ := h
  · rfl
  · rw [hs]
  · rw [hs]

theorem changeSegment_of_enabled (h : (d.segment g).state = .disabled) : changeSegment g (some true) d = activateSegment g d := by
  unfold changeSegment
  rw [h]

theorem changeSegment_of_disabled (h : (d.segment g).state ≠ .disabled) :
    changeSegment g (some false) d = disableSegment g d := by
  unfold changeSegment
  cases hs : (d.segment g).state with
  | disabled => exact absurd hs h
  | active => rfl
  | exercise => rfl

/-- A row of the segment is switched off exactly when it was not DOWN, cause SEGMENT-OFF, already. -/
theorem switchedOff_eq (on : Bool) (x : Row) : (if on = true then switchedOffRow x else x) =
    if (on && !(x.display == .down && x.cause == .segmentOff)) = true then darkened x .down .segmentOff x.faultCell
    else x := by
  cases on with
  | false => rfl
  | true =>
    by_cases h : x.display = .down ∧ x.cause = .segmentOff
    · simp [switchedOffRow, h]
    · rw [if_pos rfl, switchedOffRow, if_neg h, if_pos (by simpa using not_and_or.1 h), darkRow_eq]

/-- Settles O46: the refusals, the settings alone, and the two state changes by what they do to rows, segments and lines. -/
theorem segmentSetupWritesAndSwitches : Obligations.SegmentSetupWritesAndSwitches := by
  intro s body f htakes hf d g x within x' busy data
  let b := beginWork 0x20 body d
  have hbusy : (limitTooLow f b = true ∨ f.enable = some true ∧ (b.segment f.segment).state = .exercise) ↔ busy :=
    or_congr (limitTooLow_iff f b) Iff.rfl
  have hset := modSegment_changes b g (setSettings f)
  have hseg (k : SegNo) : (b.modSegment g (setSettings f)).segment k = if k = g then x' else d.segment k :=
    segment_modSegment b g k _
  have hsegg : (b.modSegment g (setSettings f)).segment g = x' := by rw [hseg, if_pos rfl]
  refine ⟨fun hb => exec_refused htakes hf (setupSegment_of_busy (hbusy.2 hb)), fun hb he => ?_, fun hb he hstate => ?_,
    fun hb he hstate => ?_⟩
  · have hwork := setupSegment_of_accepted (mt hbusy.1 hb) (changeSegment_of_kept (g := g) (by rw [hsegg]; exact he))
    rw [hsegg] at hwork
    exact exec_accepted htakes hf hwork
  · have hwork := setupSegment_of_accepted (e := activateSegment g (b.modSegment g (setSettings f))) (mt hbusy.1 hb) (by
      rw [he]
      exact changeSegment_of_enabled (by rw [hsegg]; exact hstate))
    have hactive : (activateSegment g (b.modSegment g (setSettings f))).segment g =
        { x' with state := .active, queue := [] } := by
      rw [segment_activateSegment, if_pos rfl, hsegg]
    rw [show f.segment = g from rfl, hactive] at hwork
    have hactivate : ChangesOnly [.segments, .lines, .rows] (b.modSegment g (setSettings f))
        (activateSegment g (b.modSegment g (setSettings f))) :=
      ((modSegment_changes _ g _).andThen (setLine_changes _ g _) (by simp) (by simp)).trans
        ((activateSegment_rest g _).mono (by simp))
    have hchanges := hset.andThen hactivate (n := [.segments, .lines, .rows]) (by simp) (by simp)
    refine ⟨_, exec_accepted htakes hf hwork, rfl, channel_readyReply_of_kept _ hchanges (by simp), hactive, ?_,
      fun r => row_activateSegment g r _, fun k hk => ⟨?_, ?_⟩, ready_changes _ hchanges⟩
    · exact (line_activateSegment g g _).trans (if_pos rfl)
    · refine (segment_activateSegment g k _).trans ?_
      rw [if_neg hk, hseg, if_neg hk]
    · refine (line_activateSegment g k _).trans ?_
      rw [if_neg hk, hset.line_eq (by simp)]
      rfl
  · have hwork := setupSegment_of_accepted (e := disableSegment g (b.modSegment g (setSettings f))) (mt hbusy.1 hb) (by
      rw [he]
      exact changeSegment_of_disabled (by rw [hsegg]; exact hstate))
    have hoff : (disableSegment g (b.modSegment g (setSettings f))).segment g =
        { x' with state := .disabled, exerciseList := [], motionCounter := 0, queue := [] } := by
      rw [segment_disableSegment, if_pos rfl, hsegg]
    rw [show f.segment = g from rfl, hoff] at hwork
    have hchanges := hset.andThen (disableSegment_changes g (b.modSegment g (setSettings f))) (n := boardParts)
      (by simp [boardParts]) (by simp)
    have hrows : (everyRow.filter (fun r => ((d.row r).rowUnit.any (fun u => u.segment == g) &&
        !((d.row r).display == .down && (d.row r).cause == .segmentOff)) && decide (0 < (d.row r).owed))) =
        (rowsOf d g).filter (fun r => owesAtOff (d.row r)) := by
      rw [rowsOf, List.filter_filter]
      refine List.filter_congr fun r _ => ?_
      rw [onSegment_eq_any, owesAtOff]
      exact (Bool.and_assoc _ _ _).trans (Bool.and_comm _ _)
    have hreports : SameReports (notShownReports ((rowsOf d g).filter (fun r => owesAtOff (d.row r))) d)
        (disableSegment g (b.modSegment g (setSettings f))) := by
      have hdisabled := reports_disableSegment g (b.modSegment g (setSettings f))
      have hstart := sameReports_notShownReports ((rowsOf d g).filter (fun r => owesAtOff (d.row r)))
        (d := d) (e := b.modSegment g (setSettings f)) ⟨rfl, fun _ => Iff.rfl⟩
      exact ⟨hdisabled.settle.trans hstart.settle, fun n => (hdisabled.notices n).trans (hstart.notices n)⟩
    refine ⟨_, exec_accepted htakes hf hwork, rfl, link_readyReply _ (hchanges .link (by simp [boardParts])), hoff, ?_, ?_⟩
    · exact (line_disableSegment g g _).trans (if_pos rfl)
    · dsimp only
      rw [hrows]
      refine ⟨fun r => ?_, hreports.settle, hreports.notices, fun k hk => ⟨?_, ?_⟩,
        (ready_changes _ hchanges).mono (by simp [boardParts])⟩
      · refine (row_disableSegment g r _).trans ?_
        show (if (d.row r).onSegment g = true then switchedOffRow (d.row r) else d.row r) = _
        rw [onSegment_eq_any]
        exact switchedOff_eq _ _
      · refine (segment_disableSegment g k _).trans ?_
        rw [if_neg hk, hseg, if_neg hk]
      · refine (line_disableSegment g k _).trans ?_
        rw [if_neg hk, hset.line_eq (by simp)]
        rfl

end Sys2Proof.Machine
end


section
/-! PROOFS. EXERCISE, and the ways a listed row passes or fails (O44). -/

namespace Sys2Proof.Machine

variable {g : SegNo} {r : RowNo} {d e : Device} {s : State} {c : Instr} {f : Frame}

/-! ## EXERCISE -/

theorem startExercise_of_not_active {seed : Word} (h : (d.segment g).state ≠ .active) : startExercise (g, seed) d =
    (d, refuse (if (d.segment g).state = .exercise then .busy else .wrongState)) := by
  unfold startExercise
  cases hs : (d.segment g).state with
  | active => exact absurd hs h
  | disabled => rfl
  | exercise => rfl

theorem exerciseRows_eq (d : Device) (g : SegNo) : exerciseRows d g =
    (everyRow.filter (fun r => (d.row r).onSegment g && (d.row r).display != .down && (d.row r).display != .faulted)).map
      (fun r => (⟨r, .waiting, 0⟩ : ExerciseRow)) := by
  unfold exerciseRows rowsOf
  rw [List.filter_filter]
  refine congrArg (List.map _) (List.filter_congr fun r _ => ?_)
  exact (Bool.and_comm _ _).trans (Bool.and_assoc _ _ _).symm

/-- Rows that wait hold the exercise open. -/
theorem exerciseOver_exerciseRows (h : exerciseRows d g ≠ []) : exerciseOver (exerciseRows d g) = false := by
  obtain ⟨x, l, hx⟩ := List.exists_cons_of_ne_nil h
  have hstep : x.step = .waiting := by
    obtain ⟨r, -, hr⟩ := List.mem_map.1 (show x ∈ exerciseRows d g by rw [hx]; simp)
    rw [← hr]
  rw [hx, exerciseOver_eq, List.all_cons, hstep]
  rfl

/-- An exercise without rows ends at once (R126). -/
theorem exerciseCheck_of_empty (hs : (d.segment g).state = .exercise) (hl : (d.segment g).exerciseList = []) :
    exerciseCheck g d = ((d.modSegment g (fun s => { s with
      state := .active, exerciseList := [], result := ⟨s.exerciseList.length, 0, 0⟩ })).modLine g
        (fun l => { l with pollCursor := none })).raise (.segment g) := by
  unfold exerciseCheck
  dsimp only
  rw [hl, if_pos ⟨hs, rfl⟩]
  rfl

/-- An accepted EXERCISE, part by part. -/
theorem exercising_parts (g : SegNo) (seed : Word) (d : Device) :
    let list := exerciseRows d g
    let e := exerciseCheck g (d.setSegment g (exercisingSegment d g seed))
    e.segment g =
      (if list = [] then { d.segment g with state := .active, seed := seed, exerciseList := [], result := ⟨0, 0, 0⟩ }
      else { d.segment g with state := .exercise, seed := seed, exerciseList := list }) ∧
    e.line g = (if list = [] then { d.line g with pollCursor := none } else d.line g) ∧
    (∀ h, h ≠ g → e.segment h = d.segment h ∧ e.line h = d.line h) ∧
    (list = [] → Notice.segment g ∈ e.notices) ∧ ChangesOnly [.segments, .lines, .notices] d e := by
  intro list e
  have hseg := Device.segment_setSegment_same d g (exercisingSegment d g seed)
  have hset := setSegment_changes d g (exercisingSegment d g seed)
  by_cases hl : list = []
  · have he : e = _ := exerciseCheck_of_empty (d := d.setSegment g (exercisingSegment d g seed)) (by rw [hseg]; rfl)
      (by rw [hseg]; exact hl)
    rw [he, if_pos hl, if_pos hl]
    refine ⟨?_, ?_, fun k hk => ⟨?_, ?_⟩, fun _ => (mem_raise _ _ _).2 (.inl rfl), ?_⟩
    · rw [(raise_changes _ _).segment_eq (by simp), (modLine_changes _ _ _).segment_eq (by simp), segment_modSegment,
        if_pos rfl, hseg]
      show ({ exercisingSegment d g seed with state := _, exerciseList := _, result := ⟨list.length, 0, 0⟩ } : Segment) = _
      rw [hl]
      rfl
    · rw [(raise_changes _ _).line_eq (by simp), line_modLine, if_pos rfl]
      rfl
    · rw [(raise_changes _ _).segment_eq (by simp), (modLine_changes _ _ _).segment_eq (by simp), segment_modSegment,
        if_neg hk, Device.segment_setSegment_other _ _ _ _ hk]
    · rw [(raise_changes _ _).line_eq (by simp), line_modLine, if_neg hk]
      rfl
    · exact (hset.andThen (modSegment_changes _ g _) (n := [.segments, .lines, .notices]) (by simp) (by simp)).trans
        ((modLine_changes _ g _).andThen (raise_changes _ _) (by simp) (by simp))
  · have he : e = d.setSegment g (exercisingSegment d g seed) :=
      exerciseCheck_of_not_over (by rw [hseg]; exact exerciseOver_exerciseRows hl)
    rw [he, if_neg hl, if_neg hl]
    refine ⟨hseg, rfl, fun k hk => ⟨Device.segment_setSegment_other _ _ _ _ hk, rfl⟩, fun h => absurd h hl, hset.mono (by simp)⟩

/-! ## Rows that fail -/

theorem LinesSound.nodup (h : LinesSound d) (g : SegNo) : ((d.segment g).exerciseList.map (·.row)).Nodup := by
  obtain ⟨-, -, hrising, -⟩ := h g
  exact nodup_of_rising hrising

theorem LinesSound.listedOn (h : LinesSound d) (g : SegNo) :
    ∀ x ∈ (d.segment g).exerciseList, (d.row x.row).onSegment g = true := fun x hx => by
  obtain ⟨-, -, -, hlisted, -⟩ := h g
  exact (hlisted x hx).1

/-- A row fails alike from devices that differ in that row alone, its owed count apart. -/
theorem FailsInExercise.congr {d' : Device} {x' : Row} (h : FailsInExercise e d' g r x') (hrow : ∀ q, q ≠ r → e.row q = d.row q)
    (howed : (e.row r).owed = (d.row r).owed) (hline : ∀ k, e.line k = d.line k) (hseg : ∀ k, e.segment k = d.segment k)
    (hsettle : e.channel.settle = d.channel.settle) : FailsInExercise d d' g r x' := by
  obtain ⟨hgoes, hnotice, hpaid⟩ := h
  rw [hseg g] at hgoes
  refine ⟨hgoes.congr (fun q => ?_) (fun k => (hline k).symm) (fun k hk => ?_) ⟨(d.segment g).exerciseList, ?_⟩, hnotice, ?_⟩
  · rw [Device.row_setSegment, Device.row_setRow, Device.row_setSegment, Device.row_setRow]
    split
    · rfl
    · next hq => exact (hrow q hq).symm
  · rw [Device.segment_setSegment_other _ _ _ _ hk, Device.segment_setSegment_other _ _ _ _ hk]
    exact (hseg k).symm
  · rw [Device.segment_setSegment_same, Device.segment_setSegment_same]
  · rw [hpaid, howed]
    split
    · exact settle_reportNotShown_congr hsettle
    · exact hsettle

/-- A row of a segment in EXERCISE enters DOWN, with its notice, on a sound line. -/
theorem LinesSound.enterDown_fails {u : RowUnit} (h : LinesSound d) (hu : (d.row r).rowUnit = some u)
    (hs : (d.segment u.segment).state = .exercise) (hrows : ∀ q, (e.row q).rowUnit = (d.row q).rowUnit)
    (hseg : ∀ k, e.segment k = d.segment k) {cause : Cause} (hc : cause ≠ .segmentOff) :
    FailsInExercise e (enterDown r cause e) u.segment r (darkRow (e.row r) .down cause) := by
  have hdark := darken_failsInExercise (d := e) (r := r) (u := u) ((hrows r).trans hu) (by rw [hseg]; exact hs)
    (by rw [hseg]; exact h.nodup _) (fun x hx => by
      rw [hseg] at hx
      rw [onSegment_congr (hrows x.row)]
      exact h.listedOn _ x hx) .down cause
  unfold enterDown
  rw [show (cause != .segmentOff) = true by simpa using hc]
  exact hdark

/-- A row of a segment in EXERCISE enters FAULTED on a sound line. -/
theorem LinesSound.enterFaulted_fails {u : RowUnit} (h : LinesSound d) (hu : (d.row r).rowUnit = some u)
    (hs : (d.segment u.segment).state = .exercise) (hrows : ∀ q, (e.row q).rowUnit = (d.row q).rowUnit)
    (hseg : ∀ k, e.segment k = d.segment k) (cause : Cause) (cell : Nat) :
    FailsInExercise e (enterFaulted r cause cell e) u.segment r (darkened (e.row r) .faulted cause cell) := by
  have hrow (q : RowNo) : (e.modRow r (fun x => { x with faultCell := cell })).row q =
      if q = r then { e.row r with faultCell := cell } else e.row q := row_modRow _ _ _ _
  have hunits (q : RowNo) : ((e.modRow r (fun x => { x with faultCell := cell })).row q).rowUnit = (d.row q).rowUnit := by
    rw [hrow, ← hrows q]
    split
    · next hq => rw [hq]
    · rfl
  have hset := modRow_changes e r (fun x => { x with faultCell := cell })
  have hsegs (k : SegNo) : (e.modRow r (fun x => { x with faultCell := cell })).segment k = d.segment k :=
    (hset.segment_eq (by simp) k).trans (hseg k)
  have hdark := darken_failsInExercise (d := e.modRow r (fun x => { x with faultCell := cell })) (r := r) (u := u)
    ((hunits r).trans hu) (by rw [hsegs]; exact hs) (by rw [hsegs]; exact h.nodup _) (fun x hx => by
      rw [hsegs] at hx
      rw [onSegment_congr (hunits x.row)]
      exact h.listedOn _ x hx) .faulted cause
  rw [hrow, if_pos rfl] at hdark
  refine hdark.congr (fun q hq => ?_) ?_ (fun k => hset.line_eq (by simp) k) (fun k => hset.segment_eq (by simp) k)
    (hset .settle (by simp))
  · rw [hrow, if_neg hq]
  · rw [hrow, if_pos rfl]

/-- The failure of the row of the frame in hand, seen from the device with the line closed: the answer has changed no other
row and none of the owed counts. -/
theorem FailsInExercise.ofClosed {d' : Device} {x' : Row} (h : FailsInExercise e d' g f.row x')
    (hrow : ∀ q, q ≠ f.row → e.row q = d.row q) (howed : (e.row f.row).owed = (d.row f.row).owed)
    (hchanges : ChangesOnly [.rows] (d.setLine g (closedLine (d.line g))) e) :
    FailsInExercise (d.setLine g (closedLine (d.line g))) d' g f.row x' :=
  h.congr hrow howed (hchanges.line_eq (by simp)) (hchanges.segment_eq (by simp)) (hchanges .settle (by simp))

/-! ## Echoes -/

theorem state_of_exerciseStep {u : RowUnit} {st : ExerciseStep} (hu : (d.row r).rowUnit = some u)
    (h : exerciseStep d r = some st) : (d.segment u.segment).state = .exercise := by
  unfold exerciseStep at h
  rw [hu] at h
  by_contra hs
  simp [hs] at h

theorem length_exercisePattern (seed : Word) (r : RowNo) : (exercisePattern seed r).cells.length = 32 := by
  rw [exercisePattern_cells, List.length_map, List.length_range]

theorem mismatchCell_eq {pattern : List Nat} {sensed : List Byte} {k : Nat} (hlength : pattern.length = sensed.length)
    (hk : k < pattern.length) (hbefore : ∀ j, j < k → pattern[j]? = sensed[j]?.map (·.toNat))
    (hdiffers : pattern[k]? ≠ sensed[k]?.map (·.toNat)) : mismatchCell pattern sensed = k := by
  have hlen : (List.zipWith (fun p (s : Byte) => p == s.toNat) pattern sensed).length = pattern.length := by
    rw [List.length_zipWith, hlength, Nat.min_self]
  unfold mismatchCell
  rw [List.idxOf, List.findIdx_eq (by rw [hlen]; exact hk)]
  refine ⟨?_, fun j hj => ?_⟩
  · rw [List.getElem?_eq_getElem hk, List.getElem?_eq_getElem (hlength ▸ hk)] at hdiffers
    simpa using hdiffers
  · have hj' := hbefore j hj
    rw [List.getElem?_eq_getElem (hj.trans hk), List.getElem?_eq_getElem (hlength ▸ hj.trans hk)] at hj'
    simpa using hj'

/-- The device after a pattern that agrees, before the exercise is looked at: the row shows the pattern and is PASSED. -/
def passedBy (g : SegNo) (r : RowNo) (pattern : Image) (d : Device) : Device :=
  setStep r (fun y => { y with step := .passed }) g (d.modRow r (fun x => { x with shown := some pattern, shownSlot := none }))

theorem echoed_of_agreeing {sensed : List Byte} (hst : exerciseStep d f.row = some .echoing)
    (h : (exercisePattern (d.segment g).seed f.row).cells = sensed.map (·.toNat)) :
    echoed g sensed f d = exerciseCheck g (passedBy g f.row (exercisePattern (d.segment g).seed f.row) d) := by
  unfold echoed
  dsimp only
  rw [if_pos hst, if_pos h]
  rfl

theorem echoed_of_differing {sensed : List Byte} (hst : exerciseStep d f.row = some .echoing)
    (h : (exercisePattern (d.segment g).seed f.row).cells ≠ sensed.map (·.toNat)) :
    echoed g sensed f d =
      enterFaulted f.row .mismatch (mismatchCell (exercisePattern (d.segment g).seed f.row).cells sensed) d := by
  unfold echoed
  dsimp only
  rw [if_pos hst, if_neg h]

theorem passedBy_changes (g : SegNo) (r : RowNo) (pattern : Image) (d : Device) :
    ChangesOnly [.rows, .segments] d (passedBy g r pattern d) :=
  (modRow_changes d r _).andThen (setStep_changes r _ g _) (by simp) (by simp)

theorem row_passedBy (g : SegNo) (r q : RowNo) (pattern : Image) (d : Device) : (passedBy g r pattern d).row q =
    if q = r then { d.row r with shown := some pattern, shownSlot := none } else d.row q := by
  unfold passedBy
  rw [(setStep_changes _ _ _ _).row_eq (by simp), row_modRow]

theorem segment_passedBy (g k : SegNo) (r : RowNo) (pattern : Image) (d : Device) : (passedBy g r pattern d).segment k =
    if k = g then { d.segment g with
      exerciseList := (d.segment g).exerciseList.map (fun x => if x.row = r then { x with step := .passed } else x) }
    else d.segment k := segment_setStep r _ g k _

/-- What the echo of a row at ECHOING does, seen from the state the answer finds. -/
theorem echo_cases {addr sum : Byte} {sensed : List Byte} {n : Nat} (hlen : sensed.length = 32)
    (hf : (s.device.line g).frame = some f) (ht : (s.device.line g).answerTimer = .running n) (hu : f.use = .echoRequest)
    (hgood : goodAnswer (.echo g addr sensed sum false) f = true)
    (hunit : (s.device.row f.row).rowUnit = some ⟨g, f.address⟩) (hst : exerciseStep s.device f.row = some .echoing) :
    exec (.echo g addr sensed sum false) s =
      .next ⟨if (exercisePattern (s.device.segment g).seed f.row).cells = sensed.map (·.toNat) then
          exerciseCheck g (passedBy g f.row (exercisePattern (s.device.segment g).seed f.row) (heardBy g f s.device))
        else enterFaulted f.row .mismatch (mismatchCell (exercisePattern (s.device.segment g).seed f.row).cells sensed)
          (heardBy g f s.device), s.pending⟩ := by
  have hexec := exec_good (c := .echo g addr sensed sum false) (g := g) (if_pos hlen) hf ht hgood
  rw [heard_of_use (ofUse_of_not_poll hunit (by simp [hu]))] at hexec
  have hst' : exerciseStep (heardBy g f s.device) f.row = some .echoing := (exerciseStep_heardBy g f _).trans hst
  refine hexec.trans (congrArg (fun e => Host.Outcome.next (⟨e, s.pending⟩ : State)) ?_)
  split
  · next h => exact echoed_of_agreeing hst' h
  · next h => exact echoed_of_differing hst' h

theorem exercise_request {body : List Byte} {seed : Word} (htakes : takesRequest 0x26 body s.device = true)
    (hf : readExercise body = .ok (g, seed)) :
    let d := s.device
    let list := (everyRow.filter (fun r => (d.row r).onSegment g && (d.row r).display != .down &&
      (d.row r).display != .faulted)).map (fun r => (⟨r, .waiting, 0⟩ : ExerciseRow))
    ((d.segment g).state ≠ .active →
      exec (.exercise body) s = .next { s with device := { d with
        channel := replied 0x26 (if (d.segment g).state = .exercise then 0x09 else 0x07) [] d.channel } }) ∧
    ((d.segment g).state = .active →
      ∃ t, exec (.exercise body) s = .next t ∧ t.pending = s.pending ∧
        t.device.channel = replied 0x26 0x00 [byte list.length] d.channel ∧
        t.device.segment g =
          (if list = [] then { d.segment g with seed := seed, exerciseList := [], result := ⟨0, 0, 0⟩ }
          else { d.segment g with state := .exercise, seed := seed, exerciseList := list }) ∧
        t.device.line g = (if list = [] then { d.line g with pollCursor := none } else d.line g) ∧
        (∀ h, h ≠ g → t.device.segment h = d.segment h ∧ t.device.line h = d.line h) ∧
        (list = [] → Notice.segment g ∈ t.device.notices) ∧
        ChangesOnly [.link, .segments, .lines, .notices] d t.device) := by
  intro d list
  refine ⟨fun hstate => ?_, fun hstate => ?_⟩
  · have hwork := startExercise_of_not_active (d := beginWork 0x26 body d) (g := g) (seed := seed) hstate
    have hexec := exec_refused htakes hf hwork
    refine hexec.trans ?_
    by_cases hs : (d.segment g).state = .exercise
    · rw [if_pos (show ((beginWork 0x26 body d).segment g).state = .exercise from hs), if_pos hs]
      rfl
    · rw [if_neg (show ¬ ((beginWork 0x26 body d).segment g).state = .exercise from hs), if_neg hs]
      rfl
  · have hlist : exerciseRows (beginWork 0x26 body d) g = list := exerciseRows_eq _ g
    have hwork := startExercise_of_active (d := beginWork 0x26 body d) (g := g) (seed := seed) hstate
    obtain ⟨hseg, hline, hother, hnotice, hchanges⟩ := exercising_parts g seed (beginWork 0x26 body d)
    rw [hlist] at hwork hseg hline hnotice
    refine ⟨_, exec_accepted htakes hf hwork, rfl, channel_readyReply_of_kept _ hchanges (by simp), hseg.trans ?_, hline,
      hother, hnotice, ready_changes _ hchanges⟩
    split
    · show ({ d.segment g with state := .active, seed := seed, exerciseList := [], result := ⟨0, 0, 0⟩ } : Segment) = _
      rw [← hstate]
    · rfl

/-- The command makes the row of the frame in hand the dark row x', and FAILED if it is listed. -/
def FailsBy (c : Instr) (s : State) (g : SegNo) (f : Frame) (x' : Row) : Prop :=
  ∃ t, exec c s = .next t ∧ t.pending = s.pending ∧
    FailsInExercise (s.device.setLine g (closedLine (s.device.line g))) t.device g f.row x' ∧
    ChangesOnly [.lines, .rows, .segments, .settle, .notices] s.device t.device

theorem rowUnit_heardBy (g : SegNo) (f : Frame) (d : Device) (q : RowNo) :
    ((heardBy g f d).row q).rowUnit = (d.row q).rowUnit := by
  rw [row_heardBy]
  split
  · next hq => rw [hq]
  · rfl

theorem map_row_passed (r : RowNo) (l : List ExerciseRow) :
    (l.map (fun z => if z.row = r then { z with step := .passed } else z)).map (·.row) = l.map (·.row) := by
  rw [List.map_map]
  refine List.map_congr_left fun y _ => ?_
  simp only [Function.comp_apply]
  split <;> rfl

/-- A row that passes on a sound line, and what becomes of the exercise. -/
theorem LinesSound.passedBy_goesOn (hsound : LinesSound d)
    (hstate : (d.segment g).state = .exercise) (pattern : Image) :
    ExerciseGoesOn (((d.setLine g (closedLine (d.line g))).setRow f.row { d.row f.row with missed := 0 }).setRow f.row
        { d.row f.row with missed := 0, shown := some pattern, shownSlot := none })
      (exerciseCheck g (passedBy g f.row pattern (heardBy g f d))) g
      ((d.segment g).exerciseList.map (fun z => if z.row = f.row then { z with step := .passed } else z)) := by
  have hrow (q : RowNo) : (passedBy g f.row pattern (heardBy g f d)).row q =
      (((d.setLine g (closedLine (d.line g))).setRow f.row { d.row f.row with missed := 0 }).setRow f.row
        { d.row f.row with missed := 0, shown := some pattern, shownSlot := none }).row q := by
    rw [row_passedBy, row_heardBy, row_heardBy, if_pos rfl, Device.row_setRow]
    split
    · rfl
    · next hq => exact (Device.row_setRow_other _ _ _ _ hq).symm
  have hunits (q : RowNo) : ((passedBy g f.row pattern (heardBy g f d)).row q).rowUnit = (d.row q).rowUnit := by
    rw [row_passedBy, ← rowUnit_heardBy g f d]
    split
    · next hq => rw [hq]
    · rfl
  have hseg : (passedBy g f.row pattern (heardBy g f d)).segment g = { d.segment g with
      exerciseList := (d.segment g).exerciseList.map (fun z => if z.row = f.row then { z with step := .passed } else z) } :=
    (segment_passedBy g g f.row pattern _).trans (if_pos rfl)
  have hgoes := exerciseCheck_goesOn (g := g) (d := passedBy g f.row pattern (heardBy g f d)) (by rw [hseg]; exact hstate)
    (by rw [hseg, map_row_passed]; exact hsound.nodup g) (fun y hy => by
      rw [hseg] at hy
      have hmem := List.mem_map_of_mem (f := (·.row)) hy
      rw [map_row_passed] at hmem
      obtain ⟨z, hz, hzy⟩ := List.mem_map.1 hmem
      rw [onSegment_congr (hunits y.row), ← hzy]
      exact hsound.listedOn g z hz)
  rw [hseg] at hgoes
  refine hgoes.congr (fun q => (hrow q).symm) (fun k => ?_) (fun k hk => ?_) ⟨(d.segment g).exerciseList, ?_⟩
  · exact ((passedBy_changes g f.row pattern _).line_eq (by simp) k).symm
  · exact ((segment_passedBy g k f.row pattern _).trans (if_neg hk)).symm
  · rw [hseg]
    rfl

/-- The row of an echo that differs fails on a sound line. -/
theorem LinesSound.heardBy_fails (hsound : LinesSound d) (hunit : (d.row f.row).rowUnit = some ⟨g, f.address⟩)
    (hstate : (d.segment g).state = .exercise) (cause : Cause) (cell : Nat) :
    FailsInExercise (d.setLine g (closedLine (d.line g))) (enterFaulted f.row cause cell (heardBy g f d)) g f.row
      (darkened { d.row f.row with missed := 0 } .faulted cause cell) := by
  have hrow : (heardBy g f d).row f.row = { d.row f.row with missed := 0 } := by
    rw [row_heardBy, if_pos rfl]
  have hfails := hsound.enterFaulted_fails hunit hstate (rowUnit_heardBy g f d) (segment_heardBy g · f d) cause cell
  rw [hrow] at hfails
  refine hfails.ofClosed (fun q hq => ?_) ?_ (modRow_changes (endExchange g d) f.row _)
  · rw [row_heardBy, if_neg hq]
  · rw [hrow]

/-- A first cell that differs is the mismatch cell. -/
theorem mismatch_exercisePattern {seed : Word} {sensed : List Byte} {k : Nat} (hlen : sensed.length = 32)
    (hbefore : ∀ j, j < k → (exercisePattern seed r).cells[j]? = sensed[j]?.map (·.toNat)) (hk : k < 32)
    (hdiffers : (exercisePattern seed r).cells[k]? ≠ sensed[k]?.map (·.toNat)) :
    (exercisePattern seed r).cells ≠ sensed.map (·.toNat) ∧ mismatchCell (exercisePattern seed r).cells sensed = k := by
  have hlength := length_exercisePattern seed r
  refine ⟨fun h => hdiffers ?_, mismatchCell_eq (hlength.trans hlen.symm) (hlength ▸ hk) hbefore hdiffers⟩
  rw [h, List.getElem?_map]

theorem echo_request {addr sum : Byte} {sensed : List Byte} {n : Nat} (hlen : sensed.length = 32)
    (hf : (s.device.line g).frame = some f) (ht : (s.device.line g).answerTimer = .running n) (hu : f.use = .echoRequest)
    (hgood : goodAnswer (.echo g addr sensed sum false) f = true)
    (hunit : (s.device.row f.row).rowUnit = some ⟨g, f.address⟩) (hst : exerciseStep s.device f.row = some .echoing) :
    let d := s.device
    let pattern := exercisePattern (d.segment g).seed f.row
    let heardRow : Row := { d.row f.row with missed := 0 }
    let heardOf := (d.setLine g (closedLine (d.line g))).setRow f.row heardRow
    let list := (d.segment g).exerciseList.map (fun z => if z.row = f.row then { z with step := .passed } else z)
    (pattern.cells = sensed.map (·.toNat) → exerciseOver list = false →
      ∃ t, exec (.echo g addr sensed sum false) s = .next t ∧ t.pending = s.pending ∧
        t.device.row f.row = { heardRow with shown := some pattern, shownSlot := none } ∧
        (∀ q, q ≠ f.row → t.device.row q = d.row q) ∧
        t.device.segment g = { d.segment g with exerciseList := list } ∧
        t.device.line g = closedLine (d.line g) ∧ (∀ h, h ≠ g → t.device.line h = d.line h) ∧
        (∀ h, h ≠ g → t.device.segment h = d.segment h) ∧ ChangesOnly [.lines, .rows, .segments] d t.device) ∧
    (pattern.cells = sensed.map (·.toNat) → LinesSound d →
      ∃ t, exec (.echo g addr sensed sum false) s = .next t ∧ t.pending = s.pending ∧
        ExerciseGoesOn (heardOf.setRow f.row { heardRow with shown := some pattern, shownSlot := none }) t.device g list ∧
        ChangesOnly [.lines, .rows, .segments, .notices] d t.device) ∧
    (∀ k, (∀ j, j < k → pattern.cells[j]? = sensed[j]?.map (·.toNat)) → k < 32 →
      pattern.cells[k]? ≠ sensed[k]?.map (·.toNat) →
      exec (.echo g addr sensed sum false) s = .next { s with device := enterFaulted f.row .mismatch k heardOf } ∧
      (LinesSound d → FailsBy (.echo g addr sensed sum false) s g f (darkened heardRow .faulted .mismatch k))) := by
  intro d pattern heardRow heardOf list
  have hexec := echo_cases hlen hf ht hu hgood hunit hst
  have hchanges := heardBy_changes g f d
  have hpassed := passedBy_changes g f.row pattern (heardBy g f d)
  have hseg : (passedBy g f.row pattern (heardBy g f d)).segment g = { d.segment g with exerciseList := list } := by
    rw [segment_passedBy, if_pos rfl]
    rfl
  have hstate := state_of_exerciseStep hunit hst
  refine ⟨fun hagree hover => ?_, fun hagree hsound => ?_, fun k hbefore hk hdiffers => ?_⟩
  · have hcheck : exerciseCheck g (passedBy g f.row pattern (heardBy g f d)) = passedBy g f.row pattern (heardBy g f d) :=
      exerciseCheck_of_not_over (by rw [hseg]; exact hover)
    rw [if_pos hagree, hcheck] at hexec
    refine ⟨_, hexec, rfl, ?_, fun q hq => ?_, hseg, ?_, fun k hk => ?_, fun k hk => ?_,
      (hchanges.mono (by simp)).trans (hpassed.mono (by simp))⟩
    · refine (row_passedBy g f.row f.row pattern _).trans ?_
      rw [if_pos rfl, row_heardBy, if_pos rfl]
    · refine (row_passedBy g f.row q pattern _).trans ?_
      rw [if_neg hq, row_heardBy, if_neg hq]
    · exact (hpassed.line_eq (by simp) g).trans ((line_heardBy g g f d).trans (if_pos rfl))
    · exact (hpassed.line_eq (by simp) k).trans ((line_heardBy g k f d).trans (if_neg hk))
    · exact (segment_passedBy g k f.row pattern _).trans (if_neg hk)
  · rw [if_pos hagree] at hexec
    exact ⟨_, hexec, rfl, hsound.passedBy_goesOn hstate pattern,
      ((hchanges.mono (by simp)).trans (hpassed.mono (by simp))).trans ((exerciseCheck_changes g _).mono (by simp))⟩
  · obtain ⟨hdiffer, hcell⟩ := mismatch_exercisePattern hlen hbefore hk hdiffers
    rw [if_neg hdiffer, hcell] at hexec
    exact ⟨hexec, fun hsound => ⟨_, hexec, rfl, hsound.heardBy_fails hunit hstate .mismatch k,
      (hchanges.mono (by simp)).trans ((enterFaulted_changes _ _ _ _).mono (by simp))⟩⟩

theorem missed_poll_fails {n : Nat} (hstate : (s.device.segment g).state = .exercise) (hsound : LinesSound s.device)
    (hf : (s.device.line g).frame = some f) (ht : (s.device.line g).answerTimer = .running n)
    (hunit : (s.device.row f.row).rowUnit = some ⟨g, f.address⟩) (hc : answersOn c = some g)
    (hbad : goodAnswer c f = false) (hbody : f.body = .poll) (hmissed : 2 ≤ (s.device.row f.row).missed)
    (hdisplay : (s.device.row f.row).display = .clean ∨ (s.device.row f.row).display = .queued ∨
      (s.device.row f.row).display = .moving) :
    FailsBy c s g f (darkened { s.device.row f.row with missed := 3 } .down .silent (s.device.row f.row).faultCell) := by
  let d := s.device
  let x := d.row f.row
  have hexec := exec_bad hc hf ht hbad
  have hcounted := countedPoll_eq g f d
  have hcap : min ((s.device.row f.row).missed + 1) 3 = 3 := by omega
  have hrow : (countedPoll f (endExchange g d)).row f.row = { x with
      missed := 3,
      pollWait := if f.use = .completionPoll ∧ (x.display = .moving ∨ exerciseStep d f.row = some .turning) then
        .running 50 else x.pollWait } := by
    rw [hcounted, Device.row_setRow_same, show min ((d.row f.row).missed + 1) 3 = 3 from hcap]
  have hother (q : RowNo) (hq : q ≠ f.row) : (countedPoll f (endExchange g d)).row q = d.row q := by
    rw [hcounted, Device.row_setRow_other _ _ _ _ hq]
    rfl
  have hcount : ChangesOnly [.rows] (d.setLine g (closedLine (d.line g))) (countedPoll f (endExchange g d)) := by
    rw [hcounted]
    exact setRow_changes _ _ _
  have hservice : ¬ (((endExchange g d).row f.row).display = .faulted ∨ stillAt (endExchange g d) g f = false) := by
    have hstill : stillAt (endExchange g d) g f = true := stillAt_iff.2 hunit
    refine not_or.2 ⟨?_, by simp [hstill]⟩
    show (s.device.row f.row).display ≠ .faulted
    obtain hd | hd | hd := hdisplay <;> simp [hd]
  have hwork : badAnswerTo g f d = enterDown f.row .silent (countedPoll f (endExchange g d)) := by
    rw [badAnswerTo_of_poll hbody, unansweredPoll_of_counted hservice]
    refine (if_pos hcap).trans (takenSilent_of_service ?_)
    rw [hrow]
    exact hdisplay
  have hunits' (q : RowNo) : ((countedPoll f (endExchange g d)).row q).rowUnit = (d.row q).rowUnit := by
    by_cases hq : q = f.row
    · rw [hq, hrow]
    · rw [hother q hq]
  have hfails := hsound.enterDown_fails hunit hstate hunits' (hcount.segment_eq (by simp)) (cause := .silent) (by simp)
  rw [hrow] at hfails
  refine ⟨_, hexec.trans (congrArg (fun e => Host.Outcome.next (⟨e, s.pending⟩ : State)) hwork), rfl,
    hfails.ofClosed hother (by rw [hrow]) hcount,
    ((setLine_changes d g _).mono (by simp)).trans ((hcount.mono (by simp)).trans ((enterDown_changes _ _ _).mono (by simp)))⟩

theorem listed_row_fails {n : Nat} (hstate : (s.device.segment g).state = .exercise) (hsound : LinesSound s.device)
    (hf : (s.device.line g).frame = some f) (ht : (s.device.line g).answerTimer = .running n)
    (hunit : (s.device.row f.row).rowUnit = some ⟨g, f.address⟩) :
    let d := s.device
    let x := d.row f.row
    (∀ addr state sum, c = .status g addr state sum false → goodAnswer c f = true → state.getLsbD 0 = false →
      (f.use = .completionPoll ∧ (x.display = .moving ∨ exerciseStep d f.row = some .turning)) ∨
        (f.use = .readinessPoll ∧ (x.display = .clean ∨ x.display = .queued)) →
      FailsBy c s g f (darkened { x with missed := 0 } .down .notReady x.faultCell)) ∧
    (answersOn c = some g → goodAnswer c f = false → f.body ≠ .poll → 2 ≤ (d.line g).retry →
      FailsBy c s g f (darkened x .down .silent x.faultCell)) ∧
    (answersOn c = some g → goodAnswer c f = false → f.body = .poll → 2 ≤ x.missed →
      x.display = .clean ∨ x.display = .queued ∨ x.display = .moving →
      FailsBy c s g f (darkened { x with missed := 3 } .down .silent x.faultCell)) := by
  intro d x
  refine ⟨fun addr state sum hc hgood hready hpoll => ?_, fun hc hbad hbody hretry => ?_,
    fun hc hbad hbody hmissed hdisplay => ?_⟩
  · subst hc
    have hexec := exec_good (c := .status g addr state sum false) (g := g) rfl hf ht hgood
    have hwork : polled g state f (heard g f (endExchange g d)) = enterDown f.row .notReady (heardBy g f d) := by
      have hunit' : ((heardBy g f d).row f.row).rowUnit = some ⟨g, f.address⟩ := (rowUnit_heardBy g f d _).trans hunit
      obtain ⟨hp, hturn⟩ | ⟨hp, hd⟩ := hpoll
      · have hturns : turns d f.row = true := turns_iff.2 hturn
        rw [heard_of_use ((ofUse_completion hunit hp).trans hturns), polled_of_completion hunit' hp,
          completionAnswer_of_turning ((turns_heardBy g f d).trans hturns), if_pos hready]
      · rw [heard_of_use (ofUse_readiness hunit hp (hd.imp id .inl)), polled_of_readiness hunit' hp,
          readinessAnswer_of_service (by rw [row_heardBy, if_pos rfl]; exact hd), if_neg (fun h => absurd (hready.symm.trans h) (by simp))]
    have hfails := hsound.enterDown_fails hunit hstate (rowUnit_heardBy g f d) (segment_heardBy g · f d) (cause := .notReady) (by simp)
    rw [row_heardBy, if_pos rfl] at hfails
    refine ⟨_, hexec.trans (congrArg (fun e => Host.Outcome.next (⟨e, s.pending⟩ : State)) hwork), rfl,
      hfails.ofClosed (fun q hq => by rw [row_heardBy, if_neg hq]) (by rw [row_heardBy, if_pos rfl]) (modRow_changes _ _ _),
      ((heardBy_changes g f d).mono (by simp)).trans ((enterDown_changes _ _ _).mono (by simp))⟩
  · have hexec := exec_bad hc hf ht hbad
    rw [badAnswerTo_of_final hbody hretry] at hexec
    have hfails := hsound.enterDown_fails (e := endExchange g d) hunit hstate (fun _ => rfl) (fun _ => rfl)
      (cause := .silent) (by simp)
    exact ⟨_, hexec, rfl, hfails, ((endExchange_changes g d).mono (by simp)).trans
      ((enterDown_changes _ _ _).mono (by simp))⟩
  · exact missed_poll_fails hstate hsound hf ht hunit hc hbad hbody hmissed hdisplay

/-- Settles O44: the list of EXERCISE, the echo by whether it agrees, and each way a listed row goes dark as one failure. -/
theorem exerciseListsComparesAndEnds : Obligations.ExerciseListsComparesAndEnds := by
  intro s d fails
  refine ⟨fun body g seed htakes hf => exercise_request htakes hf,
    fun g addr sum sensed f n hlen hf ht hu hgood hunit hst => echo_request hlen hf ht hu hgood hunit hst,
    fun c g f n hstate hsound hf ht hunit => listed_row_fails hstate hsound hf ht hunit,
    fun r u n hsound ht hu hstate hturn => ?_, fun g hsound hstate => ?_⟩
  · have hstall : ∃ cell, stallExpired r d = enterFaulted r .stalled cell d := by
      obtain ⟨hd, hsent⟩ | ⟨hd, hst⟩ := hturn
      · obtain ⟨image, himage⟩ := Option.ne_none_iff_exists'.1 hsent
        exact ⟨_, stallExpired_of_moving ht hu hd himage⟩
      · exact ⟨_, stallExpired_of_turning ht hu hd hst⟩
    obtain ⟨cell, hcell⟩ := hstall
    refine ⟨⟨enterFaulted r .stalled cell d, s.pending⟩, cell,
      congrArg (fun e => Host.Outcome.next (⟨e, s.pending⟩ : State)) hcell, rfl,
      hsound.enterFaulted_fails hu hstate (fun _ => rfl) (fun _ => rfl) .stalled cell,
      (enterFaulted_changes _ _ _ _).mono (by simp)⟩
  · exact ⟨exerciseCheck_goesOn hstate (hsound.nodup g) (hsound.listedOn g), (exerciseCheck_changes g d).mono (by simp)⟩

end Sys2Proof.Machine
end


section
/-! PROOFS. The composed image of a row (O36). -/

namespace Sys2Proof.Machine

/-! ## Cells by number -/

/-- What stands at a cell after a text has been placed. -/
theorem getElem?_placeText {cells : List Nat} {start : Nat} {t : Text} (h : start + t.length ≤ cells.length) (k : Nat) :
    (placeText cells start t)[k]? =
      if start ≤ k ∧ k < start + t.length then (t.map drumPosition)[k - start]? else cells[k]? := by
  have htake : (cells.take start).length = start := List.length_take_of_le (by omega)
  unfold placeText
  rw [List.append_assoc, List.getElem?_append, htake]
  by_cases hbefore : k < start
  · rw [if_pos hbefore, if_neg (by omega), List.getElem?_take_of_lt hbefore]
  · rw [if_neg hbefore, List.getElem?_append, List.length_map]
    by_cases hin : k < start + t.length
    · rw [if_pos (by omega), if_pos ⟨by omega, hin⟩]
    · rw [if_neg (by omega), if_neg (by omega), List.getElem?_drop]
      congr 1
      omega

theorem length_placeText {cells : List Nat} {start : Nat} {t : Text} (h : start + t.length ≤ cells.length) :
    (placeText cells start t).length = cells.length := by
  simp only [placeText, List.length_append, List.length_take, List.length_map, List.length_drop]
  omega

/-! ## The fields of a layout -/

/-- The fields of a layout, written one after another from a record. -/
def writeFields (x : Record) (fields : List Field) (cells : List Nat) : List Nat :=
  fields.foldl (fun c f => placeText c f.start (fieldText x true f.kind f.width)) cells

variable {x : Record} {fields : List Field} {cells : List Nat}

/-- The fields stand within the cells, and each is at least one cell wide. -/
def FieldsFit (fields : List Field) (cells : List Nat) : Prop :=
  ∀ f ∈ fields, 1 ≤ f.width ∧ f.start + f.width ≤ cells.length

theorem FieldsFit.head {f : Field} (h : FieldsFit (f :: fields) cells) (x : Record) :
    f.start + (fieldText x true f.kind f.width).length ≤ cells.length := by
  obtain ⟨hwidth, hfits⟩ := h f (by simp)
  rw [length_fieldText x true f.kind hwidth]
  exact hfits

theorem FieldsFit.tail {f : Field} (h : FieldsFit (f :: fields) cells) (x : Record) :
    FieldsFit fields (placeText cells f.start (fieldText x true f.kind f.width)) := fun g hg => by
  rw [length_placeText (h.head x)]
  exact h g (by simp [hg])

theorem length_writeFields (h : FieldsFit fields cells) : (writeFields x fields cells).length = cells.length := by
  induction fields generalizing cells with
  | nil => rfl
  | cons f fields ih => exact (ih (h.tail x)).trans (length_placeText (h.head x))

theorem getElem?_writeFields_outside (h : FieldsFit fields cells) {k : Nat}
    (hk : ∀ f ∈ fields, k < f.start ∨ f.start + f.width ≤ k) : (writeFields x fields cells)[k]? = cells[k]? := by
  induction fields generalizing cells with
  | nil => rfl
  | cons f fields ih =>
    obtain ⟨hwidth, -⟩ := h f (by simp)
    have hf := hk f (by simp)
    refine (ih (h.tail x) fun g hg => hk g (by simp [hg])).trans ?_
    rw [getElem?_placeText (h.head x), length_fieldText x true f.kind hwidth, if_neg (by omega)]

theorem fieldsDisjoint_cons {f : Field} : fieldsDisjoint (f :: fields) = true ↔
    (∀ g ∈ fields, f.start + f.width ≤ g.start ∨ g.start + g.width ≤ f.start) ∧ fieldsDisjoint fields = true := by
  simp [fieldsDisjoint]

theorem getElem?_writeFields_inside (h : FieldsFit fields cells) (hd : fieldsDisjoint fields = true) {f : Field}
    (hf : f ∈ fields) {j : Nat} (hj : j < f.width) :
    (writeFields x fields cells)[f.start + j]? = ((fieldText x true f.kind f.width).map drumPosition)[j]? := by
  induction fields generalizing cells with
  | nil => simp at hf
  | cons g fields ih =>
    obtain ⟨hapart, hrest⟩ := fieldsDisjoint_cons.1 hd
    obtain rfl | hmem := List.mem_cons.1 hf
    · refine (getElem?_writeFields_outside (h.tail x) fun k hk => ?_).trans ?_
      · have := hapart k hk
        omega
      · rw [getElem?_placeText (h.head x), length_fieldText x true f.kind (by omega), if_pos (by omega),
          Nat.add_sub_cancel_left]
    · exact ih (h.tail x) hrest hmem

/-- The cells of a field hold the drum positions of its text (R97). -/
theorem cells_writeFields (h : FieldsFit fields cells) (hd : fieldsDisjoint fields = true) {f : Field} (hf : f ∈ fields) :
    ((writeFields x fields cells).drop f.start).take f.width = (fieldText x true f.kind f.width).map drumPosition := by
  obtain ⟨hwidth, -⟩ := h f hf
  refine List.ext_getElem? fun j => ?_
  by_cases hj : j < f.width
  · rw [List.getElem?_take_of_lt hj, List.getElem?_drop, getElem?_writeFields_inside h hd hf hj]
  · rw [List.getElem?_take_eq_none (by omega), List.getElem?_eq_none]
    rw [List.length_map, length_fieldText x true f.kind hwidth]
    omega

/-! ## O36 -/

theorem composeCells_of_bound {d : Device} {y : Row} {i : Slot} (h : y.binding = some i) :
    composeCells d y = writeFields (d.slot i) (d.layout y.layout) blankCells := by
  unfold composeCells
  rw [h]
  rfl

theorem composeCells_of_unbound {d : Device} {y : Row} (h : y.binding = none) : composeCells d y = blankCells := by
  unfold composeCells
  rw [h]

theorem composeImage_of_bound {d : Device} {s : Segment} {y : Row} {i : Slot} (h : y.binding = some i) :
    composeImage d s y = ⟨composeCells d y, tickUp (d.slot i).tick, tickDown (d.slot i).tick,
      s.hold != 0 && (lastTextChanged d y (composeCells d y) || y.holdTimer.isRunning)⟩ := by
  unfold composeImage
  rw [h]

theorem composeImage_of_unbound {d : Device} {s : Segment} {y : Row} (h : y.binding = none) :
    composeImage d s y = ⟨composeCells d y, lampsOff⟩ := by
  unfold composeImage
  rw [h]

/-- The LAST text differs in a LAST field, for a row that shows the slot it is bound to (R98). -/
theorem lastTextChanged_iff {d : Device} {y : Row} {i : Slot} (h : y.binding = some i) (cells : List Nat) :
    lastTextChanged d y cells = true ↔
      ∃ f shown, ((d.layout y.layout).filter (fun f => f.kind == .last)).head? = some f ∧ y.shown = some shown ∧
        y.shownSlot = some i ∧ (cells.drop f.start).take f.width ≠ (shown.cells.drop f.start).take f.width := by
  unfold lastTextChanged
  rw [h, List.head?_filter]
  cases (d.layout y.layout).find? (fun f => f.kind == .last) with
  | none => simp
  | some f =>
    cases y.shown with
    | none => simp
    | some shown => simp

theorem isRunning_iff {t : Timer} : t.isRunning = true ↔ ∃ n, t = .running n := by
  cases t <;> simp [Timer.isRunning]

/-- Settles O36: the cells field by field, and the lamps by the tick and the hold. -/
theorem composedImageShowsTheRecord : Obligations.ComposedImageShowsTheRecord := by
  intro d s y fields image hdisjoint hwithin
  have hfit : FieldsFit fields blankCells := hwithin
  refine ⟨?_, fun hb => ?_, fun i hb => ?_⟩
  · show (composeImage d s y).cells.length = 32
    cases hb : y.binding with
    | none =>
      rw [composeImage_of_unbound hb, composeCells_of_unbound hb]
      rfl
    | some i =>
      rw [composeImage_of_bound hb, composeCells_of_bound hb]
      exact length_writeFields hfit
  · show composeImage d s y = _
    rw [composeImage_of_unbound hb, composeCells_of_unbound hb]
    rfl
  · have himage : image = _ := composeImage_of_bound hb
    have hcells : image.cells = writeFields (d.slot i) fields blankCells := by
      rw [himage]
      exact composeCells_of_bound hb
    refine ⟨fun f hf => ?_, fun k hk hout => ?_, ?_, ?_, ?_⟩
    · rw [hcells, cells_writeFields hfit hdisjoint hf]
    · rw [hcells, getElem?_writeFields_outside hfit hout]
      exact List.getElem?_replicate_of_lt hk
    · rw [himage]
      simp [tickUp]
    · rw [himage]
      simp [tickDown]
    · have hsame : composeCells d y = image.cells := by rw [himage]
      rw [← lastTextChanged_iff hb image.cells, ← isRunning_iff, ← hsame, himage]
      show (s.hold != 0 && (lastTextChanged d y (composeCells d y) || y.holdTimer.isRunning)) = true ↔ _
      rw [Bool.and_eq_true, Bool.or_eq_true, bne_iff_ne, or_comm]

end Sys2Proof.Machine
end


section
/-! PROOFS. The reset input and the handshake of the host channel (O2 to O6). -/

namespace Sys2Proof.Machine

variable {d e : Device} {s : State} {c : Instr} {kind : Byte} {body : List Byte}

theorem terminal_modTerminal (d : Device) (t u : LineNo) (f : Terminal → Terminal) :
    (d.modTerminal t f).terminal u = if u = t then f (d.terminal t) else d.terminal u := Device.terminal_setTerminal d t u _

/-! ## Requests by their frames -/

/-- A command that its frame does not spell: a frame of a kind that names a request, or one half of a request whose frame
carries the other half's action or mode. -/
def strays : Instr → Bool
  | .unknownKind kind _ => decide (kind ∈ requestKinds)
  | .setStateOpen body => carriesAction .haltWord body
  | .setStateHalt body => carriesAction .openWord body
  | .ribbonStopImmediate body => carriesMode .drain body
  | .ribbonStopDrain body => carriesMode .immediate body
  | _ => false

theorem onDevice_unless {p : Prop} [Decidable p] {b : Bool} (h : b = true ↔ p) (f : Device → Device) (s : State) :
    onDevice (fun d => if p then d else f d) s = if b = true then .next s else onDevice f s := by
  by_cases hp : p
  · rw [if_pos (h.2 hp)]
    exact congrArg (fun e => Host.Outcome.next (⟨e, s.pending⟩ : State)) (if_pos hp)
  · rw [if_neg (mt h.1 hp)]
    exact congrArg (fun e => Host.Outcome.next (⟨e, s.pending⟩ : State)) (if_neg hp)

theorem workOf_of_unknown (h : kind ∉ requestKinds) : workOf kind = workUnknownKind := by
  have hfind : requestWork.find? (fun p => p.1 == kind) = none := by
    refine List.find?_eq_none.2 fun p hp hkind => h ?_
    have hmem : p.1 ∈ requestWork.map (·.1) := List.mem_map_of_mem hp
    rw [beq_iff_eq.1 hkind] at hmem
    exact hmem
  unfold workOf
  rw [hfind]

/-- A request command runs the work of its kind on its body, unless its frame does not spell it. -/
theorem exec_of_requestFrame (h : c.requestFrame = some (kind, body)) :
    exec c s = if strays c = true then .next s else onDevice (request kind body (workOf kind body)) s := by
  unfold Instr.requestFrame at h
  split at h
  case h_1 =>
    cases h
    by_cases hk : kind ∈ requestKinds
    · exact (onDevice_unless (b := true) (by simp [hk]) _ s).trans (by simp [strays, hk])
    · rw [workOf_of_unknown hk]
      exact onDevice_unless (by simp [strays]) _ s
  case h_7 => cases h; exact onDevice_unless Iff.rfl _ s
  case h_8 => cases h; exact onDevice_unless Iff.rfl _ s
  case h_15 => cases h; exact onDevice_unless Iff.rfl _ s
  case h_16 => cases h; exact onDevice_unless Iff.rfl _ s
  case h_31 => simp at h
  all_goals
    cases h
    rfl

theorem notAction_eq (w : StateWord) (body : List Byte) : notAction w body = !carriesAction w body := by
  unfold notAction carriesAction
  cases readSetState body <;> rfl

theorem notMode_eq (m : StopMode) (body : List Byte) : notMode m body = !carriesMode m body := by
  unfold notMode carriesMode
  cases readRibbonStop body <;> rfl

/-- A well-formed request command is spelled by its frame. -/
theorem strays_of_wellFormed (h : c.wellFormed = true) : strays c = false := by
  unfold strays
  split <;> simp_all [Instr.wellFormed, notAction_eq, notMode_eq]

theorem carriesAction_haltWord (body : List Byte) : carriesAction .haltWord body = haltFrame body := by
  unfold carriesAction haltFrame
  cases readSetState body with
  | error code => rfl
  | ok f =>
    obtain ⟨i, w⟩ := f
    cases w <;> rfl

theorem carriesMode_drain (body : List Byte) : carriesMode .drain body = drainFrame body := by
  unfold carriesMode drainFrame
  cases readRibbonStop body with
  | error code => rfl
  | ok f =>
    obtain ⟨r, m⟩ := f
    cases m <;> rfl

theorem carriesAction_openWord (h : haltFrame body = true) : carriesAction .openWord body = false := by
  rw [← carriesAction_haltWord] at h
  unfold carriesAction at h ⊢
  cases hf : readSetState body with
  | error code => rfl
  | ok f =>
    rw [hf] at h
    have hw := beq_iff_eq.1 h
    exact beq_false_of_ne (by rw [hw]; simp)

theorem carriesMode_immediate (h : drainFrame body = true) : carriesMode .immediate body = false := by
  rw [← carriesMode_drain] at h
  unfold carriesMode at h ⊢
  cases hf : readRibbonStop body with
  | error code => rfl
  | ok f =>
    rw [hf] at h
    have hw := beq_iff_eq.1 h
    exact beq_false_of_ne (by rw [hw]; simp)

/-- The command carries the frame, and the frame spells it. -/
def Spells (kind : Byte) (body : List Byte) (c : Instr) : Prop := c.requestFrame = some (kind, body) ∧ strays c = false

theorem Spells.ite {p : Prop} [Decidable p] {a b : Instr} (ha : p → Spells kind body a) (hb : ¬ p → Spells kind body b) :
    Spells kind body (if p then a else b) := by
  split
  · next hp => exact ha hp
  · next hp => exact hb hp

/-- The command that a frame spells, kind by kind. -/
theorem spells_requestCommand (kind : Byte) (body : List Byte) : Spells kind body (requestCommand kind body) := by
  unfold requestCommand
  iterate 5 refine .ite (fun h => ⟨h ▸ rfl, rfl⟩) fun _ => ?_
  refine .ite (fun h => .ite (fun hw => ⟨h ▸ rfl, carriesAction_openWord hw⟩)
    fun hw => ⟨h ▸ rfl, (carriesAction_haltWord body).trans (by simpa using hw)⟩) fun _ => ?_
  iterate 6 refine .ite (fun h => ⟨h ▸ rfl, rfl⟩) fun _ => ?_
  refine .ite (fun h => .ite (fun hm => ⟨h ▸ rfl, carriesMode_immediate hm⟩)
    fun hm => ⟨h ▸ rfl, (carriesMode_drain body).trans (by simpa using hm)⟩) fun _ => ?_
  iterate 14 refine .ite (fun h => ⟨h ▸ rfl, rfl⟩) fun _ => ?_
  exact ⟨rfl, by simp [strays, requestKinds, *]⟩

/-- The command that a frame spells runs the work of the frame's kind. -/
theorem exec_requestCommand (kind : Byte) (body : List Byte) (s : State) :
    exec (requestCommand kind body) s = onDevice (request kind body (workOf kind body)) s := by
  obtain ⟨hframe, hstrays⟩ := spells_requestCommand kind body
  rw [exec_of_requestFrame hframe, if_neg (by simp [hstrays])]

/-! ## O2 -/

theorem takesRequest_of_held (h : d.resetHeld = true) (kind : Byte) (body : List Byte) : takesRequest kind body d = false := by
  simp [takesRequest, h]

theorem request_of_held (h : d.resetHeld = true) (work : Device → Device × Answer) : request kind body work d = d :=
  if_neg (by simp [takesRequest_of_held h])

theorem exec_of_same {f : Device → Device} (h : f s.device = s.device) : onDevice f s = .next s :=
  congrArg (fun e => Host.Outcome.next (⟨e, s.pending⟩ : State)) h

/-- While the reset input is held no command of the channel does anything. -/
theorem exec_of_held (h : s.device.resetHeld = true) (hc : c.ofChannel = true) : exec c s = .next s := by
  have hreplying : replying s.device = false := by simp [replying, h]
  unfold Instr.ofChannel at hc
  split at hc
  · exact exec_of_same (if_neg (by simp [h]))
  · exact exec_of_same (f := abandonFrame) (if_neg (by simp [h]))
  · exact exec_of_same (f := takeReply) (if_neg (by simp [hreplying]))
  · exact exec_of_same (f := abandonReply) (if_neg (by simp [hreplying]))
  · exact exec_of_same (if_pos h)
  · exact exec_of_same (f := takeReplyByte) (if_neg (by simp [hreplying]))
  · obtain ⟨⟨kind, body⟩, hframe⟩ := Option.isSome_iff_exists.1 hc
    rw [exec_of_requestFrame hframe]
    split
    · rfl
    · exact exec_of_same (request_of_held h _)

/-- What a change of one terminal after another leaves of a line, each line changed once. -/
theorem terminal_forEach_modTerminal {l : List LineNo} (hl : l.Nodup) (f : LineNo → Terminal → Terminal) (d : Device)
    (t : LineNo) : (forEach l (fun t e => e.modTerminal t (f t)) d).terminal t =
      if t ∈ l then f t (d.terminal t) else d.terminal t := by
  induction l generalizing d with
  | nil => rfl
  | cons u l ih =>
    obtain ⟨hu, hl⟩ := List.nodup_cons.1 hl
    rw [forEach_cons, ih hl, terminal_modTerminal]
    by_cases ht : t = u
    · subst ht
      simp [hu]
    · simp [ht]

theorem terminal_powerOnAgain (d : Device) (t : LineNo) :
    (powerOnAgain d).terminal t = { Terminal.powerOn with present := (d.terminal t).present } :=
  (terminal_forEach_modTerminal (List.nodup_finRange 16) (fun t x => { x with present := (d.terminal t).present })
    Device.powerOn t).trans (if_pos (List.mem_finRange t))

theorem powerOn_powerOn : PowerOn Device.powerOn :=
  ⟨rfl, rfl, rfl, rfl, rfl, ⟨rfl, rfl, rfl, rfl, rfl, rfl, rfl, rfl, rfl, rfl, rfl⟩, fun _ => rfl, fun _ => rfl,
    fun _ => ⟨rfl, rfl, rfl, rfl, rfl, rfl, rfl, rfl, rfl⟩, fun _ => ⟨rfl, rfl⟩, fun _ => rfl,
    fun _ => ⟨rfl, rfl, rfl, rfl, rfl, rfl, rfl, rfl, rfl, rfl, rfl, rfl, rfl, rfl, rfl, rfl, rfl, rfl⟩,
    fun _ => ⟨rfl, rfl⟩, fun _ => rfl⟩

/-- The power-on values but for the terminal lines make power-on, whatever the line-present levels. -/
theorem powerOn_powerOnAgain (d : Device) : PowerOn (powerOnAgain d) := by
  have hchanges := powerOnAgain_changes d
  obtain ⟨hheld, hnotices, hdirectory, htape, hwatches, hchannel, hslots, hribbons, hsegments, hlines, hlayouts, hrows, -,
    hdealers⟩ := powerOn_powerOn
  have hch : (powerOnAgain d).channel = Device.powerOn.channel := by
    rw [Channel.eq_of_link (hchanges .link (by simp)), show _ = _ from hchanges .reservation (by simp),
      show _ = _ from hchanges .settle (by simp)]
  refine ⟨(hchanges .resetHeld (by simp)).trans hheld, (hchanges .notices (by simp)).trans hnotices,
    (hchanges .directory (by simp)).trans hdirectory, (congrArg Tape.entries (hchanges .tape (by simp))).trans htape,
    (hchanges .watches (by simp)).trans hwatches, by rw [hch]; exact hchannel, fun i => ?_, fun r => ?_, fun g => ?_,
    fun g => ?_, fun l => ?_, fun r => ?_, fun t => ?_, fun t => ?_⟩
  · rw [hchanges.slot_eq (by simp)]; exact hslots i
  · rw [hchanges.ribbon_eq (by simp)]; exact hribbons r
  · rw [hchanges.segment_eq (by simp)]; exact hsegments g
  · have hstate : (powerOnAgain d).lineState g = Device.powerOn.lineState g := by
      unfold Device.lineState
      rw [hchanges.segment_eq (by simp), hchanges.line_eq (by simp)]
    rw [hchanges.line_eq (by simp), hstate]
    exact hlines g
  · rw [hchanges.layout_eq (by simp)]; exact hlayouts l
  · rw [hchanges.row_eq (by simp)]; exact hrows r
  · rw [terminal_powerOnAgain]; exact ⟨rfl, rfl⟩
  · rw [hchanges.dealer_eq (by simp)]; exact hdealers t

/-- Settles O2: no command of the channel runs while reset is held, and a release writes the power-on values. -/
theorem resetHoldsAndReleasesThePart : Obligations.ResetHoldsAndReleasesThePart := by
  refine ⟨fun _ => rfl, fun d h => ?_, fun c s h hc => exec_of_held h hc,
    fun s => ⟨⟨powerOnAgain s.device, s.pending⟩, rfl, rfl, powerOn_powerOnAgain s.device, fun l => ?_⟩,
    powerOn_powerOn, rfl, fun _ => rfl⟩
  · simp [Device.busy, Device.attention, h]
  · rw [terminal_powerOnAgain]

/-! ## O3 and O4 -/

theorem takeByte_of_running (h : d.resetHeld = false) (b : Byte) : takeByte b d =
    match d.channel.state with
    | .idle =>
      if badCount b then badCountReply d
      else d.setChannel { d.channel with state := .receiving, assembly := [b], gapTimer := .running Config.gapTime }
    | .receiving => takeFrameByte b d
    | .working => d
    | .replying => d := if_neg (by simp [h])

theorem takeByte_of_idle {b : Byte} (h : d.resetHeld = false) (hs : d.channel.state = .idle) : takeByte b d =
    if badCount b then badCountReply d
    else d.setChannel { d.channel with state := .receiving, assembly := [b], gapTimer := .running Config.gapTime } := by
  rw [takeByte_of_running h, hs]

theorem takeByte_of_receiving {b : Byte} (h : d.resetHeld = false) (hs : d.channel.state = .receiving) :
    takeByte b d = takeFrameByte b d := by
  rw [takeByte_of_running h, hs]

theorem takeByte_of_replying {b : Byte} (h : d.resetHeld = false) (hs : d.channel.state = .replying) :
    takeByte b d = d := by
  rw [takeByte_of_running h, hs]

theorem badCount_iff {b : Byte} : badCount b = true ↔ b = 0 ∨ b = 255 := by
  simp [badCount]

/-- A byte inside a frame is kept, and the gap timer starts again (R164). -/
theorem takeFrameByte_of_inside {b count : Byte} {got : List Byte} (h : d.channel.assembly = count :: got)
    (hlen : got.length + 1 < count.toNat) : takeFrameByte b d =
      d.setChannel { d.channel with assembly := count :: (got ++ [b]), gapTimer := .running Config.gapTime } := by
  unfold takeFrameByte
  rw [h]
  cases got with
  | nil => exact if_neg (by simp at hlen ⊢; omega)
  | cons kind body => exact if_neg (by simp at hlen ⊢; omega)

/-- The last byte of a frame runs the request (R164). -/
theorem takeFrameByte_of_last {b : Byte} (hlen : body.length ≤ 253) (h : d.channel.assembly ++ [b] = frameOf kind body) :
    takeFrameByte b d = request kind body (workOf kind body) d := by
  unfold takeFrameByte
  rw [h]
  exact if_pos (byte_toNat (by omega)).symm

/-- Settles O3: the count byte, the bytes inside a frame and the last one, by what the assembly holds. -/
theorem writtenBytesBuildTheRequest : Obligations.WrittenBytesBuildTheRequest := by
  intro s b hheld d x
  have hexec {e : Device} (h : takeByte b d = e) : exec (.requestByteWritten b) s = .next ⟨e, s.pending⟩ :=
    congrArg (fun e => Host.Outcome.next (⟨e, s.pending⟩ : State)) h
  refine ⟨fun hidle h0 h255 => hexec ?_, fun hidle hb => ⟨hexec ?_, ?_⟩, fun hrec count got hgot hlen => hexec ?_,
    fun hrec kind body hlen hframe => ?_, fun hrep => hexec (takeByte_of_replying hheld hrep)⟩
  · rw [takeByte_of_idle hheld hidle, if_neg (mt badCount_iff.1 (not_or.2 ⟨h0, h255⟩))]
    rfl
  · rw [takeByte_of_idle hheld hidle, if_pos (badCount_iff.2 hb)]
    rfl
  · exact congrArg (fun e => Host.Outcome.next (⟨e, s.pending⟩ : State)) (if_pos (by simp [badCount_iff.2 hb, hheld, hidle, d, x] ))
  · rw [takeByte_of_receiving hheld hrec, takeFrameByte_of_inside hgot hlen]
    rfl
  · rw [exec_requestCommand, hexec ((takeByte_of_receiving hheld hrec).trans (takeFrameByte_of_last hlen hframe))]
    rfl

/-- The device after the first bytes of a frame, written from IDLE. -/
def receiving (got : List Byte) (d : Device) : Device :=
  d.setChannel { d.channel with state := .receiving, assembly := got, gapTimer := .running 100 }

theorem takesRequest_of_idle (hheld : d.resetHeld = false) (hidle : d.channel.state = .idle) (hlen : body.length ≤ 253) :
    takesRequest kind body d = true := by
  simp [takesRequest, hheld, hidle, Config.maxBody, hlen]

/-- A request finds nothing of the way its frame has been written. -/
theorem request_receiving (hheld : d.resetHeld = false) (hidle : d.channel.state = .idle) (hlen : body.length ≤ 253)
    (work : Device → Device × Answer) :
    request kind body work (receiving (frameOf kind body).dropLast d) = request kind body work d := by
  have htakes : takesRequest kind body (receiving (frameOf kind body).dropLast d) = true := by
    simp [takesRequest, receiving, hheld, Config.maxBody, hlen]
  rw [request_of_taken htakes, request_of_taken (takesRequest_of_idle hheld hidle hlen)]
  rfl

theorem steps_requestByteWritten {b : Byte} {rest : List Instr} (n : Nat) (d : Device) :
    steps (n + 1) ⟨d, .requestByteWritten b :: rest⟩ = steps n ⟨takeByte b d, rest⟩ := rfl

theorem takeByte_of_count {b : Byte} (hheld : d.resetHeld = false) (hidle : d.channel.state = .idle) (h0 : b ≠ 0)
    (h255 : b ≠ 255) : takeByte b d = receiving [b] d := by
  rw [takeByte_of_idle hheld hidle, if_neg (mt badCount_iff.1 (not_or.2 ⟨h0, h255⟩))]
  rfl

theorem takeByte_receiving {b count : Byte} {got : List Byte} (hheld : d.resetHeld = false)
    (hlen : got.length + 1 < count.toNat) :
    takeByte b (receiving (count :: got) d) = receiving (count :: (got ++ [b])) d :=
  (takeByte_of_receiving (d := receiving (count :: got) d) hheld rfl).trans (takeFrameByte_of_inside rfl hlen)

/-- The bytes of a frame from a place inside it to the end, one step each. -/
theorem steps_receiving {count : Byte} {got left : List Byte} {rest : List Instr} (hheld : d.resetHeld = false)
    (hidle : d.channel.state = .idle) (hlen : body.length ≤ 253) (hcount : count = byte (body.length + 1))
    (hframe : got ++ left = kind :: body) (hleft : left ≠ []) :
    steps left.length ⟨receiving (count :: got) d, left.map .requestByteWritten ++ rest⟩ =
      exec (requestCommand kind body) ⟨d, rest⟩ := by
  have hlength : got.length + left.length = body.length + 1 := by
    rw [← List.length_append, hframe, List.length_cons]
  have hcountNat : count.toNat = body.length + 1 := by rw [hcount, byte_toNat (by omega)]
  induction left generalizing got with
  | nil => exact absurd rfl hleft
  | cons b left ih =>
    rw [List.length_cons, List.map_cons, List.cons_append, steps_requestByteWritten]
    by_cases hlast : left = []
    · subst hlast
      have hwhole : (receiving (count :: got) d).channel.assembly ++ [b] = frameOf kind body := by
        rw [frameOf, ← hframe, hcount]
        rfl
      have hgot : count :: got = (frameOf kind body).dropLast := by
        rw [← hwhole, List.dropLast_concat]
        rfl
      rw [exec_requestCommand, takeByte_of_receiving (d := receiving (count :: got) d) hheld rfl,
        takeFrameByte_of_last hlen hwhole, hgot, request_receiving hheld hidle hlen]
      rfl
    · have hpos : 0 < left.length := List.length_pos_of_ne_nil hlast
      rw [List.length_cons] at hlength
      rw [takeByte_receiving hheld (by omega)]
      refine ih (by rw [List.append_assoc]; exact hframe) hlast ?_
      rw [List.length_append]
      simp only [List.length_singleton]
      omega

/-- Settles O4: the count byte begins the frame, and each further byte is one step nearer to the request. -/
theorem frameByBytesIsTheCommand : Obligations.FrameByBytesIsTheCommand := by
  intro s kind body rest hheld hidle hlen hpending
  obtain ⟨d, pending⟩ := s
  dsimp only at hheld hidle hpending ⊢
  subst hpending
  have hcount : (byte (body.length + 1)).toNat = body.length + 1 := byte_toNat (by omega)
  have hfirst : takeByte (byte (body.length + 1)) d = receiving [byte (body.length + 1)] d :=
    takeByte_of_count hheld hidle (fun h => absurd (hcount.symm.trans (congrArg BitVec.toNat h)) (by simp))
      (fun h => absurd (hcount.symm.trans (congrArg BitVec.toNat h)) (by simp; omega))
  rw [List.map_cons, List.cons_append, show body.length + 2 = body.length + 1 + 1 from rfl, steps_requestByteWritten, hfirst]
  exact steps_receiving (left := kind :: body) (got := []) hheld hidle hlen rfl rfl (by simp)

/-! ## O5 -/

theorem abandonFrame_of_receiving {n : Nat} (hheld : d.resetHeld = false) (hs : d.channel.state = .receiving)
    (ht : d.channel.gapTimer = .running n) : abandonFrame d = (d.setChannel { d.channel with
      state := .idle, assembly := [], gapTimer := .stopped,
      framesAbandoned := min (d.channel.framesAbandoned + 1) 255, cause := .frameAbandoned }).raise .channel :=
  if_pos (by simp [hheld, hs, ht, Timer.isRunning])

theorem abandonFrame_of_other (h : d.channel.state ≠ .receiving ∨ d.channel.gapTimer = .stopped) : abandonFrame d = d := by
  refine if_neg ?_
  obtain hs | ht := h
  · simp [hs]
  · simp [ht, Timer.isRunning]

/-- The channel with an abandoned reply counted (R167). -/
def abandonedChannel (x : Channel) : Channel :=
  { x with
    state := .idle, reply := ⟨[], 0, none, false⟩, replyTimer := .stopped,
    repliesAbandoned := min (x.repliesAbandoned + 1) 255, cause := .replyAbandoned, abandonedKind := x.reply.bytes[1]? }

/-- The flag that an abandoned COLLECT had taken is set again (R172). -/
def raiseAgain (n : Option Notice) (d : Device) : Device := n.elim d d.raise

theorem abandonReply_of_replying {n : Nat} (hheld : d.resetHeld = false) (hs : d.channel.state = .replying)
    (ht : d.channel.replyTimer = .running n) : abandonReply d =
      (raiseAgain d.channel.reply.collected (d.setChannel (abandonedChannel d.channel))).raise .channel := by
  unfold abandonReply
  rw [if_pos (by simp [replying, hheld, hs, ht, Timer.isRunning])]
  dsimp only
  cases d.channel.reply.collected <;> rfl

theorem abandonReply_of_other (h : d.channel.state ≠ .replying ∨ d.channel.replyTimer = .stopped) : abandonReply d = d := by
  refine if_neg ?_
  obtain hs | ht := h
  · simp [replying, hs]
  · simp [ht, Timer.isRunning]

theorem raiseAgain_changes (n : Option Notice) (d : Device) : ChangesOnly [.notices] d (raiseAgain n d) := by
  cases n with
  | none => exact .refl _ d
  | some n => exact raise_changes d n

theorem channel_raise (d : Device) (n : Notice) : (d.raise n).channel = d.channel := by
  unfold Device.raise
  split <;> rfl

theorem channel_raiseAgain (n : Option Notice) (d : Device) : (raiseAgain n d).channel = d.channel := by
  cases n with
  | none => rfl
  | some n => exact channel_raise d n

theorem mem_raiseAgain (n : Option Notice) (d : Device) (m : Notice) :
    m ∈ (raiseAgain n d).notices ↔ n = some m ∨ m ∈ d.notices := by
  cases n with
  | none => simp [raiseAgain]
  | some n => simp [raiseAgain, mem_raise, eq_comm]

/-- Settles O5: each timer by whether the channel waits on it. -/
theorem channelTimersAbandonAndCount : Obligations.ChannelTimersAbandonAndCount := by
  intro s hheld x
  refine ⟨fun hs left ht => ?_, fun h => exec_of_same (abandonFrame_of_other h), fun hs left ht => ?_,
    fun h => exec_of_same (abandonReply_of_other h)⟩
  · exact congrArg (fun e => Host.Outcome.next (⟨e, s.pending⟩ : State)) (abandonFrame_of_receiving hheld hs ht)
  · have hreply := abandonReply_of_replying hheld hs ht
    refine ⟨⟨abandonReply s.device, s.pending⟩, rfl, rfl, ?_, ?_, fun n => ?_⟩
    · rw [hreply]
      have hset : ChangesOnly [.link] s.device (s.device.setChannel (abandonedChannel x)) := setChannel_link rfl rfl
      exact (hset.andThen (raiseAgain_changes _ _) (n := [.link, .notices]) (by simp) (by simp)).trans
        ((raise_changes _ _).mono (by simp))
    · rw [hreply, channel_raise, channel_raiseAgain]
      rfl
    · rw [hreply, mem_raise, mem_raiseAgain]
      show n = .channel ∨ x.reply.collected = some n ∨ n ∈ s.device.notices ↔ _
      tauto

/-! ## O6 -/

theorem takeReply_of_replying (hheld : d.resetHeld = false) (hs : d.channel.state = .replying) : takeReply d = finishReply d :=
  if_pos (by simp [replying, hheld, hs])

theorem takeReplyByte_of_replying (hheld : d.resetHeld = false) (hs : d.channel.state = .replying) : takeReplyByte d =
    if d.channel.reply.taken + 1 < d.channel.reply.bytes.length then
      d.setChannel { d.channel with
        reply := { d.channel.reply with taken := d.channel.reply.taken + 1 }, replyTimer := .running Config.replyTime }
    else finishReply d := if_pos (by simp [replying, hheld, hs])

theorem closeReply_changes (d : Device) : ChangesOnly [.link] d (d.setChannel (closedReply d.channel)) :=
  setChannel_link rfl rfl

theorem clearCounts_changes (d : Device) : ChangesOnly [.link] d (d.setChannel (clearedCounts d.channel)) :=
  setChannel_link rfl rfl

theorem collectTaken_changes (x : Reply) (d : Device) : ChangesOnly [.link, .dealers] d (collectTaken x d) := by
  unfold collectTaken
  split
  · exact .ite ((modDealer_changes d _ _).mono (by simp)) (.refl _ d)
  · exact (clearCounts_changes d).mono (by simp)
  · exact .refl _ d

theorem channel_collectTaken (x : Reply) (d : Device) : (collectTaken x d).channel =
    if x.collected = some .channel then clearedCounts d.channel else d.channel := by
  unfold collectTaken
  split
  · next h =>
    rw [if_neg (show x.collected ≠ some .channel by simp [h])]
    split <;> rfl
  · next h => exact (if_pos h).symm
  · next h => exact (if_neg h).symm

theorem dealer_modDealer (d : Device) (t u : LineNo) (f : Dealer → Dealer) :
    (d.modDealer t f).dealer u = if u = t then f (d.dealer t) else d.dealer u := Device.dealer_setDealer d t u _

theorem dealer_collectTaken (x : Reply) (d : Device) (l : LineNo) : (collectTaken x d).dealer l =
    if x.collected = some (.terminal l) ∧ x.carriesText = true then { d.dealer l with forward := [] } else d.dealer l := by
  unfold collectTaken
  split
  · next t h =>
    rw [h]
    by_cases hc : x.carriesText = true
    · rw [if_pos hc, dealer_modDealer]
      by_cases hl : l = t
      · simp [hl, hc]
      · simp [hl, Ne.symm hl]
    · simp [hc]
  · next h =>
    rw [h]
    simp
  · next h _ => rw [if_neg (fun hc => h _ hc.1)]

/-- Settles O6: the last byte by what the reply carried, a byte before it by the count of bytes taken. -/
theorem takenReplyFreesTheChannel : Obligations.TakenReplyFreesTheChannel := by
  intro s hheld hs d x closed
  have htaken : exec .replyTaken s = .next ⟨finishReply d, s.pending⟩ :=
    congrArg (fun e => Host.Outcome.next (⟨e, s.pending⟩ : State)) (takeReply_of_replying hheld hs)
  have hbyte := takeReplyByte_of_replying hheld hs
  refine ⟨⟨_, htaken, rfl, ?_, channel_collectTaken _ _, dealer_collectTaken _ _⟩, fun h => ?_, fun h => ?_⟩
  · exact ((closeReply_changes d).mono (by simp)).trans (collectTaken_changes _ _)
  · rw [if_pos h] at hbyte
    exact congrArg (fun e => Host.Outcome.next (⟨e, s.pending⟩ : State)) hbyte
  · rw [if_neg h] at hbyte
    rw [htaken]
    exact congrArg (fun e => Host.Outcome.next (⟨e, s.pending⟩ : State)) hbyte

end Sys2Proof.Machine
end


section
/-! PROOFS. The common checks and the refusals (O7, O8). -/

namespace Sys2Proof.Machine

variable {d e : Device} {s : State} {c : Instr} {kind : Byte} {body : List Byte}

/-! ## The work of a kind -/

theorem request_of_not_taken (h : takesRequest kind body d = false) (work : Device → Device × Answer) :
    request kind body work d = d := if_neg (by simp [h])

theorem workOf_cases (kind : Byte) :
    (kind ∉ requestKinds ∧ workOf kind = workUnknownKind) ∨ ∃ p ∈ requestWork, p.1 = kind ∧ workOf kind = p.2 := by
  cases hfind : requestWork.find? (fun p => p.1 == kind) with
  | none =>
    refine .inl ⟨fun hk => ?_, ?_⟩
    · obtain ⟨p, hp, hpk⟩ := List.mem_map.1 (show kind ∈ requestWork.map (·.1) from hk)
      exact List.find?_eq_none.1 hfind p hp (beq_iff_eq.2 hpk)
    · unfold workOf
      rw [hfind]
  | some p =>
    refine .inr ⟨p, List.mem_of_find?_eq_some hfind, beq_iff_eq.1 (List.find?_some (p := fun q : Byte × (List Byte → Device → Device × Answer) => q.1 == kind) hfind), ?_⟩
    unfold workOf
    rw [hfind]

/-! ## O7 -/

/-- What a frame that fails the common checks does: the refusal, the end of the reservation for an AMEND, and count 0 in the
reply to a TRADE-BLOCK (R169). -/
def refusedFrame (kind : Byte) (code : Status) (d : Device) : Device × Answer :=
  if kind = kindTradeBlock then (d, ⟨code, [0], none, false⟩)
  else if kind = kindAmend then (endReservation d, refuse code)
  else (d, refuse code)

theorem eq_error_of_refusal {α : Type} {fields : Except Status α} {code : Status} (h : refusalOf fields = some code) :
    fields = .error code := by
  cases fields with
  | ok f => simp [refusalOf] at h
  | error s =>
    cases h
    rfl

theorem onFields_of_refusal {α : Type} {fields : Except Status α} {code : Status} (h : refusalOf fields = some code)
    (work : α → Device → Device × Answer) (d : Device) : onFields fields work d = (d, refuse code) := by
  rw [eq_error_of_refusal h]
  rfl

theorem workTradeBlock_of_refusal {code : Status} (h : refusalOf (readTradeBlock body) = some code) (d : Device) :
    workTradeBlock body d = (d, ⟨code, [0], none, false⟩) := by
  unfold workTradeBlock
  rw [eq_error_of_refusal h]

theorem workAmend_of_refusal {code : Status} (h : refusalOf (readAmend body) = some code) (d : Device) :
    workAmend body d = (endReservation d, refuse code) := by
  unfold workAmend
  rw [eq_error_of_refusal h]

/-- Each kind's work refuses a frame that fails its common checks. -/
theorem work_of_refusal : ∀ p ∈ requestWork, ∀ (body : List Byte) (code : Status) (d : Device),
    commonRefusal p.1 body = some code → p.2 body d = refusedFrame p.1 code d := by
  simp only [requestWork, List.forall_mem_cons]
  exact ⟨fun _ _ d h => onFields_of_refusal h _ d, fun _ _ d h => onFields_of_refusal h _ d,
    fun _ _ d h => onFields_of_refusal h _ d, fun _ _ d h => workTradeBlock_of_refusal h d,
    fun _ _ d h => onFields_of_refusal h _ d, fun _ _ d h => onFields_of_refusal h _ d,
    fun _ _ d h => onFields_of_refusal h _ d, fun _ _ d h => workAmend_of_refusal h d,
    fun _ _ d h => onFields_of_refusal h _ d, fun _ _ d h => onFields_of_refusal h _ d,
    fun _ _ d h => onFields_of_refusal h _ d, fun _ _ d h => onFields_of_refusal h _ d,
    fun _ _ d h => onFields_of_refusal h _ d, fun _ _ d h => onFields_of_refusal h _ d,
    fun _ _ d h => onFields_of_refusal h _ d, fun _ _ d h => onFields_of_refusal h _ d,
    fun _ _ d h => onFields_of_refusal h _ d, fun _ _ d h => onFields_of_refusal h _ d,
    fun _ _ d h => onFields_of_refusal h _ d, fun _ _ d h => onFields_of_refusal h _ d,
    fun _ _ d h => onFields_of_refusal h _ d, fun _ _ d h => onFields_of_refusal h _ d,
    fun _ _ d h => onFields_of_refusal h _ d, fun _ _ d h => onFields_of_refusal h _ d,
    fun _ _ d h => onFields_of_refusal h _ d, fun _ _ d h => onFields_of_refusal h _ d,
    fun _ _ d h => onFields_of_refusal h _ d, fun _ h => absurd h List.not_mem_nil⟩

theorem checked_badLength {α : Type} {L : Bool} {F : Option α} :
    refusalOf (checked L F) = some .badLength ↔ L = false := by
  cases L <;> cases F <;> simp [checked, refusalOf]

theorem checked_codes {α : Type} {L : Bool} {F : Option α} {code : Status} (h : refusalOf (checked L F) = some code) :
    code = .badLength ∨ code = .badField := by
  cases L <;> cases F <;> simp_all [checked, refusalOf, eq_comm]

/-- The common checks of a kind: BAD-LENGTH for the lengths the table does not list, and else BAD-FIELD alone. -/
def ChecksLengthFirst (kind : Byte) : Prop := ∀ body : List Byte,
  (commonRefusal kind body = some .badLength ↔ lengthAllowed kind body.length = false) ∧
  ∀ code, commonRefusal kind body = some code → code = .badLength ∨ code = .badField

/-- A reader that checks its lengths, then its fields. -/
theorem ChecksLengthFirst.of_checked {α : Type} {L : List Byte → Bool} {F : List Byte → Option α}
    (hread : ∀ body, commonRefusal kind body = refusalOf (checked (L body) (F body)))
    (hlength : ∀ body, L body = lengthAllowed kind body.length) : ChecksLengthFirst kind := fun body => by
  rw [hread, ← hlength]
  exact ⟨checked_badLength, fun code => checked_codes⟩

/-- FETCH has two lengths, and a reader for each. -/
theorem checksLengthFirst_fetch : ChecksLengthFirst kindFetch := fun body => by
  have hlength : lengthAllowed kindFetch body.length = (body.length == 3 || body.length == 8) := rfl
  show (refusalOf (readFetch body) = some .badLength ↔ _) ∧ ∀ code, refusalOf (readFetch body) = some code → _
  unfold readFetch
  rw [hlength]
  by_cases h3 : body.length = 3
  · rw [if_pos h3]
    exact ⟨checked_badLength.trans (by simp [h3]), fun code => checked_codes⟩
  · rw [if_neg h3]
    exact ⟨checked_badLength.trans (by simp [h3]), fun code => checked_codes⟩

/-- Every kind checks its lengths by the table, and then its fields. -/
theorem checksLengthFirst : ∀ k ∈ requestKinds, ChecksLengthFirst k := by
  simp only [requestKinds, List.forall_mem_cons]
  refine ⟨.of_checked (fun _ => rfl) fun _ => rfl, .of_checked (fun _ => rfl) fun _ => rfl,
    .of_checked (fun _ => rfl) fun _ => rfl, .of_checked (fun _ => rfl) fun b => ?_,
    .of_checked (fun _ => rfl) fun _ => rfl, .of_checked (fun _ => rfl) fun _ => rfl,
    checksLengthFirst_fetch, .of_checked (fun _ => rfl) fun _ => rfl,
    .of_checked (fun _ => rfl) fun _ => rfl, .of_checked (fun _ => rfl) fun _ => rfl,
    .of_checked (fun _ => rfl) fun _ => rfl, .of_checked (fun _ => rfl) fun _ => rfl,
    .of_checked (fun _ => rfl) fun _ => rfl, .of_checked (fun _ => rfl) fun _ => rfl,
    .of_checked (fun _ => rfl) fun _ => rfl, .of_checked (fun _ => rfl) fun b => ?_,
    .of_checked (fun _ => rfl) fun _ => rfl, .of_checked (fun _ => rfl) fun _ => rfl,
    .of_checked (fun _ => rfl) fun _ => rfl, .of_checked (fun _ => rfl) fun _ => rfl,
    .of_checked (fun _ => rfl) fun _ => rfl, .of_checked (fun _ => rfl) fun _ => rfl,
    .of_checked (fun _ => rfl) fun _ => rfl, .of_checked (fun _ => rfl) fun _ => rfl,
    .of_checked (fun _ => rfl) fun _ => rfl, .of_checked (fun _ => rfl) fun _ => rfl,
    .of_checked (fun _ => rfl) fun _ => rfl, fun _ h => absurd h List.not_mem_nil⟩
  · show _ = (b.length % 10 == 0 && 10 ≤ b.length && b.length ≤ 160)
    rw [Bool.eq_iff_iff]
    simp only [Bool.and_eq_true, decide_eq_true_eq, beq_iff_eq]
    have hmax : Config.maxBlockItems = 16 := rfl
    omega
  · show _ = (b.length % 3 == 1 && 4 ≤ b.length && b.length ≤ 25)
    rw [Bool.eq_iff_iff]
    simp
    omega

theorem readyReply_refusedFrame (kind : Byte) (body : List Byte) (code : Status) (d : Device) :
    readyReply kind (refusedFrame kind code (beginWork kind body d)).2 (refusedFrame kind code (beginWork kind body d)).1 =
      { d with
        channel := replied kind code.code (if kind = 0x04 then [0] else [])
          { d.channel with reservation := if kind = 0x08 then none else d.channel.reservation } } := by
  unfold refusedFrame
  by_cases hb : kind = kindTradeBlock
  · subst hb
    rfl
  · rw [if_neg hb, if_neg (show kind ≠ 0x04 from hb)]
    by_cases ha : kind = kindAmend
    · subst ha
      rfl
    · rw [if_neg ha, if_neg (show kind ≠ 0x08 from ha)]
      rfl

/-- Settles O7: the work of each kind on a frame that its reader refuses, and what each reader refuses first. -/
theorem commonChecksReadTheFrameAlone : Obligations.CommonChecksReadTheFrameAlone := by
  have hkinds {kind : Byte} (h : requestKinds.contains kind = true) : kind ∈ requestKinds := by simpa using h
  refine ⟨fun s kind body hk ht => ?_, fun c s kind body code hw hframe hk ht hcode => ?_,
    fun kind body hk => checksLengthFirst kind (hkinds hk) body⟩
  · have hmem : kind ∉ requestKinds := by simpa using hk
    refine (exec_of_requestFrame rfl).trans ?_
    rw [if_neg (by simp [strays, hmem]), workOf_of_unknown hmem]
    exact congrArg (fun e => Host.Outcome.next (⟨e, s.pending⟩ : State)) (request_of_taken ht _)
  · rw [exec_of_requestFrame hframe, if_neg (by simp [strays_of_wellFormed hw])]
    refine congrArg (fun e => Host.Outcome.next (⟨e, s.pending⟩ : State)) ?_
    obtain ⟨hunknown, -⟩ | ⟨p, hp, rfl, hwork⟩ := workOf_cases kind
    · exact absurd (hkinds hk) hunknown
    · rw [request_of_taken ht, hwork, work_of_refusal p hp body code _ hcode]
      exact readyReply_refusedFrame p.1 body code s.device

/-! ## O8 -/

/-- A refusal leaves the device as it was. -/
def Clean (d : Device) (r : Device × Answer) : Prop := r.2.status ≠ .accepted → r.1 = d

theorem clean_same (d : Device) (a : Answer) : Clean d (d, a) := fun _ => rfl

theorem clean_accept (d e : Device) (data : List Byte) : Clean d (e, accept data) := fun h => absurd rfl h

theorem Clean.ite {p : Prop} [Decidable p] {a b : Device × Answer} (ha : Clean d a) (hb : Clean d b) :
    Clean d (if p then a else b) := by
  split
  · exact ha
  · exact hb

theorem clean_onFields {α : Type} {work : α → Device → Device × Answer} (h : ∀ f d, Clean d (work f d))
    (fields : Except Status α) (d : Device) : Clean d (onFields fields work d) := by
  cases fields with
  | ok f => exact h f d
  | error s => exact clean_same d _

theorem clean_setState (f : Slot × StateWord) (d : Device) : Clean d (setState f d) := by
  unfold setState
  dsimp only
  split
  · exact clean_same d _
  · exact clean_accept d _ _

theorem clean_delistSlot (i : Slot) (d : Device) : Clean d (delistSlot i d) :=
  .ite (clean_same d _) (.ite (clean_accept d _ _) (clean_accept d _ _))

theorem clean_fetchSlot (i : Slot) (reserve : Bool) (d : Device) : Clean d (fetchSlot i reserve d) :=
  .ite (clean_same d _) (clean_accept d _ _)

theorem clean_fetchTarget (f : FetchTarget × Bool) (d : Device) : Clean d (fetchTarget f d) := by
  unfold fetchTarget
  split
  · exact clean_fetchSlot _ _ d
  · split
    · exact clean_fetchSlot _ _ d
    · exact clean_same d _

theorem clean_stopDrain (r : RibbonNo) (d : Device) : Clean d (stopDrain r d) := by
  unfold stopDrain
  dsimp only
  split
  · exact clean_same d _
  · exact clean_same d _
  · exact clean_accept d _ _
  · exact .ite (clean_accept d _ _) (clean_accept d _ _)

theorem clean_stopByMode (f : RibbonNo × StopMode) (d : Device) : Clean d (stopByMode f d) := by
  unfold stopByMode
  split
  · exact .ite (clean_same d _) (clean_accept d _ _)
  · exact clean_stopDrain _ d

theorem clean_startExercise (f : SegNo × Word) (d : Device) : Clean d (startExercise f d) := by
  unfold startExercise
  split
  · exact clean_same d _
  · exact clean_same d _
  · exact clean_accept d _ _

theorem clean_collectNotice (u : Unit) (d : Device) : Clean d (collectNotice u d) := by
  unfold collectNotice
  split
  · exact clean_accept d _ _
  · exact fun h => absurd rfl h

/-- The items applied leave the device alone when their count is the count before them. -/
theorem applyItems_eq_of_count {l : List TradeItem} {n : Nat} :
    n ≤ (applyItems l n d).2.1 ∧ ((applyItems l n d).2.1 = n → (applyItems l n d).1 = d) := by
  induction l generalizing n d with
  | nil => exact ⟨le_rfl, fun _ => rfl⟩
  | cons t l ih =>
    unfold applyItems
    split
    · exact ⟨le_rfl, fun _ => rfl⟩
    · obtain ⟨hle, -⟩ := ih (n := n + 1) (d := applyTrade t d)
      exact ⟨by omega, fun h => by omega⟩

theorem applyItems_count_le (l : List TradeItem) (n : Nat) (d : Device) : (applyItems l n d).2.1 ≤ n + l.length := by
  induction l generalizing n d with
  | nil => exact le_rfl
  | cons t l ih =>
    unfold applyItems
    split
    · exact Nat.le_add_right n _
    · have := ih (n + 1) (applyTrade t d)
      rw [List.length_cons]
      omega

theorem length_tradeItems {b : List Byte} {n : Nat} {l : List TradeItem} (h : tradeItems b n = some l) : l.length = n := by
  induction n generalizing l with
  | zero =>
    cases h
    rfl
  | succ n ih =>
    unfold tradeItems at h
    split at h
    · next m i hm _ =>
      cases h
      rw [List.length_append, ih hm]
      rfl
    · simp at h

theorem length_readTradeBlock {b : List Byte} {l : List TradeItem} (h : readTradeBlock b = .ok l) : l.length ≤ 16 := by
  unfold readTradeBlock checked at h
  split at h
  · next hlength =>
    cases hitems : tradeItems b (b.length / 10) with
    | none => simp [hitems] at h
    | some m =>
      rw [hitems] at h
      cases h
      rw [length_tradeItems hitems]
      simp only [Bool.and_eq_true, decide_eq_true_eq] at hlength
      have hmax : Config.maxBlockItems = 16 := rfl
      omega
  · simp at h

/-- A TRADE-BLOCK whose count is 0 has changed nothing. -/
theorem workTradeBlock_of_no_item (h : (workTradeBlock body d).2.data[0]? = some 0) : (workTradeBlock body d).1 = d := by
  unfold workTradeBlock at h ⊢
  split at h
  · next l hl =>
    obtain ⟨-, hsame⟩ := applyItems_eq_of_count (l := l) (n := 0) (d := d)
    refine hsame ?_
    have hle := (applyItems_count_le l 0 d).trans (Nat.add_le_add_left (length_readTradeBlock hl) 0)
    have hbyte : byte (applyItems l 0 d).2.1 = 0 := Option.some.inj h
    have hcount := byte_toNat (n := (applyItems l 0 d).2.1) (by omega)
    rw [hbyte] at hcount
    exact hcount.symm
  · rfl

theorem workAmend_refused (h : (workAmend body d).2.status ≠ .accepted) : (workAmend body d).1 = endReservation d := by
  unfold workAmend at h ⊢
  split
  · next f hf =>
    rw [hf] at h
    unfold amendSlot at h ⊢
    dsimp only at h ⊢
    split
    · rfl
    · next hr =>
      rw [if_neg hr] at h
      split
      · rfl
      · next ho =>
        rw [if_neg ho] at h
        exact absurd rfl h
  · rfl

/-- A refused request of a kind leaves the device, but for the reservation that an AMEND ends and for the items of a
TRADE-BLOCK (R169). -/
def RefusesClean (kind : Byte) (d : Device) (r : Device × Answer) : Prop :=
  r.2.status ≠ .accepted → (kind = kindTradeBlock → r.2.data[0]? = some 0) →
    r.1 = if kind = kindAmend then endReservation d else d

theorem Clean.refusesClean {r : Device × Answer} (h : Clean d r) (hk : kind ≠ kindAmend) : RefusesClean kind d r :=
  fun hs _ => (h hs).trans (if_neg hk).symm

theorem work_refusesClean : ∀ p ∈ requestWork, ∀ (body : List Byte) (d : Device), RefusesClean p.1 d (p.2 body d) := by
  have hfields {α : Type} {work : α → Device → Device × Answer} {kind : Byte} (h : ∀ f d, Clean d (work f d))
      (hk : kind ≠ kindAmend) (fields : Except Status α) (d : Device) : RefusesClean kind d (onFields fields work d) :=
    (clean_onFields h fields d).refusesClean hk
  have htwo (d e : Device) (a : Answer) (data : List Byte) (p : Prop) [Decidable p] :
      Clean d (if p then (d, a) else (e, accept data)) := .ite (clean_same d a) (clean_accept d e data)
  simp only [requestWork, List.forall_mem_cons]
  exact ⟨fun _ => hfields (fun _ d => .ite (clean_same d _) (htwo d _ _ _ _)) (by decide) _,
    fun _ => hfields clean_delistSlot (by decide) _,
    fun _ => hfields (fun _ d => htwo d _ _ _ _) (by decide) _,
    fun _ _ _ hcount => (workTradeBlock_of_no_item (hcount rfl)).trans (if_neg (by decide)).symm,
    fun _ => hfields (fun _ d => htwo d _ _ _ _) (by decide) _,
    fun _ => hfields clean_setState (by decide) _,
    fun _ => hfields clean_fetchTarget (by decide) _,
    fun _ _ hs _ => workAmend_refused hs,
    fun _ => hfields (fun _ d => clean_accept d _ _) (by decide) _,
    fun _ => hfields (fun _ d => clean_accept d _ _) (by decide) _,
    fun _ => hfields (fun _ d => htwo d _ _ _ _) (by decide) _,
    fun _ => hfields (fun _ d => htwo d _ _ _ _) (by decide) _,
    fun _ => hfields clean_stopByMode (by decide) _,
    fun _ => hfields (fun _ d => clean_accept d _ _) (by decide) _,
    fun _ => hfields (fun _ d => htwo d _ _ _ _) (by decide) _,
    fun _ => hfields (fun _ d => clean_accept d _ _) (by decide) _,
    fun _ => hfields (fun _ d => .ite (clean_same d _) (htwo d _ _ _ _)) (by decide) _,
    fun _ => hfields (fun _ d => clean_accept d _ _) (by decide) _,
    fun _ => hfields (fun _ d => htwo d _ _ _ _) (by decide) _,
    fun _ => hfields (fun _ d => .ite (clean_same d _) (.ite (clean_same d _) (htwo d _ _ _ _))) (by decide) _,
    fun _ => hfields clean_startExercise (by decide) _,
    fun _ => hfields (fun _ d => htwo d _ _ _ _) (by decide) _,
    fun _ => hfields (fun _ d => .ite (clean_same d _) (htwo d _ _ _ _)) (by decide) _,
    fun _ => hfields (fun _ d => .ite (clean_same d _) (.ite (clean_same d _) (htwo d _ _ _ _))) (by decide) _,
    fun _ => hfields clean_collectNotice (by decide) _,
    fun _ => hfields (fun _ d => htwo d _ _ _ _) (by decide) _,
    fun _ => hfields (fun _ d => clean_accept d _ _) (by decide) _,
    fun _ h => absurd h List.not_mem_nil⟩

/-- Settles O8: a refused request leaves what its work leaves, and a refusal's work leaves the device. -/
theorem refusedRequestChangesNothing : Obligations.RefusedRequestChangesNothing := by
  intro c s t kind body status hframe hexec hstatus hne hcount
  rw [exec_of_requestFrame hframe] at hexec
  split at hexec
  · cases hexec
    exact .refl _ _
  · have ht : t.device = request kind body (workOf kind body) s.device := device_of_onDevice hexec
    by_cases htaken : takesRequest kind body s.device = true
    · rw [request_of_taken htaken] at ht
      rw [ht, readyReply_status] at hstatus
      have hrefused : (workOf kind body (beginWork kind body s.device)).2.status ≠ .accepted := fun h =>
        hne (by rw [← Option.some.inj hstatus, h]; rfl)
      have hdata : kind = kindTradeBlock → (workOf kind body (beginWork kind body s.device)).2.data[0]? = some 0 :=
        fun h => by
          have hthird := hcount h
          rw [ht] at hthird
          exact hthird
      have hclean : (workOf kind body (beginWork kind body s.device)).1 =
          if kind = kindAmend then endReservation (beginWork kind body s.device) else beginWork kind body s.device := by
        obtain ⟨hunknown, hwork⟩ | ⟨p, hp, rfl, hwork⟩ := workOf_cases kind
        · rw [hwork, if_neg (fun h => hunknown (by rw [h]; decide))]
          rfl
        · rw [hwork] at hrefused hdata ⊢
          exact work_refusesClean p hp body _ hrefused hdata
      rw [ht, hclean]
      by_cases ha : kind = kindAmend
      · rw [if_pos ha, if_pos (show kind = 0x08 from ha)]
        exact ready_changes _ (endReservation_changes _)
      · rw [if_neg ha, if_neg (show kind ≠ 0x08 from ha)]
        exact ready_changes _ (.refl [] _)
    · rw [request_of_not_taken (by simpa using htaken)] at ht
      rw [ht]
      exact .refl _ _

end Sys2Proof.Machine
end


section
/-! PROOFS. Requests of the store and of the ribbons that hand nothing on (O9, O10, O16, O28, O29). -/

namespace Sys2Proof.Machine

variable {d e : Device} {s : State} {c : Instr} {kind : Byte} {body : List Byte}

/-- The reply of an accepted request, written into the channel as the work leaves it. -/
theorem readyReply_accept (kind : Byte) (data : List Byte) (e : Device) :
    readyReply kind (accept data) e = e.setChannel (replied kind 0x00 data e.channel) := by
  have hlength : data.length + 2 = 2 + data.length := Nat.add_comm _ _
  show e.setChannel { e.channel with
      state := .replying, assembly := [], gapTimer := .stopped,
      reply := ⟨byte (data.length + 2) :: replyKind kind :: 0x00 :: data, 0, none, false⟩,
      replyTimer := .running Config.replyTime } = _
  rw [hlength]
  rfl

/-- An accepted request leaves what its work has left, with the reply written into the channel as the work leaves it. -/
theorem exec_replied {α : Type} {fields : Except Status α} {f : α} {work : α → Device → Device × Answer} {data : List Byte}
    (h : takesRequest kind body s.device = true) (hf : fields = .ok f)
    (hwork : work f (beginWork kind body s.device) = (e, accept data)) :
    onDevice (request kind body (onFields fields work)) s =
      .next ⟨e.setChannel (replied kind 0x00 data e.channel), s.pending⟩ := by
  rw [exec_accepted h hf hwork, readyReply_accept]

/-- A command that its frame spells runs the work of its kind. -/
theorem exec_of_spelled (hframe : c.requestFrame = some (kind, body)) (h : strays c = false) :
    exec c s = onDevice (request kind body (workOf kind body)) s := by
  rw [exec_of_requestFrame hframe, if_neg (by simp [h])]

/-! ## LIST -/

theorem listInstrument_of_taken {f : ListFields} (h : (d.slot f.slot).state ≠ .free) :
    listInstrument f d = (d, refuse .notFree) := if_pos h

theorem listInstrument_of_double {f : ListFields} (h : (d.slot f.slot).state = .free) (hl : lookup d f.symbol ≠ none) :
    listInstrument f d = (d, refuse .duplicate) := by
  unfold listInstrument
  rw [if_neg (not_not.2 h), if_pos (Option.isSome_iff_ne_none.2 hl)]

theorem listInstrument_of_free {f : ListFields} (h : (d.slot f.slot).state = .free) (hl : lookup d f.symbol = none) :
    listInstrument f d =
      ((d.setSlot f.slot (listedRecord f)).setDirectory (insertSymbol f.symbol f.slot d.directory), accept []) := by
  unfold listInstrument
  rw [if_neg (not_not.2 h), if_neg (by simp [hl])]

/-- Settles O9: the record and the pair are written, and the reply is all that is left. -/
theorem listWritesTheRecord : Obligations.ListWritesTheRecord := by
  intro s body f htakes hf hfree hlookup
  have hwork := listInstrument_of_free (d := beginWork 0x01 body s.device) hfree hlookup
  have hchanges := (setSlot_changes (beginWork 0x01 body s.device) f.slot (listedRecord f)).andThen
    (setDirectory_changes _ (insertSymbol f.symbol f.slot s.device.directory)) (n := [.slots, .directory]) (by simp)
    (by simp)
  exact ⟨_, exec_accepted htakes hf hwork, rfl, ready_changes _ hchanges, channel_readyReply_of_kept _ hchanges (by simp),
    rfl, Device.slot_setSlot_same (beginWork 0x01 body s.device) f.slot (listedRecord f),
    fun i hi => Device.slot_setSlot_other (beginWork 0x01 body s.device) f.slot i (listedRecord f) hi⟩

/-! ## Refusals by state -/

theorem tradeOne_of_not_trading {f : TradeItem} (h : (d.slot f.slot).state ≠ .trading) :
    tradeOne f d = (d, refuse .wrongState) := if_pos h

theorem quoteSlot_of_unlisted {f : QuoteFields} (h : isListed (d.slot f.slot).state = false) :
    quoteSlot f d = (d, refuse .wrongState) := if_pos h

theorem setState_of_none {i : Slot} {w : StateWord} (h : stateAfter w (d.slot i).state = none) :
    setState (i, w) d = (d, refuse .wrongState) := by
  unfold setState
  dsimp only
  rw [h]

theorem stateAfter_openWord_eq_none {x : SlotState} (hl : x ≠ .listed) (hh : x ≠ .halted) :
    stateAfter .openWord x = none := by
  cases x with
  | listed => exact absurd rfl hl
  | halted => exact absurd rfl hh
  | _ => rfl

theorem stateAfter_haltWord_eq_none {x : SlotState} (h : x ≠ .trading) : stateAfter .haltWord x = none := by
  cases x with
  | trading => exact absurd rfl h
  | _ => rfl

theorem fetchTarget_of_unlisted {i : Slot} (h : isListed (d.slot i).state = false) :
    fetchTarget (.slot i, true) d = (d, refuse .wrongState) := if_pos ⟨rfl, h⟩

theorem exec_setStateOpen {i : Slot} (hf : readSetState body = .ok (i, .openWord)) :
    exec (.setStateOpen body) s = onDevice (request 0x06 body (workSetState body)) s :=
  exec_of_spelled rfl (by simp [strays, carriesAction, hf])

theorem exec_setStateHalt {i : Slot} (hf : readSetState body = .ok (i, .haltWord)) :
    exec (.setStateHalt body) s = onDevice (request 0x06 body (workSetState body)) s :=
  exec_of_spelled rfl (by simp [strays, carriesAction, hf])

/-- Settles O10: each request by the state of its slot. -/
theorem marketRequestsRefusedByState : Obligations.MarketRequestsRefusedByState := fun _ _ =>
  ⟨fun _ ht hf h => exec_refused ht hf (listInstrument_of_taken h),
    fun _ ht hf h hl => exec_refused ht hf (listInstrument_of_double h hl),
    fun _ ht hf h => exec_refused ht hf (tradeOne_of_not_trading h),
    fun _ ht hf h => exec_refused ht hf (quoteSlot_of_unlisted h),
    fun _ ht hf hl hh => (exec_setStateOpen hf).trans
      (exec_refused ht hf (setState_of_none (stateAfter_openWord_eq_none hl hh))),
    fun _ ht hf h => (exec_setStateHalt hf).trans (exec_refused ht hf (setState_of_none (stateAfter_haltWord_eq_none h))),
    fun _ ht hf h => exec_refused ht hf (work := delistSlot) (if_pos h),
    fun _ ht hf h => exec_refused ht hf (fetchTarget_of_unlisted h)⟩

/-! ## FETCH -/

/-- The slot that a FETCH finds. -/
def fetched (d : Device) : FetchTarget → Option Slot
  | .slot i => some i
  | .symbol y => lookup d y

theorem fetchTarget_of_found {target : FetchTarget} {i : Slot} (h : fetched d target = some i) (reserve : Bool) :
    fetchTarget (target, reserve) d = fetchSlot i reserve d := by
  cases target with
  | slot j =>
    cases h
    rfl
  | symbol y =>
    unfold fetchTarget
    dsimp only
    rw [show lookup d y = some i from h]

theorem fetchTarget_of_missing {target : FetchTarget} (h : fetched d target = none) (reserve : Bool) :
    fetchTarget (target, reserve) d = (d, refuse .notListed) := by
  cases target with
  | slot j => exact absurd h (by simp [fetched])
  | symbol y =>
    unfold fetchTarget
    dsimp only
    rw [show lookup d y = none from h]

theorem fetchSlot_of_allowed {i : Slot} {reserve : Bool} (h : reserve = true → isListed (d.slot i).state = true) :
    fetchSlot i reserve d = (d.setChannel { d.channel with reservation := if reserve then some i else d.channel.reservation },
      accept (fetchRecord i (d.slot i))) := by
  unfold fetchSlot
  rw [if_neg (fun hr => absurd (h hr.1) (by simp [hr.2]))]
  cases reserve <;> rfl

/-- Settles O16: by the slot the target finds, if it finds one. -/
theorem fetchReportsTheRecord : Obligations.FetchReportsTheRecord := by
  intro s body target reserve htakes hf d found
  have hfound : found = fetched (beginWork 0x07 body d) target := by
    cases target <;> rfl
  refine ⟨fun i hi hlisted => ?_, fun hnone => exec_refused htakes hf (fetchTarget_of_missing (hfound.symm.trans hnone) _)⟩
  have hwork := (fetchTarget_of_found (hfound.symm.trans hi) reserve).trans
    (fetchSlot_of_allowed (d := beginWork 0x07 body d) hlisted)
  have hrecord : fetchRecord i (d.slot i) = wordBytes i.val ++ [slotStateCode (d.slot i).state] ++
      symbolBytes (d.slot i).symbol ++ [byte (d.slot i).e, byte (d.slot i).group.val] ++
      priceBytes (some (d.slot i).close) ++ priceBytes (d.slot i).last ++ priceBytes (d.slot i).high ++
      priceBytes (d.slot i).low ++ priceBytes (d.slot i).bid ++ priceBytes (d.slot i).ask ++
      longBytes (d.slot i).volume ++ wordBytes (d.slot i).tradeCount ++ [tickCode (d.slot i).tick] ++
      wordBytes (d.slot i).revision.toNat ++ [byte (d.slot i).boundRows.length] ++
      (d.slot i).boundRows.map (fun r => byte r.val) := by
    simp [fetchRecord]
  intro x
  refine (exec_replied htakes hf hwork).trans (congrArg (fun e => Host.Outcome.next (⟨e, s.pending⟩ : State)) ?_)
  refine congrArg d.setChannel ?_
  rw [← hrecord]
  rfl

/-! ## BULLETIN -/

/-- Settles O28: the offer is the work, and its outcome the reply. -/
theorem bulletinIsOffered : Obligations.BulletinIsOffered := by
  intro s body mask text htakes hf r
  have hexec := exec_accepted (work := offerBulletin) (e := r.1) htakes hf rfl
  have hchanges := offer_changes (.bulletin mask text) (beginWork 0x10 body s.device)
  refine ⟨_, hexec, rfl, ?_, ?_, (ready_changes _ hchanges).mono (by simp)⟩
  · dsimp only
    rw [readyReply_accept]
    cases r.2 <;> rfl
  · exact (readyReply_changes _ _ _ .reservation (by simp)).trans (hchanges .reservation (by simp))

/-! ## The ribbons' settings -/

theorem ribbon_modRibbon (d : Device) (r q : RibbonNo) (f : Ribbon → Ribbon) :
    (d.modRibbon r f).ribbon q = if q = r then f (d.ribbon r) else d.ribbon q := Device.ribbon_setRibbon d r q _

/-- The settings that a RIBBON-SETUP leaves. -/
def setupOf (f : RibbonFields) (x : Ribbon) : Ribbon :=
  { x with
    groupMask := f.groupMask.getD x.groupMask, lockGroup := f.lockGroup.getD x.lockGroup,
    normalRate := (f.normalRate.map (fun n => max 500 (min n 4000))).getD x.normalRate,
    fastRate := (f.fastRate.map (fun n => max 500 (min n 4000))).getD x.fastRate }

theorem setupRibbon_eq (f : RibbonFields) (d : Device) : setupRibbon f d =
    if (f.groupMask ≠ none ∨ f.lockGroup ≠ none) ∧ (d.ribbon f.ribbon).state ≠ .stopped then (d, refuse .wrongState)
    else (d.setRibbon f.ribbon (setupOf f (d.ribbon f.ribbon)), accept (ribbonSettings (setupOf f (d.ribbon f.ribbon)))) := by
  unfold setupRibbon
  dsimp only
  refine if_congr ?_ rfl rfl
  rw [Option.isSome_iff_ne_none, Option.isSome_iff_ne_none]

theorem ribbonSettings_eq (x : Ribbon) : ribbonSettings x =
    wordBytes x.groupMask.toNat ++ [byte x.lockGroup.val] ++ wordBytes x.normalRate ++ wordBytes x.fastRate := by
  simp [ribbonSettings]

/-- The ribbon that an accepted RIBBON-START leaves. -/
def startedRibbon (x : Ribbon) : Ribbon :=
  { x with state := if x.lockGroup = 0 then .running else .primed, acc := 0, level := .normal, phase := .idle }

theorem startRibbon_of_stopped {r : RibbonNo} (h : (d.ribbon r).state = .stopped) : startRibbon r d =
    (d.setRibbon r (startedRibbon (d.ribbon r)), accept [if (d.ribbon r).lockGroup = 0 then 2 else 1]) := by
  have hcode : ribbonStateCode (startState (d.ribbon r)) = if (d.ribbon r).lockGroup = 0 then 2 else 1 := by
    unfold startState
    split <;> rfl
  unfold startRibbon
  dsimp only
  rw [if_neg (not_not.2 h), hcode]
  rfl

/-- Settles O29: the settings by the state, the start by the lock group, and ALIGN ribbon by ribbon. -/
theorem ribbonsAreSetUpAndStarted : Obligations.RibbonsAreSetUpAndStarted := by
  intro s body d refused
  refine ⟨fun f htakes hf => ?_, fun r htakes hf => ?_, fun g htakes hf => ?_⟩
  · intro x x' data
    have hwork := setupRibbon_eq f (beginWork 0x11 body d)
    by_cases h : (f.groupMask ≠ none ∨ f.lockGroup ≠ none) ∧ x.state ≠ .stopped
    · rw [if_pos h]
      exact exec_refused htakes hf (hwork.trans (if_pos h))
    · have hexec := exec_replied htakes hf (hwork.trans (if_neg h))
      rw [ribbonSettings_eq] at hexec
      rw [if_neg h]
      exact hexec
  · intro x x' channel
    by_cases h : x.state ≠ .stopped
    · rw [if_pos h]
      exact exec_refused htakes hf (work := startRibbon) (if_pos h)
    · have hwork := startRibbon_of_stopped (d := beginWork 0x12 body d) (not_not.1 h)
      have hexec := exec_replied htakes hf hwork
      rw [if_neg h]
      exact hexec
  · have hexec := exec_accepted (work := alignGroup) htakes hf (f := g) rfl
    have hchanges : ChangesOnly [.ribbons] (beginWork 0x14 body d) (alignGroup g (beginWork 0x14 body d)).1 :=
      .forEach (fun r e => modRibbon_changes e r _) _ _
    refine ⟨_, hexec, rfl, fun r => ?_, channel_readyReply_of_kept _ hchanges (by simp), ready_changes _ hchanges⟩
    refine (ribbon_forEach_modRibbon _ _ ((List.nodup_finRange 4).filter _) r (beginWork 0x14 body d)).trans ?_
    refine if_congr ?_ rfl rfl
    simp
    rfl

end Sys2Proof.Machine
end


section
/-! PROOFS. COLLECT (O57): the first flag in the order of R171, and the content of each notice. -/

namespace Sys2Proof.Machine

variable {d : Device} {s : State} {n : Notice}

/-! ## The first flag -/

/-- The place of a notice in the order of R171: its kind, then its object. -/
def noticePlace : Notice → Nat × Nat
  | .row r => (1, r.val)
  | .segment g => (2, g.val)
  | .ribbon r => (3, r.val)
  | .tape => (4, 0)
  | .terminal l => (5, l.val)
  | .settled => (6, 0)
  | .channel => (7, 0)

/-- A notice stands at or before another in the order of R171. -/
def placeLe (n m : Notice) : Prop :=
  (noticePlace n).1 < (noticePlace m).1 ∨
    ((noticePlace n).1 = (noticePlace m).1 ∧ (noticePlace n).2 ≤ (noticePlace m).2)

/-- The rank of a notice numbers the places in their order. -/
theorem noticeRank_le_of_placeLe {n m : Notice} (h : placeLe n m) : noticeRank n ≤ noticeRank m := by
  cases n <;> cases m <;> simp only [placeLe, noticePlace, noticeRank] at h ⊢ <;> omega

theorem firstNotice_eq_some {l : List Notice} (hn : n ∈ l) (h : ∀ m ∈ l, noticeRank n ≤ noticeRank m) :
    firstNotice l = some n := by
  induction l with
  | nil => simp at hn
  | cons m l ih =>
    have htail : ∀ k ∈ l, noticeRank n ≤ noticeRank k := fun k hk => h k (List.mem_cons_of_mem _ hk)
    by_cases hl : n ∈ l
    · simp only [firstNotice, ih hl htail]
      split
      · next hle =>
        exact congrArg some (noticeRank_injective (Nat.le_antisymm hle (h m List.mem_cons_self)))
      · rfl
    · obtain rfl : n = m := (List.mem_cons.mp hn).resolve_right hl
      unfold firstNotice
      split
      · rfl
      · next k hk =>
        have hmem : k ∈ l := by
          clear ih h hl hn htail
          induction l with
          | nil => simp [firstNotice] at hk
          | cons a l ih =>
            unfold firstNotice at hk
            split at hk
            · simp at hk; simp [hk]
            · next b hb =>
              split at hk
              · simp at hk; simp [hk]
              · exact List.mem_cons_of_mem _ (ih (by rw [hb]; exact hk))
        rw [if_pos (htail k hmem)]

/-! ## The reply -/

theorem collectNotice_of_first (h : firstNotice d.notices = some n) : collectNotice () d =
    (d.clearNotice n,
      ⟨.accepted, noticeKindCode n :: noticeObject n :: noticeContent d n, some n, forwardsText d n⟩) := by
  unfold collectNotice
  rw [h]

theorem noticeContent_beginWork (kind : Byte) (body : List Byte) (d : Device) (n : Notice) :
    noticeContent (beginWork kind body d) n = noticeContent d n := by
  cases n <;> rfl

theorem forwardsText_beginWork (kind : Byte) (body : List Byte) (d : Device) (n : Notice) :
    forwardsText (beginWork kind body d) n = forwardsText d n := by
  cases n <;> rfl

/-- A COLLECT with a flag set clears the first and carries its kind, its object and its content. -/
theorem exec_collect_first {code object : Byte} {content : List Byte} {text : Bool}
    (h : takesRequest 0x40 [] s.device = true) (hfirst : firstNotice s.device.notices = some n)
    (hcode : noticeKindCode n = code) (hobject : noticeObject n = object)
    (hcontent : noticeContent s.device n = content) (htext : forwardsText s.device n = text) :
    exec (.collect []) s = .next
      ⟨(s.device.setNotices (s.device.notices.filter (fun m => m ≠ n))).setChannel
        (repliedCollect (code :: object :: content) n text s.device.channel), s.pending⟩ := by
  have hexec : exec (.collect []) s =
      .next ⟨request kindCollect [] (workCollect []) s.device, s.pending⟩ := rfl
  have hwork : workCollect [] (beginWork kindCollect [] s.device) =
      ((beginWork kindCollect [] s.device).clearNotice n, ⟨.accepted, code :: object :: content, some n, text⟩) := by
    rw [← hcode, ← hobject, ← hcontent, ← htext, ← noticeContent_beginWork kindCollect [],
      ← forwardsText_beginWork kindCollect []]
    exact collectNotice_of_first (d := beginWork kindCollect [] s.device) hfirst
  have hlength : (code :: object :: content).length + 2 = 2 + (code :: object :: content).length := Nat.add_comm _ _
  rw [hexec, request, if_pos (show takesRequest kindCollect [] s.device = true from h)]
  dsimp only
  rw [hwork]
  show Host.Outcome.next (⟨readyReply _ _ _, s.pending⟩ : State) = _
  unfold repliedCollect
  rw [← hlength]
  rfl

/-! ## The contents that the rules write in another way -/

theorem noticeContent_ribbon (d : Device) (r : RibbonNo) : noticeContent d (.ribbon r) =
    [ribbonStateCode (d.ribbon r).state, levelCode (d.ribbon r).level] ++ wordBytes (d.ribbon r).backlog ++
      wordBytes ((d.ribbon r).backlog * 100 / (d.ribbon r).normalRate) ++
      wordBytes ((d.tape.entries.filter (fun y => r ∈ y.pending && (d.ribbon r).current != some y.id)).length) ++
      [byte (d.ribbon r).lockGroup.val] ++ wordBytes (d.ribbon r).normalRate ++ wordBytes (d.ribbon r).fastRate := by
  have hwaiting : waitingEntries d r =
      (d.tape.entries.filter (fun y => r ∈ y.pending && (d.ribbon r).current != some y.id)).length := by
    unfold waitingEntries
    congr 2
    funext y
    rw [Bool.eq_iff_iff]
    simp
  show ribbonContent d r = _
  simp [ribbonContent, hwaiting, delay]

theorem tailIsGap_eq_any (l : List Entry) : tailIsGap l = l.getLast?.any (fun y => y.body.isGap) := by
  unfold tailIsGap
  cases l.getLast? <;> rfl

theorem noticeContent_tape (d : Device) : noticeContent d .tape =
    wordBytes d.tape.entries.length ++ wordBytes (d.tape.entries.filter (fun y => y.body.isGap)).length ++
      wordBytes (min (d.tape.entries.map omittedOf).sum 65535) ++
      [if d.tape.entries.getLast?.any (fun y => y.body.isGap) then 1 else 0] := by
  rw [← tailIsGap_eq_any]
  rfl

theorem noticeContent_terminal (d : Device) (l : LineNo) : noticeContent d (.terminal l) =
    [termStateCode (d.terminal l).state, if (d.terminal l).present then 1 else 0] ++
      wordBytes (baud (d.terminal l).rate) ++
      [formatCode (d.terminal l).format, testResultCode (d.terminal l).testResult] ++
      testDetail (d.terminal l).testResult ++ wordBytes (d.terminal l).queue.length ++
      [byte (d.dealer l).forward.length] ++ (d.dealer l).forward := by
  simp [noticeContent, terminalContent, flagByte]

theorem forwardsText_terminal (d : Device) (l : LineNo) :
    forwardsText d (.terminal l) = ((d.dealer l).forward != []) := by
  show (!(d.dealer l).forward.isEmpty) = _
  cases (d.dealer l).forward <;> rfl

/-- Settles O57: the flag of least rank is the first in the order, and each kind's content is read as its rule lists it. -/
theorem collectTakesTheFirstNotice : Obligations.CollectTakesTheFirstNotice := by
  intro s htakes
  refine ⟨fun hnone => ?_, fun n hn hfirst => ?_⟩
  · have hwork : collectNotice () (beginWork 0x40 [] s.device) = (beginWork 0x40 [] s.device, accept [0]) := by
      unfold collectNotice
      rw [show (beginWork 0x40 [] s.device).notices = [] from hnone]
      rfl
    have hexec := exec_replied (body := []) (fields := .ok ()) htakes rfl hwork
    exact hexec
  · have hplace : ∀ m ∈ s.device.notices, placeLe n m := by
      intro m hm
      have := hfirst m hm
      cases n <;> cases m <;> exact this
    have hsome := firstNotice_eq_some hn fun m hm => noticeRank_le_of_placeLe (hplace m hm)
    cases n with
    | row r =>
      refine exec_collect_first htakes hsome rfl rfl ?_ rfl
      show rowContent _ _ = _
      cases hstep : exerciseStep s.device r <;> simp only [rowContent, reportedCause, hstep] <;> rfl
    | segment g => exact exec_collect_first htakes hsome rfl rfl rfl rfl
    | ribbon r => exact exec_collect_first htakes hsome rfl rfl (noticeContent_ribbon _ r) rfl
    | tape => exact exec_collect_first htakes hsome rfl rfl (noticeContent_tape _) rfl
    | terminal l =>
      refine exec_collect_first htakes hsome rfl rfl ?_ (forwardsText_terminal _ l)
      rw [noticeContent_terminal]
      dsimp only
      cases (s.device.terminal l).testResult <;> rfl
    | settled => exact exec_collect_first htakes hsome rfl rfl rfl rfl
    | channel => exact exec_collect_first htakes hsome rfl rfl rfl rfl

end Sys2Proof.Machine
end


section
/-! PROOFS. SETTLE and the reports that pay it (O58). -/

namespace Sys2Proof.Machine

variable {d : Device} {s : State}

/-! ## The reports -/

/-- A device after a report that leaves the record `y`: completed when nothing is owed any more (R176, R177). -/
def Reported (d : Device) (y : Settle) (e : Device) : Prop :=
  e.channel.settle = settleChecked y ∧
  (y.rowsStillOwing = 0 ∧ y.unsettled = [] → Notice.settled ∈ e.notices) ∧
  (¬ (y.rowsStillOwing = 0 ∧ y.unsettled = []) → e.notices = d.notices) ∧ ChangesOnly [.settle, .notices] d e

theorem settleReport_reported (f : Settle → Settle) (h : d.channel.settle.outstanding = true) :
    Reported d (f d.channel.settle) (d.settleReport f) := by
  refine ⟨by rw [settle_settleReport, if_pos h], fun hpaid => (mem_settleReport d f _).2 (.inr ⟨h, rfl, hpaid⟩),
    fun howing => ?_, settleReport_changes d f⟩
  have hreport : d.settleReport f = (d.modSettle f).settleCheck := if_pos h
  rw [hreport, settleCheck_of_owing (d := d.modSettle f) howing]
  rfl

theorem settleReport_of_closed (f : Settle → Settle) (h : d.channel.settle.outstanding = false) :
    d.settleReport f = d := if_neg (by simp [h])

theorem reportReached_of_unsettled {r : RibbonNo} {id : Nat} (h : (r, id) ∈ d.channel.settle.unsettled) :
    d.reportReached r id = d.settleReport (fun x =>
      { x with unsettled := x.unsettled.filter (fun p => p.1 ≠ r), ribbonsReached := x.ribbonsReached + 1 }) := if_pos h

theorem reportStopped_of_unsettled {r : RibbonNo} {id : Nat} (h : (r, id) ∈ d.channel.settle.unsettled) :
    d.reportStopped r = d.settleReport (fun x =>
      { x with unsettled := x.unsettled.filter (fun p => p.1 ≠ r), ribbonsStopped := x.ribbonsStopped + 1 }) :=
  if_pos (List.any_eq_true.2 ⟨_, h, by simp⟩)

theorem reportReached_of_closed (r : RibbonNo) (id : Nat) (h : d.channel.settle.outstanding = false) :
    d.reportReached r id = d := by
  unfold Device.reportReached
  rw [settleReport_of_closed _ h, ite_self]

theorem reportStopped_of_closed (r : RibbonNo) (h : d.channel.settle.outstanding = false) : d.reportStopped r = d := by
  unfold Device.reportStopped
  rw [settleReport_of_closed _ h, ite_self]

/-! ## What a SETTLE finds owed -/

theorem row_setOwed (d : Device) (r : RowNo) : (setOwed d).row r = { d.row r with owed := owedBy (d.row r) } := by
  unfold setOwed
  rw [row_forEach (F := fun x => { x with owed := owedBy x }) (P := fun _ => True) (fun _ _ _ _ => trivial)
      (fun r _ q e _ => row_modRow e r q _) (l := everyRow) (List.nodup_finRange 256) trivial r,
    if_pos (show r ∈ everyRow from List.mem_finRange r)]

theorem find?_reverse_eq_getLast? {α : Type} (p : α → Bool) (l : List α) : l.reverse.find? p = (l.filter p).getLast? := by
  rw [← List.head?_filter, List.filter_reverse, List.head?_reverse]

theorem settleTarget_eq (d : Device) (r : RibbonNo) : settleTarget d r =
    if ((d.ribbon r).state = .running ∨ (d.ribbon r).state = .draining) ∧ (d.ribbon r).backlog ≠ 0 then
      ((d.tape.entries.filter (fun y => r ∈ y.pending && (d.ribbon r).current != some y.id)).getLast?).map (·.id)
    else none := by
  unfold settleTarget
  dsimp only
  rw [find?_reverse_eq_getLast?]
  refine if_congr Iff.rfl ?_ rfl
  congr 3
  funext y
  rw [Bool.eq_iff_iff]
  simp

theorem owingRows_eq (d : Device) : owingRows d = (everyRow.filter (fun r => owedBy (d.row r) != 0)).length := by
  unfold owingRows
  congr 2
  funext r
  rw [Bool.eq_iff_iff]
  simp [Nat.pos_iff_ne_zero]

/-! ## The record a SETTLE opens -/

/-- The record at an accepted SETTLE with `rows` that owe and `targets` given (R175, R177). -/
def openedSettle (rows : Nat) (targets : List (RibbonNo × Nat)) (x : Settle) : Settle :=
  ⟨!decide (rows = 0 ∧ targets = []), rows, rows, 0, 0, targets.length, targets, 0, 0,
    if rows = 0 ∧ targets = [] then ⟨0, 0, 0, 0, 0, 0⟩ else x.result⟩

theorem openSettle_parts (rows : Nat) (targets : List (RibbonNo × Nat)) (d : Device) :
    let e := openSettle (d.modSettle (startedSettle rows targets))
    e.channel.settle = openedSettle rows targets d.channel.settle ∧
    (rows = 0 ∧ targets = [] → Notice.settled ∈ e.notices) ∧ (¬ (rows = 0 ∧ targets = []) → e.notices = d.notices) := by
  intro e
  by_cases hpaid : rows = 0 ∧ targets = []
  · have he : e = (d.modSettle (startedSettle rows targets)).settleCheck := if_pos hpaid
    refine ⟨?_, fun _ => ?_, fun h => absurd hpaid h⟩
    · obtain ⟨rfl, rfl⟩ := hpaid
      rw [he, settle_settleCheck]
      rfl
    · rw [he]
      exact (mem_settleCheck _ _).2 (.inr ⟨rfl, hpaid⟩)
  · have he : e = (d.modSettle (startedSettle rows targets)).modSettle (fun x => { x with outstanding := true }) :=
      if_neg hpaid
    refine ⟨?_, fun h => absurd h hpaid, fun _ => by rw [he]; rfl⟩
    rw [he]
    show _ = Settle.mk (!decide (rows = 0 ∧ targets = [])) _ _ _ _ _ _ _ _ (if rows = 0 ∧ targets = [] then _ else _)
    rw [decide_eq_false hpaid, if_neg hpaid]
    rfl

theorem settleNow_of_outstanding (h : d.channel.settle.outstanding = true) : settleNow () d = (d, refuse .busy) :=
  if_pos h

/-- The data of an accepted SETTLE: the rows that owe, the targets, and whether it is complete at once (R175). -/
def settleData (rows : Nat) (targets : List (RibbonNo × Nat)) : List Byte :=
  wordBytes rows ++ [byte targets.length, if rows = 0 ∧ targets = [] then 1 else 0]

theorem settleNow_of_idle (h : d.channel.settle.outstanding = false) : settleNow () d =
    (openSettle ((setOwed d).modSettle (startedSettle (owingRows d) (settleTargets d))),
      accept (settleData (owingRows d) (settleTargets d))) := by
  have hflag : flagByte (owingRows d == 0 && (settleTargets d).isEmpty) =
      if owingRows d = 0 ∧ settleTargets d = [] then 1 else 0 := by
    unfold flagByte
    simp
  unfold settleNow
  rw [if_neg (by simp [h])]
  dsimp only
  rw [hflag]
  rfl

/-- What an accepted SETTLE leaves in the part. -/
theorem settleNow_parts (h : d.channel.settle.outstanding = false) :
    let e := (settleNow () d).1
    let none_ := owingRows d = 0 ∧ settleTargets d = []
    e.channel.settle = openedSettle (owingRows d) (settleTargets d) d.channel.settle ∧
    (∀ r, e.row r = { d.row r with owed := owedBy (d.row r) }) ∧
    (none_ → Notice.settled ∈ e.notices) ∧ (¬ none_ → e.notices = d.notices) := by
  intro e none_
  have he : e = openSettle ((setOwed d).modSettle (startedSettle (owingRows d) (settleTargets d))) := by
    show (settleNow () d).1 = _
    rw [settleNow_of_idle h]
  obtain ⟨hsettle, hpaid, howing⟩ := openSettle_parts (owingRows d) (settleTargets d) (setOwed d)
  have hold : (setOwed d).channel.settle = d.channel.settle := setOwed_changes d .settle (by simp)
  have hnotices : (setOwed d).notices = d.notices := setOwed_changes d .notices (by simp)
  rw [he]
  refine ⟨hsettle.trans (by rw [hold]), fun r => ?_, hpaid, fun hn => (howing hn).trans hnotices⟩
  rw [(openSettle_changes _).row_eq (by simp), (modSettle_changes _ _).row_eq (by simp), row_setOwed]

/-- Settles O58: the debts are counted before the record opens, and each report goes through the completion check. -/
theorem settleCountsWhatIsOwed : Obligations.SettleCountsWhatIsOwed := by
  refine ⟨fun s htakes => ?_, fun d => ⟨fun hout => ⟨?_, ?_, fun r id hr => ⟨?_, ?_⟩⟩, fun hout => ⟨?_, ?_, fun r id => ⟨?_, ?_⟩⟩⟩⟩
  · intro d owed rows target targets none_ x
    have howed : owed = owedBy := by
      funext y
      simp only [owed, owedBy]
      cases y.display <;> rfl
    have hrows : rows = owingRows (beginWork 0x41 [] d) := by
      simp only [rows, howed]
      exact (owingRows_eq d).symm
    have htargets : targets = settleTargets (beginWork 0x41 [] d) := by
      have htarget : target = settleTarget (beginWork 0x41 [] d) := by
        funext r
        exact (settleTarget_eq d r).symm
      simp only [targets, htarget]
      rfl
    refine ⟨fun hout => ?_, fun hout => ?_⟩
    · exact exec_refused htakes (fields := .ok ()) rfl (settleNow_of_outstanding hout)
    · have hwork := settleNow_of_idle (d := beginWork 0x41 [] d) hout
      obtain ⟨hsettle, hrow, hpaid, howing⟩ := settleNow_parts (d := beginWork 0x41 [] d) hout
      have hchanges := settleNow_changes (beginWork 0x41 [] d)
      simp only [none_]
      rw [hrows, htargets, howed]
      rw [hwork] at hsettle hrow hpaid howing hchanges
      refine ⟨_, exec_accepted htakes (fields := .ok ()) rfl hwork, rfl, ?_, hrow, hpaid, howing,
        (ready_changes _ hchanges).mono (by simp)⟩
      refine (channel_readyReply _ (hchanges .link (by simp))).trans ?_
      rw [hsettle, show _ = _ from hchanges .reservation (by simp)]
      rfl
  · exact settleReport_reported _ hout
  · exact settleReport_reported _ hout
  · rw [reportReached_of_unsettled hr]
    exact settleReport_reported _ hout
  · rw [reportStopped_of_unsettled hr]
    exact settleReport_reported _ hout
  · exact settleReport_of_closed _ hout
  · exact settleReport_of_closed _ hout
  · exact reportReached_of_closed r id hout
  · exact reportStopped_of_closed r hout

end Sys2Proof.Machine
end


section
/-! PROOFS. The items of the output queue: which item waits first, what it writes, and when the room event ends (O52). -/

namespace Sys2Proof.Machine

variable {d e : Device} {t : LineNo}

/-! ## Page marks -/

theorem marked_setMark (y : Dealer) (p q : PageNo) (b : Bool) :
    (y.setMark p b).marked q = if q = p then b else y.marked q := by
  unfold Dealer.marked Dealer.setMark
  split
  · next h => rw [h]; exact tableGet_set_same _ _ _ _
  · next h => exact tableGet_set_other _ _ _ _ _ h

theorem marked_foldl_setMark (l : List PageNo) (y : Dealer) (q : PageNo) :
    (l.foldl (fun y p => y.setMark p true) y).marked q = (decide (q ∈ l) || y.marked q) := by
  induction l generalizing y with
  | nil => simp
  | cons p l ih =>
    rw [List.foldl_cons, ih, marked_setMark]
    by_cases hq : q = p <;> simp [hq]

theorem marked_markAll (y : Dealer) (p : PageNo) : (markAll y).marked p = true :=
  (marked_foldl_setMark everyPage y p).trans (by simp [everyPage])

/-- The marked entry an item is made of is the one with the lowest number. -/
theorem markedEntry_eq_some {y : Dealer} {p : PageNo} (hp : y.marked p = true) (hlow : ∀ q, q < p → y.marked q = false) :
    markedEntry y = some p := by
  refine List.find?_eq_some_iff_getElem.2 ⟨hp, p.val, by simp [everyPage], by simp [everyPage], fun j hj => ?_⟩
  have hlt : everyPage[j]'(by simp [everyPage]; omega) < p := by simpa [everyPage, Fin.lt_def] using hj
  simp [hlow _ hlt]

theorem markedEntry_eq_none {y : Dealer} (h : ∀ p, y.marked p = false) : markedEntry y = none :=
  List.find?_eq_none.2 fun p _ => by simp [h p]

/-! ## The item that waits first (R139, R146) -/

theorem roomStep_of_redraw (h : (d.dealer t).redrawOwed = true) : roomStep t d =
    if (clearItem (d.terminal t)).length ≤ freeRoom (d.terminal t) then
      some ((enterItem t (clearItem (d.terminal t)) d).modDealer t (fun y =>
        markAll { y with redrawOwed := false, ringNext := Config.ringFirst, ringNewest := none }))
    else none := by
  unfold roomStep
  dsimp only
  rw [if_pos h]

theorem roomStep_of_reply {r : Text} (h : (d.dealer t).redrawOwed = false) (hr : (d.terminal t).reply = some r) :
    roomStep t d =
      if (replyItem (d.terminal t) r).length ≤ freeRoom (d.terminal t) then
        some ((enterItem t (replyItem (d.terminal t) r) d).modTerminal t (fun x => { x with reply := none }))
      else none := by
  unfold roomStep
  dsimp only
  rw [if_neg (by simp [h]), hr]

theorem roomStep_of_hostText {r : Text} (h : (d.dealer t).redrawOwed = false) (hr : (d.terminal t).reply = none)
    (hh : (d.terminal t).hostText = some r) : roomStep t d =
      if (replyItem (d.terminal t) r).length ≤ freeRoom (d.terminal t) then
        some ((enterItem t (replyItem (d.terminal t) r) d).modTerminal t (fun x => { x with hostText := none }))
      else none := by
  unfold roomStep
  dsimp only
  rw [if_neg (by simp [h]), hr, hh]

theorem roomStep_of_alert {a : Alert} {rest : List Alert} (h : (d.dealer t).redrawOwed = false)
    (hr : (d.terminal t).reply = none) (hh : (d.terminal t).hostText = none) (ha : (d.dealer t).alerts = a :: rest) :
    roomStep t d =
      if (alertItem d t a).length ≤ freeRoom (d.terminal t) then
        some ((enterItem t (alertItem d t a) d).modDealer t (fun y =>
          { y with alerts := rest, ringNewest := some y.ringNext, ringNext := ringAfter y.ringNext }))
      else none := by
  unfold roomStep
  dsimp only
  rw [if_neg (by simp [h]), hr, hh, ha]

theorem roomStep_of_page (h : (d.dealer t).redrawOwed = false) (hr : (d.terminal t).reply = none)
    (hh : (d.terminal t).hostText = none) (ha : (d.dealer t).alerts = []) : roomStep t d =
      match markedEntry (d.dealer t) with
      | some p =>
        if Config.pageLineRoom ≤ freeRoom (d.terminal t) then
          some ((enterItem t (pageItem d t p) d).modDealer t (fun y => y.setMark p false))
        else none
      | none => none := by
  unfold roomStep
  dsimp only
  rw [if_neg (by simp [h]), hr, hh, ha] <;> rfl

/-! ## What an item changes -/

theorem entered_modDealer (t : LineNo) (item : Text) (f : Dealer → Dealer) (d : Device) :
    let e := (enterItem t item d).modDealer t f
    e.terminal t = { d.terminal t with queue := (d.terminal t).queue ++ item } ∧ e.dealer t = f (d.dealer t) ∧
    (∀ k, k ≠ t → e.terminal k = d.terminal k ∧ e.dealer k = d.dealer k) ∧ ChangesOnly [.terminals, .dealers] d e := by
  refine ⟨?_, ?_, fun k hk => ⟨?_, ?_⟩,
    (enterItem_changes t item d).andThen (modDealer_changes _ t f) (by simp) (by simp)⟩
  · simp [enterItem, Device.modTerminal_eq, Device.modDealer_eq]
  · simp [enterItem, Device.modTerminal_eq, Device.modDealer_eq]
  · simp [enterItem, Device.modTerminal_eq, Device.modDealer_eq, Device.terminal_setTerminal, hk]
  · simp [enterItem, Device.modTerminal_eq, Device.modDealer_eq, Device.dealer_setDealer, hk]

theorem entered_modTerminal (t : LineNo) (item : Text) (f : Terminal → Terminal) (d : Device) :
    let e := (enterItem t item d).modTerminal t f
    e.terminal t = f { d.terminal t with queue := (d.terminal t).queue ++ item } ∧ e.dealer t = d.dealer t ∧
    (∀ k, k ≠ t → e.terminal k = d.terminal k ∧ e.dealer k = d.dealer k) ∧ ChangesOnly [.terminals, .dealers] d e := by
  refine ⟨?_, ?_, fun k hk => ⟨?_, ?_⟩,
    ((enterItem_changes t item d).trans (modTerminal_changes _ t f)).mono (by simp)⟩
  · simp [enterItem, Device.modTerminal_eq]
  · simp [enterItem, Device.modTerminal_eq]
  · simp [enterItem, Device.modTerminal_eq, Device.terminal_setTerminal, hk]
  · simp [enterItem, Device.modTerminal_eq]

/-! ## The end of a room event -/

/-- The items that wait at a terminal; the marks behind an owed redraw are counted as all eight. -/
def waitingItems (d : Device) (t : LineNo) : Nat :=
  (d.terminal t).reply.toList.length + (d.terminal t).hostText.toList.length + (d.dealer t).alerts.length +
    if (d.dealer t).redrawOwed then 9 else (everyPage.filter (d.dealer t).marked).length

theorem waitingItems_le (d : Device) (t : LineNo) : waitingItems d t ≤ waitingBound d t := by
  have hmarks : (everyPage.filter (d.dealer t).marked).length ≤ 8 :=
    (List.length_filter_le _ _).trans (by simp [everyPage])
  have hslot (x : Option Text) : x.toList.length ≤ 1 := by cases x <;> simp
  have hreply := hslot (d.terminal t).reply
  have htext := hslot (d.terminal t).hostText
  unfold waitingItems waitingBound
  split <;> omega

theorem marks_setMark_lt {y : Dealer} {p : PageNo} (h : y.marked p = true) :
    (everyPage.filter (y.setMark p false).marked).length < (everyPage.filter y.marked).length := by
  have hfilter : everyPage.filter (y.setMark p false).marked = (everyPage.filter y.marked).filter (fun q => q ≠ p) := by
    rw [List.filter_filter]
    congr 1
    funext q
    rw [marked_setMark]
    by_cases hq : q = p <;> simp [hq]
  rw [hfilter]
  refine List.length_filter_lt_length_iff_exists.2 ⟨p, List.mem_filter.2 ⟨List.mem_finRange p, h⟩, by simp⟩

/-- Every item that enters is one fewer that waits. -/
theorem waitingItems_roomStep (h : roomStep t d = some e) : waitingItems e t < waitingItems d t := by
  by_cases hredraw : (d.dealer t).redrawOwed = true
  · rw [roomStep_of_redraw hredraw, Option.ite_none_right_eq_some] at h
    obtain ⟨_, h⟩ := h
    obtain ⟨hterm, hdealer, _⟩ := entered_modDealer t (clearItem (d.terminal t)) (fun y =>
      markAll { y with redrawOwed := false, ringNext := Config.ringFirst, ringNewest := none }) d
    have hmarks : (everyPage.filter (e.dealer t).marked).length ≤ 8 :=
      (List.length_filter_le _ _).trans (by simp [everyPage])
    rw [Option.some.inj h, markAll_eq] at hdealer
    rw [Option.some.inj h] at hterm
    unfold waitingItems
    rw [if_pos hredraw, if_neg (by simp [hdealer]), hterm]
    have halerts : (e.dealer t).alerts = (d.dealer t).alerts := by rw [hdealer]
    rw [halerts]
    dsimp only
    omega
  rw [Bool.not_eq_true] at hredraw
  cases hreply : (d.terminal t).reply with
  | some r =>
    rw [roomStep_of_reply hredraw hreply, Option.ite_none_right_eq_some] at h
    obtain ⟨hterm, hdealer, _⟩ := entered_modTerminal t (replyItem (d.terminal t) r) (fun x => { x with reply := none }) d
    rw [Option.some.inj h.2] at hterm hdealer
    simp [waitingItems, hterm, hdealer, hredraw, hreply]
  | none =>
  cases htext : (d.terminal t).hostText with
  | some r =>
    rw [roomStep_of_hostText hredraw hreply htext, Option.ite_none_right_eq_some] at h
    obtain ⟨hterm, hdealer, _⟩ := entered_modTerminal t (replyItem (d.terminal t) r) (fun x => { x with hostText := none }) d
    rw [Option.some.inj h.2] at hterm hdealer
    simp [waitingItems, hterm, hdealer, hredraw, htext]
  | none =>
  cases halerts : (d.dealer t).alerts with
  | cons a rest =>
    rw [roomStep_of_alert hredraw hreply htext halerts, Option.ite_none_right_eq_some] at h
    obtain ⟨hterm, hdealer, _⟩ := entered_modDealer t (alertItem d t a) (fun y =>
      { y with alerts := rest, ringNewest := some y.ringNext, ringNext := ringAfter y.ringNext }) d
    rw [Option.some.inj h.2] at hterm hdealer
    have hmarked : (e.dealer t).marked = (d.dealer t).marked := by rw [hdealer]; rfl
    unfold waitingItems
    rw [hmarked]
    simp [hterm, hdealer, hredraw, halerts]
  | nil =>
    rw [roomStep_of_page hredraw hreply htext halerts] at h
    split at h
    · next p hp =>
      rw [Option.ite_none_right_eq_some] at h
      obtain ⟨hterm, hdealer, _⟩ := entered_modDealer t (pageItem d t p) (fun y => y.setMark p false) d
      rw [Option.some.inj h.2] at hterm hdealer
      have hlt := marks_setMark_lt (List.find?_some (p := (d.dealer t).marked) hp)
      have hredraw' : ((d.dealer t).setMark p false).redrawOwed = false := hredraw
      have halerts' : ((d.dealer t).setMark p false).alerts = [] := halerts
      simp only [waitingItems, hterm, hdealer, hredraw, hredraw', halerts, halerts']
      simpa using hlt
    · cases h

theorem roomStep_roomLoop (n : Nat) (h : waitingItems d t ≤ n) : roomStep t (roomLoop n t d) = none := by
  induction n generalizing d with
  | zero =>
    cases hstep : roomStep t d with
    | none => exact hstep
    | some e => exact absurd (waitingItems_roomStep hstep) (by omega)
  | succ n ih =>
    unfold roomLoop
    split
    · next e hstep => exact ih (by have := waitingItems_roomStep hstep; omega)
    · next hstep => exact hstep

theorem roomEvent_of_active (h : (d.terminal t).state = .active) : roomEvent t d =
    roomLoop (waitingBound (startCharacter t (roomLoop (waitingBound d t) t d)) t) t
      (startCharacter t (roomLoop (waitingBound d t) t d)) := if_pos h

/-- After a room event no waiting item fits. -/
theorem roomStep_roomEvent (h : (d.terminal t).state = .active) : roomStep t (roomEvent t d) = none := by
  rw [roomEvent_of_active h]
  exact roomStep_roomLoop _ (waitingItems_le _ t)

theorem startCharacter_of_idle {c : Byte} {rest : Text} (hidle : (d.terminal t).transmitter = none)
    (hqueue : (d.terminal t).queue = c :: rest) : startCharacter t d =
      d.setTerminal t { d.terminal t with
        queue := rest, transmitter := some ⟨carried (d.terminal t).format c, (d.terminal t).format, (d.terminal t).rate, false⟩ } := by
  unfold startCharacter
  dsimp only
  rw [hidle, hqueue]

theorem startCharacter_of_not (h : (d.terminal t).transmitter ≠ none ∨ (d.terminal t).queue = []) :
    startCharacter t d = d := by
  unfold startCharacter
  dsimp only
  split
  · next hidle hqueue => simp_all
  · rfl

/-- What the loop leaves of a transmitter: nothing is started by it. -/
theorem transmitter_roomStep (h : roomStep t d = some e) : (e.terminal t).transmitter = (d.terminal t).transmitter := by
  unfold roomStep at h
  dsimp only at h
  repeat' split at h
  all_goals cases h
  all_goals simp [enterItem, Device.modTerminal_eq, Device.modDealer_eq]

theorem transmitter_roomLoop (n : Nat) : ((roomLoop n t d).terminal t).transmitter = (d.terminal t).transmitter := by
  induction n generalizing d with
  | zero => rfl
  | succ n ih =>
    unfold roomLoop
    split
    · next e hstep => exact ih.trans (transmitter_roomStep hstep)
    · rfl

theorem roomLoop_of_none (n : Nat) (h : roomStep t d = none) : roomLoop n t d = d := by
  cases n with
  | zero => rfl
  | succ n => simp [roomLoop, h]

/-- A room event leaves the transmitter idle only over an empty queue. -/
theorem queue_roomEvent_of_idle (h : (d.terminal t).state = .active)
    (hidle : ((roomEvent t d).terminal t).transmitter = none) : ((roomEvent t d).terminal t).queue = [] := by
  rw [roomEvent_of_active h] at hidle ⊢
  rw [transmitter_roomLoop] at hidle
  have hnone := roomStep_roomLoop _ (waitingItems_le d t)
  generalize roomLoop (waitingBound d t) t d = a at hidle hnone ⊢
  by_cases hstart : (a.terminal t).transmitter ≠ none ∨ (a.terminal t).queue = []
  · rw [startCharacter_of_not hstart] at hidle ⊢
    rw [roomLoop_of_none _ hnone]
    exact hstart.resolve_left (not_not.2 hidle)
  · rw [not_or, not_not] at hstart
    obtain ⟨c, rest, hqueue⟩ := List.exists_cons_of_ne_nil hstart.2
    rw [startCharacter_of_idle hstart.1 hqueue] at hidle
    simp at hidle

/-! ## The texts of the items -/

theorem clearItem_eq (x : Terminal) : clearItem x = [0x10, 0x43] ++ returnTo x := rfl

theorem length_replyItem (x : Terminal) (r : Text) : (replyItem x r).length = r.length + 8 := by
  simp [replyItem]
  omega

/-- The text of an alert, condition by condition (R158). -/
theorem alertText_eq (d : Device) (t : LineNo) (a : Alert) : alertText d t a =
    match a with
    | .ended symbol => txt ['W', 'A', 'T', 'C', 'H', ' ', 'E', 'N', 'D', 'E', 'D', ' '] ++ symbol
    | .watch i c =>
      fieldText (d.slot i) false .symbol 7 ++ [0x20] ++ priceField (d.slot i).last (d.slot i).e 13 ++ [0x20] ++
        (if c = .any then txt ['T', 'R', 'A', 'D', 'E']
        else conditionSign c ++ [0x20] ++ priceField ((findWatch d t i c).bind (·.threshold)) (d.slot i).e 13) := by
  cases a with
  | ended symbol => rfl
  | watch i c =>
    have hblank : blank = 0x20 := rfl
    have htrade : txt [' ', 'T', 'R', 'A', 'D', 'E'] = 0x20 :: txt ['T', 'R', 'A', 'D', 'E'] := rfl
    have hsign (c : Condition) : conditionText c = conditionSign c := by cases c <;> rfl
    cases c <;> simp [alertText, hblank, htrade, hsign]

/-- What R139 asks of an item: it does not enter below its room, and else it enters whole. -/
def Enters (t : LineNo) (d : Device) (need : Nat) (item : Text) (after : Terminal → Terminal) (P : Dealer → Prop) : Prop :=
  (512 - (d.terminal t).queue.length < need → roomStep t d = none) ∧
  (need ≤ 512 - (d.terminal t).queue.length → ∃ e, roomStep t d = some e ∧
    e.terminal t = after { d.terminal t with queue := (d.terminal t).queue ++ item } ∧ P (e.dealer t) ∧
    (∀ k, k ≠ t → e.terminal k = d.terminal k ∧ e.dealer k = d.dealer k) ∧ ChangesOnly [.terminals, .dealers] d e)

theorem enters_modDealer {need : Nat} {item : Text} {f : Dealer → Dealer} {P : Dealer → Prop}
    (hstep : roomStep t d =
      if need ≤ freeRoom (d.terminal t) then some ((enterItem t item d).modDealer t f) else none)
    (hP : P (f (d.dealer t))) : Enters t d need item id P := by
  obtain ⟨hterm, hdealer, hrest⟩ := entered_modDealer t item f d
  exact ⟨fun h => hstep.trans (if_neg (Nat.not_le.2 h)),
    fun h => ⟨_, hstep.trans (if_pos h), hterm, hdealer ▸ hP, hrest⟩⟩

theorem enters_modTerminal {need : Nat} {item : Text} {f : Terminal → Terminal}
    (hstep : roomStep t d =
      if need ≤ freeRoom (d.terminal t) then some ((enterItem t item d).modTerminal t f) else none) :
    Enters t d need item f (fun z => z = d.dealer t) := by
  obtain ⟨hterm, hdealer, hrest⟩ := entered_modTerminal t item f d
  exact ⟨fun h => hstep.trans (if_neg (Nat.not_le.2 h)), fun h => ⟨_, hstep.trans (if_pos h), hterm, hdealer, hrest⟩⟩

/-- Settles O52: one equation per kind of waiting item; the fuel of the loop bounds the items that wait. -/
theorem itemsEnterByPriority : Obligations.ItemsEnterByPriority := by
  intro d l x y room enters textItem head told alerted place pageLine
  have henters : enters = Enters l d := rfl
  rw [henters]
  refine ⟨fun hy => ?_, fun hy r hr => ?_, fun hy hr r hh => ?_, fun hy hr hh a rest ha => ?_,
    fun hy hr hh ha p hp hlow => ?_, fun hy hr hh ha hnone => ?_,
    fun hx => ⟨roomStep_roomEvent hx, queue_roomEvent_of_idle hx, (roomEvent_entered l d).written⟩,
    roomEvent_of_not_active⟩
  · refine enters_modDealer (roomStep_of_redraw hy) ?_
    refine ⟨?_, ?_, ?_, marked_markAll _, ?_, ?_, ?_⟩ <;> rw [markAll_eq] <;> rfl
  · rw [← length_replyItem x r]
    exact enters_modTerminal (roomStep_of_reply hy hr)
  · rw [← length_replyItem x r]
    exact enters_modTerminal (roomStep_of_hostText hy hr hh)
  · have hitem : alerted a = alertItem d l a := by
      have htext : told a = alertText d l a := by
        rw [alertText_eq]
        cases a <;> rfl
      simp only [alerted, htext, head, alertItem]
      cases y.ringNewest <;> simp [y] <;> rfl
    rw [hitem]
    exact enters_modDealer (roomStep_of_alert hy hr hh ha) rfl
  · have hitem : pageLine p = pageItem d l p := by
      simp only [pageLine, place, pageItem]
      cases hentry : (d.dealer l).entry p <;> simp [y, hentry, pageText] <;> rfl
    rw [hitem]
    have hstep := roomStep_of_page hy hr hh ha
    rw [markedEntry_eq_some hp hlow] at hstep
    refine enters_modDealer hstep ⟨?_, fun q hq => ?_, rfl⟩
    · rw [marked_setMark, if_pos rfl]
    · rw [marked_setMark, if_neg hq]
  · rw [roomStep_of_page hy hr hh ha, markedEntry_eq_none hnone]

end Sys2Proof.Machine
end


section
/-! PROOFS. RESTART: what every block keeps and what it gives up (O59). -/

namespace Sys2Proof.Machine

variable {d e : Device} {s : State} {t : LineNo}

/-! ## One object among the objects of a fold -/

/-- A fold over distinct objects, seen from one of them: what the others do comes before and after its own turn. -/
theorem forEach_around {α : Type} {R : Device → Device → Prop} {f : α → Device → Device} {l : List α} {x : α}
    (hrefl : ∀ d, R d d) (htrans : ∀ a b c, R a b → R b c → R a c)
    (hother : ∀ y ∈ l, y ≠ x → ∀ d, R d (f y d)) (hl : l.Nodup) (hx : x ∈ l) (d : Device) :
    ∃ e, R d e ∧ R (f x e) (forEach l f d) := by
  have hwithout : ∀ (m : List α), (∀ y ∈ m, y ∈ l) → x ∉ m → ∀ d, R d (forEach m f d) := by
    intro m
    induction m with
    | nil => exact fun _ _ d => hrefl d
    | cons y m ih =>
      intro hm hxm d
      rw [List.mem_cons, not_or] at hxm
      rw [forEach_cons]
      exact htrans _ _ _ (hother y (hm y (by simp)) (Ne.symm hxm.1) d) (ih (fun z hz => hm z (by simp [hz])) hxm.2 _)
  obtain ⟨before, after, rfl⟩ := List.append_of_mem hx
  have hnot : x ∉ before := fun h => (List.nodup_append.1 hl).2.2 x h x (by simp) rfl
  have hnot' : x ∉ after := (List.nodup_cons.1 (List.nodup_append.1 hl).2.1).1
  refine ⟨forEach before f d, hwithout before (fun y hy => by simp [hy]) hnot d, ?_⟩
  have hsplit : forEach (before ++ x :: after) f d = forEach after f (f x (forEach before f d)) := List.foldl_append
  rw [hsplit]
  exact hwithout after (fun y hy => by simp [hy]) hnot' _

/-- A step of the others leaves terminal t and its dealer as they are, and changes only the parts of l. -/
structure LineKept (l : List Part) (t : LineNo) (d e : Device) : Prop where
  terminal : e.terminal t = d.terminal t
  dealer : e.dealer t = d.dealer t
  parts : ChangesOnly l d e

theorem LineKept.refl (l : List Part) (t : LineNo) (d : Device) : LineKept l t d d := ⟨rfl, rfl, .refl _ d⟩

theorem LineKept.trans {l : List Part} {a b c : Device} (h : LineKept l t a b) (k : LineKept l t b c) : LineKept l t a c :=
  ⟨k.terminal.trans h.terminal, k.dealer.trans h.dealer, h.parts.trans k.parts⟩

theorem ItemsEntered.lineKept {k : LineNo} (h : ItemsEntered k d e) (hk : t ≠ k) : LineKept [.terminals, .dealers] t d e :=
  ⟨h.other_terminal t hk, h.other_dealer t hk, h.parts⟩

/-! ## The ring after a clear-screen (R146, R158) -/

/-- What a redraw leaves for the next: with no alert waiting, the ring stays where the clear-screen has set it. -/
structure RingKept (t : LineNo) (d e : Device) : Prop where
  redraw : (e.dealer t).redrawOwed = (d.dealer t).redrawOwed
  alerts : (e.dealer t).alerts = []
  next : (e.dealer t).ringNext = (d.dealer t).ringNext
  newest : (e.dealer t).ringNewest = (d.dealer t).ringNewest

theorem RingKept.refl (halerts : (d.dealer t).alerts = []) : RingKept t d d := ⟨rfl, halerts, rfl, rfl⟩

theorem RingKept.trans {a b c : Device} (h : RingKept t a b) (k : RingKept t b c) : RingKept t a c :=
  ⟨k.redraw.trans h.redraw, k.alerts, k.next.trans h.next, k.newest.trans h.newest⟩

theorem roomStep_ringKept (hredraw : (d.dealer t).redrawOwed = false) (halerts : (d.dealer t).alerts = [])
    (h : roomStep t d = some e) : RingKept t d e := by
  have hdealer : ∃ marks, e.dealer t = { d.dealer t with marks := marks } := by
    cases hreply : (d.terminal t).reply with
    | some r =>
      rw [roomStep_of_reply hredraw hreply, Option.ite_none_right_eq_some] at h
      exact ⟨_, Option.some.inj h.2 ▸ (entered_modTerminal t _ _ d).2.1⟩
    | none =>
    cases htext : (d.terminal t).hostText with
    | some r =>
      rw [roomStep_of_hostText hredraw hreply htext, Option.ite_none_right_eq_some] at h
      exact ⟨_, Option.some.inj h.2 ▸ (entered_modTerminal t _ _ d).2.1⟩
    | none =>
      rw [roomStep_of_page hredraw hreply htext halerts] at h
      split at h
      · rw [Option.ite_none_right_eq_some] at h
        exact ⟨_, Option.some.inj h.2 ▸ (entered_modDealer t _ _ d).2.1⟩
      · cases h
  obtain ⟨marks, hdealer⟩ := hdealer
  exact ⟨by rw [hdealer], by rw [hdealer]; exact halerts, by rw [hdealer], by rw [hdealer]⟩

theorem roomLoop_ringKept (n : Nat) (hredraw : (d.dealer t).redrawOwed = false) (halerts : (d.dealer t).alerts = []) :
    RingKept t d (roomLoop n t d) := by
  induction n generalizing d with
  | zero => exact .refl halerts
  | succ n ih =>
    unfold roomLoop
    split
    · next e hstep =>
      have hkept := roomStep_ringKept hredraw halerts hstep
      exact hkept.trans (ih (hkept.redraw.trans hredraw) hkept.alerts)
    · exact .refl halerts

theorem dealer_startCharacter (k : LineNo) (d : Device) : (startCharacter t d).dealer k = d.dealer k := by
  unfold startCharacter
  dsimp only
  split <;> rfl

/-- After a redraw is owed on an ACTIVE line whose queue is empty, the clear-screen has entered: nothing is owed, and the
ring begins again at its first line. -/
theorem roomEvent_redrawn (hactive : (d.terminal t).state = .active) (hqueue : (d.terminal t).queue = [])
    (howed : (d.dealer t).redrawOwed = true) (halerts : (d.dealer t).alerts = []) :
    ((roomEvent t d).dealer t).redrawOwed = false ∧ ((roomEvent t d).dealer t).ringNext = 12 ∧
      ((roomEvent t d).dealer t).ringNewest = none ∧ ((roomEvent t d).dealer t).alerts = [] := by
  have hfits : (clearItem (d.terminal t)).length ≤ freeRoom (d.terminal t) := by
    rw [freeRoom, hqueue, clearItem_eq]
    simp [Config.outputCapacity, returnTo]
  have hstep := (roomStep_of_redraw howed).trans (if_pos hfits)
  obtain ⟨_, hdealer, _⟩ := entered_modDealer t (clearItem (d.terminal t)) (fun y =>
    markAll { y with redrawOwed := false, ringNext := Config.ringFirst, ringNewest := none }) d
  rw [markAll_eq] at hdealer
  generalize (enterItem t (clearItem (d.terminal t)) d).modDealer t (fun y =>
    markAll { y with redrawOwed := false, ringNext := Config.ringFirst, ringNewest := none }) = a at hstep hdealer
  have hloop : roomLoop (waitingBound d t) t d = roomLoop ((d.dealer t).alerts.length + 10) t a := by
    show roomLoop ((d.dealer t).alerts.length + 10 + 1) t d = _
    rw [roomLoop, hstep]
  have hredrawn : (a.dealer t).redrawOwed = false := by rw [hdealer]
  have hempty : (a.dealer t).alerts = [] := by rw [hdealer]; exact halerts
  have hfirst : RingKept t a (startCharacter t (roomLoop (waitingBound d t) t d)) := by
    have hkept := roomLoop_ringKept ((d.dealer t).alerts.length + 10) hredrawn hempty
    rw [hloop]
    exact ⟨by rw [dealer_startCharacter, hkept.redraw], by rw [dealer_startCharacter, hkept.alerts],
      by rw [dealer_startCharacter, hkept.next], by rw [dealer_startCharacter, hkept.newest]⟩
  have hkept := hfirst.trans (roomLoop_ringKept (waitingBound (startCharacter t (roomLoop (waitingBound d t) t d)) t)
    (hfirst.redraw.trans hredrawn) hfirst.alerts)
  rw [roomEvent_of_active hactive]
  exact ⟨hkept.redraw.trans hredrawn, hkept.next.trans (by rw [hdealer]; rfl), hkept.newest.trans (by rw [hdealer]),
    hkept.alerts⟩

/-! ## A terminal line in a RESTART -/

/-- A terminal line and its dealer after a RESTART (R144, R161). -/
structure LineRestarted (t : LineNo) (d e : Device) : Prop where
  written : WrittenOnly (restartedTerminal (d.terminal t)) (e.terminal t)
  quiet : restartedState (d.terminal t) ≠ .active → e.terminal t = restartedTerminal (d.terminal t)
  alerts : (e.dealer t).alerts = []
  forward : (e.dealer t).forward = []
  page : (e.dealer t).page = (d.dealer t).page
  redrawn : restartedState (d.terminal t) = .active →
    (e.dealer t).redrawOwed = false ∧ (e.dealer t).ringNext = 12 ∧ (e.dealer t).ringNewest = none
  kept : restartedState (d.terminal t) ≠ .active → e.dealer t = { d.dealer t with alerts := [], forward := [] }

/-- The line with all it holds given up, before a redraw is handed over. -/
def restartedLine (t : LineNo) (d : Device) : Device :=
  (d.modTerminal t restartedTerminal).modDealer t (fun y => { y with alerts := [], forward := [] })

theorem terminal_restartedLine (k : LineNo) : (restartedLine t d).terminal k =
    if k = t then restartedTerminal (d.terminal t) else d.terminal k := by
  rw [restartedLine, Device.modDealer_eq, Device.terminal_setDealer, terminal_modTerminal]

theorem dealer_restartedLine (k : LineNo) : (restartedLine t d).dealer k =
    if k = t then { d.dealer t with alerts := [], forward := [] } else d.dealer k := by
  rw [restartedLine, dealer_modDealer, Device.modTerminal_eq, Device.dealer_setTerminal, Device.dealer_setTerminal]

theorem restartTerminal_of_active (h : restartedState (d.terminal t) = .active) :
    restartTerminal t d = oweRedraw t (restartedLine t d) :=
  if_pos (show ((restartedLine t d).terminal t).state = .active by rw [terminal_restartedLine, if_pos rfl]; exact h)

theorem restartTerminal_of_not_active (h : restartedState (d.terminal t) ≠ .active) :
    restartTerminal t d = restartedLine t d :=
  if_neg (show ¬ ((restartedLine t d).terminal t).state = .active by rw [terminal_restartedLine, if_pos rfl]; exact h)

theorem restartTerminal_parts (t : LineNo) (d : Device) : LineRestarted t d (restartTerminal t d) := by
  have hterminal := terminal_restartedLine (d := d) (t := t) t
  have hdealer := dealer_restartedLine (d := d) (t := t) t
  rw [if_pos rfl] at hterminal hdealer
  by_cases h : restartedState (d.terminal t) = .active
  · rw [restartTerminal_of_active h]
    have hentered := roomEvent_entered t ((restartedLine t d).modDealer t (fun y => { y with redrawOwed := true }))
    have hdealer' := dealer_modDealer (restartedLine t d) t t (fun y => { y with redrawOwed := true })
    rw [if_pos rfl, hdealer] at hdealer'
    have hterminal' : ((restartedLine t d).modDealer t (fun y => { y with redrawOwed := true })).terminal t =
        restartedTerminal (d.terminal t) := hterminal
    obtain ⟨hredraw, hnext, hnewest, halerts⟩ := roomEvent_redrawn (t := t)
      (d := (restartedLine t d).modDealer t (fun y => { y with redrawOwed := true })) (by rw [hterminal']; exact h)
      (by rw [hterminal']; rfl) (by rw [hdealer']) (by rw [hdealer'])
    exact ⟨hterminal' ▸ hentered.written, fun hn => absurd h hn, halerts, hentered.forward.trans (by rw [hdealer']),
      hentered.page.trans (by rw [hdealer']), fun _ => ⟨hredraw, hnext, hnewest⟩, fun hn => absurd h hn⟩
  · rw [restartTerminal_of_not_active h]
    exact ⟨hterminal ▸ .refl _, fun _ => hterminal, by rw [hdealer], by rw [hdealer], by rw [hdealer], fun ha => absurd ha h,
      fun _ => hdealer⟩

theorem restartTerminal_lineKept {k : LineNo} (hk : t ≠ k) (d : Device) :
    LineKept [.terminals, .dealers] t d (restartTerminal k d) := by
  have hline : LineKept [.terminals, .dealers] t d (restartedLine k d) :=
    ⟨by rw [terminal_restartedLine, if_neg hk], by rw [dealer_restartedLine, if_neg hk],
      (modTerminal_changes d k _).andThen (modDealer_changes _ k _) (by simp) (by simp)⟩
  by_cases h : restartedState (d.terminal k) = .active
  · rw [restartTerminal_of_active h]
    have howed : LineKept [.terminals, .dealers] t (restartedLine k d)
        ((restartedLine k d).modDealer k (fun y => { y with redrawOwed := true })) :=
      ⟨rfl, (dealer_modDealer _ k t _).trans (if_neg hk), (modDealer_changes _ k _).mono (by simp)⟩
    exact (hline.trans howed).trans ((roomEvent_entered k _).lineKept hk)
  · rw [restartTerminal_of_not_active h]
    exact hline

theorem LineRestarted.congr {a b : Device} {l m : List Part} (h : LineRestarted t d e) (hd : LineKept l t a d)
    (he : LineKept m t e b) : LineRestarted t a b := by
  obtain ⟨written, quiet, alerts, forward, page, redrawn, kept⟩ := h
  rw [hd.terminal, ← he.terminal] at written
  rw [hd.terminal, ← he.terminal] at quiet
  rw [← he.dealer] at alerts forward
  rw [hd.dealer, ← he.dealer] at page
  rw [hd.terminal, ← he.dealer] at redrawn
  rw [hd.terminal, hd.dealer, ← he.dealer] at kept
  exact ⟨written, quiet, alerts, forward, page, redrawn, kept⟩

theorem restartTerminals_parts (t : LineNo) (d : Device) :
    LineRestarted t d (forEach everyLine restartTerminal d) := by
  obtain ⟨e, hbefore, hafter⟩ := forEach_around (R := LineKept [.terminals, .dealers] t) (f := restartTerminal)
    (.refl _ t) (fun _ _ _ h k => h.trans k) (fun k _ hk => restartTerminal_lineKept (Ne.symm hk)) (List.nodup_finRange 16)
    (List.mem_finRange t) d
  exact (restartTerminal_parts t e).congr hbefore hafter

/-! ## The whole part -/

/-- The device before the terminals' turn in a RESTART. -/
def restartedBoard (d : Device) : Device :=
  forEach everyRow restartRow (forEach everySegment restartSegment (restartTape (restartStore d)))

theorem restartedBoard_changes (d : Device) :
    ChangesOnly [.slots, .tape, .ribbons, .segments, .lines, .rows] d (restartedBoard d) :=
  (((restartStore_changes d).mono (by simp)).trans ((restartTape_changes _).mono (by simp))).trans
    ((((ChangesOnly.forEach restartSegment_changes everySegment _).mono (by simp)).trans
      ((ChangesOnly.forEach restartRow_changes everyRow _).mono (by simp))))

theorem restartTerminals_changes (d : Device) : ChangesOnly [.terminals, .dealers] d (forEach everyLine restartTerminal d) :=
  .forEach restartTerminal_changes everyLine d

theorem restartAll_eq (d : Device) :
    restartAll d = (restartChannel (forEach everyLine restartTerminal (restartedBoard d))).setNotices [] := rfl

theorem channel_restartAll (d : Device) : (restartAll d).channel =
    { clearedCounts d.channel with reservation := none, settle := abandonedSettle d.channel.settle } := by
  have hchanges := (restartedBoard_changes d).andThen (restartTerminals_changes _)
    (n := [.slots, .tape, .ribbons, .segments, .lines, .rows, .terminals, .dealers]) (by simp) (by simp)
  have hchannel : (forEach everyLine restartTerminal (restartedBoard d)).channel = d.channel := by
    refine (Channel.eq_of_link (hchanges .link (by simp))).trans ?_
    rw [show _ = _ from hchanges .reservation (by simp), show _ = _ from hchanges .settle (by simp)]
  have hend (e : Device) : ((restartChannel e).setNotices []).channel =
      { clearedCounts e.channel with reservation := none, settle := abandonedSettle e.channel.settle } := rfl
  rw [restartAll_eq, hend, hchannel]

theorem line_restartAll (t : LineNo) (d : Device) : LineRestarted t d (restartAll d) := by
  have hboard := restartedBoard_changes d
  have hbefore : LineRestarted t d (forEach everyLine restartTerminal (restartedBoard d)) := by
    obtain ⟨written, quiet, alerts, forward, page, redrawn, kept⟩ := restartTerminals_parts t (restartedBoard d)
    rw [hboard.terminal_eq (by simp)] at written quiet redrawn kept
    rw [hboard.dealer_eq (by simp)] at page kept
    exact ⟨written, quiet, alerts, forward, page, redrawn, kept⟩
  have hend (e : Device) : LineKept [.link, .reservation, .settle, .notices] t e ((restartChannel e).setNotices []) :=
    ⟨rfl, rfl, (setChannel_changes e _).andThen (setNotices_changes _ _) (by simp) (by simp)⟩
  rw [restartAll_eq]
  exact hbefore.congr (.refl [] t d) (hend _)

theorem restartAll_changes (d : Device) : ChangesOnly [.link, .reservation, .settle, .notices, .slots, .tape, .ribbons,
    .segments, .lines, .rows, .terminals, .dealers] d (restartAll d) :=
  ((restartStore_changes d).mono (by simp)).trans
    (((restartTape_changes _).mono (by simp)).trans ((restartAll_changes_tape d).mono (by simp)))

/-- A row's segment is ACTIVE after the restart exactly when it was not DISABLED before. -/
theorem restartedRow_active (d : Device) (x : Option RowUnit) :
    unitSegmentIs (forEach everySegment restartSegment d) x .active =
      x.any (fun u => (d.segment u.segment).state != .disabled) := by
  cases x with
  | none => rfl
  | some u =>
    show (((forEach everySegment restartSegment d).segment u.segment).state == .active) = _
    rw [segment_restartSegments]
    cases hstate : (d.segment u.segment).state <;> simp [restartedSegment, hstate]

/-- The service output is off in DISABLED alone, which a RESTART neither enters nor leaves (R131, R144). -/
theorem serviceOutput_restarted {x y : Terminal} (h : WrittenOnly (restartedTerminal x) y) :
    y.serviceOutput = x.serviceOutput := by
  have hstate : y.state = restartedState x := by rw [h]; rfl
  unfold Terminal.serviceOutput
  rw [hstate]
  unfold restartedState
  rw [Bool.eq_iff_iff, bne_iff_ne, bne_iff_ne]
  cases hx : x.state <;> cases x.present <;> simp

theorem restartNow_eq (d : Device) : restartNow () d = (restartAll d, accept []) := rfl

/-- Settles O59: each block's part of the restart, the lines one by one around each other. -/
theorem restartKeepsTheSettings : Obligations.RestartKeepsTheSettings := by
  intro s htakes d
  have hexec := exec_replied (body := []) htakes (fields := .ok ()) rfl
    (restartNow_eq (beginWork 0x42 [] s.device))
  have hchanges := restartAll_changes (beginWork 0x42 [] s.device)
  have htape := restartAll_changes_tape (beginWork 0x42 [] s.device)
  have hchannel := channel_restartAll (beginWork 0x42 [] s.device)
  have hline := line_restartAll (d := beginWork 0x42 [] s.device)
  have hnotices : (restartAll (beginWork 0x42 [] s.device)).notices = [] := by rw [restartAll_eq, Device.notices_setNotices]
  obtain ⟨hrow, hsegment, hboardLine⟩ := board_restartAll (beginWork 0x42 [] s.device)
  generalize restartAll (beginWork 0x42 [] s.device) = e at *
  refine ⟨_, hexec, rfl, ?_, hnotices, ?_, fun i => ?_, fun r => ?_, hsegment, hboardLine, fun r => ?_, fun l => ?_, ?_⟩
  · show replied _ _ _ e.channel = _
    rw [hchannel]
    rfl
  · show e.tape.entries = []
    rw [show _ = _ from htape .tape (by simp), tape_restartTape]
  · refine (htape.slot_eq (by simp) i).trans ?_
    rw [(restartTape_changes _).slot_eq (by simp), slot_restartStore]
    rfl
  · refine (htape.ribbon_eq (by simp) r).trans ?_
    rw [ribbon_restartTape, (restartStore_changes _).ribbon_eq (by simp)]
    rfl
  · refine (hrow r).trans ?_
    rw [restartedRow_active]
    rfl
  · obtain ⟨written, quiet, alerts, forward, page, redrawn, kept⟩ := hline l
    exact ⟨written, quiet, serviceOutput_restarted written, alerts, forward, page, redrawn, kept⟩
  · exact (ready_changes (accept []) hchanges).mono (by simp)

end Sys2Proof.Machine
end


section
/-! PROOFS. The requests that write a record and hand the change on: TRADE, TRADE-BLOCK, QUOTE, SET-STATE and AMEND (O12,
O13, O14, O17). -/

namespace Sys2Proof.Machine

variable {d e : Device} {s : State} {kind : Byte} {body : List Byte}

/-! ## A written record and what follows it (R7, R10) -/

/-- A record with its revision advanced (R7). -/
def advanced (x : Record) : Record := { x with revision := x.revision + 1 }

theorem writeRecord_eq (i : Slot) (x : Record) (d : Device) :
    writeRecord i x d = endReservationOn i (d.setSlot i (advanced x)) := rfl

theorem slot_writeRecord (i j : Slot) (x : Record) (d : Device) :
    (writeRecord i x d).slot j = if j = i then advanced x else d.slot j := by
  rw [writeRecord_eq, (endReservationOn_changes i _).slot_eq (by simp) j, Device.slot_setSlot]

/-- The three parts of the channel. -/
theorem ChangesOnly.channel_eq {l : List Part} {a b : Device} (h : ChangesOnly l a b)
    (hl : Part.link ∉ l ∧ Part.reservation ∉ l ∧ Part.settle ∉ l) : b.channel = a.channel := by
  obtain ⟨hlink, hreservation, hsettle⟩ := hl
  rw [Channel.eq_of_link (h .link hlink), show _ = _ from h .reservation hreservation, show _ = _ from h .settle hsettle]

theorem channel_writeRecord (i : Slot) (x : Record) (d : Device) : (writeRecord i x d).channel =
    { d.channel with reservation := reservationAfter i d.channel.reservation } := by
  have hchanges := writeRecord_changes i x d
  rw [Channel.eq_of_link (hchanges .link (by simp)), reservation_writeRecord,
    show _ = _ from hchanges .settle (by simp)]

/-- What a request has left that wrote the record `x` of slot i and handed the change on. -/
structure HandedOn (l : List Part) (kind : Byte) (body : List Byte) (i : Slot) (x : Record) (d e : Device) : Prop where
  channel : e.channel = { (beginWork kind body d).channel with reservation := reservationAfter i d.channel.reservation }
  same : e.slot i = advanced x
  other : ∀ j, j ≠ i → e.slot j = d.slot j
  parts : ChangesOnly (l ++ [.link, .reservation, .slots]) d e

theorem handedOn_of_changes {l : List Part} {i : Slot} {x : Record}
    (h : ChangesOnly l (writeRecord i x (beginWork kind body d)) e)
    (hl : Part.link ∉ l ∧ Part.reservation ∉ l ∧ Part.settle ∉ l) (hslots : Part.slots ∉ l) :
    HandedOn l kind body i x d e where
  channel := (h.channel_eq hl).trans (channel_writeRecord i x _)
  same := by rw [h.slot_eq hslots, slot_writeRecord, if_pos rfl]
  other j hj := by
    rw [h.slot_eq hslots, slot_writeRecord, if_neg hj]
    rfl
  parts := (((beginWork_changes kind body d).mono (by simp)).trans
    ((writeRecord_changes i x _).mono (by simp))).trans (h.mono (by simp))

/-- The channel, the records and the parts once the reply stands. -/
theorem HandedOn.replied {l : List Part} {i : Slot} {x : Record} (h : HandedOn l kind body i x d e) (data : List Byte) :
    let e' := e.setChannel (replied kind 0x00 data e.channel)
    e'.channel = Machine.replied kind 0x00 data
      { d.channel with reservation := reservationAfter i d.channel.reservation } ∧
    e'.slot i = advanced x ∧ (∀ j, j ≠ i → e'.slot j = d.slot j) ∧
    ChangesOnly (l ++ [.link, .reservation, .slots]) d e' := by
  refine ⟨?_, h.same, h.other, h.parts.trans ?_⟩
  · show Machine.replied kind 0x00 data e.channel = _
    rw [h.channel]
    rfl
  · have hready := readyReply_changes kind (accept data) e
    rw [readyReply_accept] at hready
    exact hready.mono (by simp)

theorem HandedOn.revisionData {l : List Part} {i : Slot} {x : Record} (h : HandedOn l kind body i x d e) :
    revisionData e i = wordBytes (x.revision + 1).toNat := by
  unfold Machine.revisionData
  rw [h.same]
  rfl

/-! ## TRADE and TRADE-BLOCK -/

/-- The record after a trade, field by field (R12, R14). -/
theorem advanced_tradedRecord (t : TradeItem) (x : Record) : advanced (tradedRecord t x) =
    { x with
      tick := if t.late then x.tick else newTick x.last x.tick t.price,
      last := if t.late then x.last else some t.price,
      high := if t.late then x.high else some (max (x.high.getD t.price) t.price),
      low := if t.late then x.low else some (min (x.low.getD t.price) t.price),
      volume := min (x.volume + t.shares) 999999999, tradeCount := min (x.tradeCount + 1) 65535,
      revision := x.revision + 1 } := by
  cases hlate : t.late with
  | true => simp [advanced, tradedRecord, hlate, Config.maxVolume, Config.maxTradeCount]
  | false =>
    cases hhigh : x.high <;> cases hlow : x.low <;>
      simp [advanced, tradedRecord, hlate, hhigh, hlow, Config.maxVolume, Config.maxTradeCount]

/-- The hand-offs of a trade to the rows of a list (R15). -/
def handedTrade (t : TradeItem) (rows : List RowNo) (d1 : Device) : Device :=
  let d2 := if t.onTape then (offer (.print t.slot t.price t.shares) d1).1 else d1
  let d3 := markPages t.slot (markRows rows d2)
  if t.late then d3 else evaluateWatches t.slot (some t.price) d3

/-- A trade hands on to the bound rows the record has held all along. -/
theorem applyTrade_eq (t : TradeItem) (d : Device) : applyTrade t d =
    handedTrade t (d.slot t.slot).boundRows (writeRecord t.slot (tradedRecord t (d.slot t.slot)) d) := by
  have hprint (d1 : Device) : ChangesOnly [.tape, .ribbons, .notices] d1
      (if t.onTape then offerEntry (.print t.slot t.price t.shares) d1 else d1) := .ite (offer_changes _ d1) (.refl _ d1)
  have hrows : ((if t.onTape then offerEntry (.print t.slot t.price t.shares)
      (writeRecord t.slot (tradedRecord t (d.slot t.slot)) d) else
      (writeRecord t.slot (tradedRecord t (d.slot t.slot)) d)).slot t.slot).boundRows = (d.slot t.slot).boundRows := by
    rw [(hprint _).slot_eq (by simp), slot_writeRecord, if_pos rfl]
    cases hlate : t.late <;> simp [advanced, tradedRecord, hlate]
  unfold applyTrade tradeHandOffs
  dsimp only
  rw [hrows]
  rfl

/-- The parts a trade's hand-offs reach, with and without a print, regular and out of sequence (R15). -/
def tradeParts (t : TradeItem) : List Part :=
  (if t.onTape then [.tape, .ribbons, .notices] else []) ++ (if t.late then [] else [.watches]) ++
    [.segments, .rows, .terminals, .dealers]

theorem handedTrade_changes (t : TradeItem) (rows : List RowNo) (d1 : Device) :
    ChangesOnly (tradeParts t) d1 (handedTrade t rows d1) := by
  unfold handedTrade
  extract_lets d2 d3
  have hprint : ChangesOnly (tradeParts t) d1 d2 := by
    unfold d2 tradeParts
    split
    · exact (offer_changes _ d1).mono (by simp)
    · exact .refl _ d1
  have hmarked : ChangesOnly (tradeParts t) d2 d3 :=
    ((markRows_changes _ d2).mono (by simp [tradeParts])).trans ((markPages_changes _ _).mono (by simp [tradeParts]))
  split
  · exact hprint.trans hmarked
  · next hlate =>
    exact (hprint.trans hmarked).trans ((evaluateWatches_changes _ _ d3).mono (by simp [tradeParts, hlate]))

theorem applyTrade_handedOn (t : TradeItem) (kind : Byte) (body : List Byte) (d : Device) :
    HandedOn (tradeParts t) kind body t.slot (tradedRecord t (d.slot t.slot)) d (applyTrade t (beginWork kind body d)) :=
  handedOn_of_changes (by rw [applyTrade_eq]; exact handedTrade_changes t _ _)
    (by cases t.onTape <;> cases t.late <;> simp [tradeParts]) (by cases t.onTape <;> cases t.late <;> simp [tradeParts])

theorem tradeOne_of_trading_eq {t : TradeItem} (h : (d.slot t.slot).state = .trading) :
    tradeOne t d = (applyTrade t d, accept (revisionData (applyTrade t d) t.slot)) := if_neg (not_not.2 h)

theorem exec_trade_of_trading {f : TradeItem} (htakes : takesRequest 0x03 body s.device = true)
    (hf : readTrade body = .ok f) (h : (s.device.slot f.slot).state = .trading) :
    exec (.trade body) s = .next
      ⟨(applyTrade f (beginWork 0x03 body s.device)).setChannel
        (replied 0x03 0x00 (revisionData (applyTrade f (beginWork 0x03 body s.device)) f.slot)
          (applyTrade f (beginWork 0x03 body s.device)).channel), s.pending⟩ :=
  exec_replied htakes hf (tradeOne_of_trading_eq (d := beginWork 0x03 body s.device) h)

theorem tradedRecord_revision (t : TradeItem) (x : Record) : (tradedRecord t x).revision = x.revision := by
  cases hlate : t.late <;> simp [tradedRecord, hlate]

/-- Settles O12: the record is written first, and no hand-off reaches a record. -/
theorem tradeChangesRecordAndHandsOn : Obligations.TradeChangesRecordAndHandsOn := by
  intro s body f htakes hf hstate d x x' d1 d2 d3 d4
  have hrecord : advanced (tradedRecord f x) = x' := advanced_tradedRecord f x
  have hd1 : writeRecord f.slot (tradedRecord f x) (beginWork 0x03 body d) = d1 := by
    rw [writeRecord_eq, hrecord]
  have hd4 : applyTrade f (beginWork 0x03 body d) = d4 := by
    rw [applyTrade_eq]
    exact congrArg (handedTrade f x.boundRows) hd1
  have hhanded := applyTrade_handedOn f 0x03 body d
  have hdata : revisionData (applyTrade f (beginWork 0x03 body d)) f.slot = wordBytes (x.revision + 1).toNat := by
    rw [hhanded.revisionData, tradedRecord_revision]
  have hexec := exec_trade_of_trading htakes hf hstate
  rw [show s.device = d from rfl, hdata, hd4] at hexec
  rw [hd4] at hhanded
  obtain ⟨hchannel, hsame, hother, hparts⟩ := hhanded.replied (wordBytes (x.revision + 1).toNat)
  refine ⟨_, hexec, rfl, rfl, hchannel, hsame.trans hrecord, hother, hparts.mono ?_⟩
  unfold tradeParts
  cases f.onTape <;> cases f.late <;> simp

/-- The items before the first refused one, counted (R16). -/
theorem applyItems_eq (l : List TradeItem) (n : Nat) (d : Device) : ∃ k, k ≤ l.length ∧
    applyItems l n d = ((l.take k).foldl (fun d f => applyTrade f d) d, n + k, decide (k = l.length)) ∧
    (∀ j f, j < k → l[j]? = some f → (((l.take j).foldl (fun d f => applyTrade f d) d).slot f.slot).state = .trading) ∧
    ∀ f, l[k]? = some f → (((l.take k).foldl (fun d f => applyTrade f d) d).slot f.slot).state ≠ .trading := by
  induction l generalizing n d with
  | nil => exact ⟨0, Nat.le_refl _, rfl, fun j f hj => absurd hj (Nat.not_lt_zero j), fun f h => by simp at h⟩
  | cons t l ih =>
    by_cases h : (d.slot t.slot).state = .trading
    · obtain ⟨k, hk, heq, hbefore, hfirst⟩ := ih (n + 1) (applyTrade t d)
      refine ⟨k + 1, Nat.succ_le_succ hk, ?_, fun j f hj hf => ?_, fun f hf => ?_⟩
      · rw [applyItems, if_neg (not_not.2 h), heq]
        simp [Nat.add_assoc, Nat.add_comm 1 k]
      · cases j with
        | zero =>
          obtain rfl : t = f := by simpa using hf
          exact h
        | succ j => exact hbefore j f (by omega) (by simpa using hf)
      · exact hfirst f (by simpa using hf)
    · refine ⟨0, Nat.zero_le _, ?_, fun j f hj => absurd hj (Nat.not_lt_zero j), fun f hf => ?_⟩
      · rw [applyItems, if_pos h]
        simp
      · obtain rfl : t = f := by simpa using hf
        exact h

theorem workTradeBlock_of_read {l : List TradeItem} (h : readTradeBlock body = .ok l) :
    workTradeBlock body d = tradeItemsInOrder l d := by
  unfold workTradeBlock
  rw [h]

/-- Settles O13: the count of the reply is the number of items before the first that is refused. -/
theorem tradeBlockStopsAtTheFirstRefusedItem : Obligations.TradeBlockStopsAtTheFirstRefusedItem := by
  refine ⟨fun s body f htakes hf hstate => exec_trade_of_trading htakes hf hstate, fun s body l htakes hl => ?_⟩
  intro upTo
  obtain ⟨k, hk, heq, hbefore, hfirst⟩ := applyItems_eq l 0 (beginWork 0x04 body s.device)
  have hexec : exec (.tradeBlock body) s = .next ⟨request 0x04 body (workTradeBlock body) s.device, s.pending⟩ := rfl
  have hwork : tradeItemsInOrder l (beginWork 0x04 body s.device) =
      (upTo k, ⟨if k = l.length then .accepted else .wrongState, [byte k], none, false⟩) := by
    unfold tradeItemsInOrder
    rw [heq]
    simp [upTo]
  rw [request_of_taken htakes, workTradeBlock_of_read hl, hwork] at hexec
  refine ⟨_, k, hexec, rfl, hk, ?_, fun j f hj hf => hbefore j f hj hf, hfirst⟩
  split <;> rfl

/-! ## QUOTE and SET-STATE -/

theorem quotedRows_congr {l : List RowNo} (hlayout : ∀ n, e.layout n = d.layout n) (hrow : ∀ r, e.row r = d.row r) :
    quotedRows e l = quotedRows d l := by
  simp only [quotedRows, hlayout, hrow]

/-- The parts that marks on rows and page lines reach (R10). -/
theorem marked_changes (i : Slot) (l : List RowNo) (d : Device) :
    ChangesOnly [.segments, .rows, .terminals, .dealers] d (markPages i (markRows l d)) :=
  ((markRows_changes l d).mono (by simp)).trans ((markPages_changes i _).mono (by simp))

theorem quoteSlot_of_listed {f : QuoteFields} (h : isListed (d.slot f.slot).state = true) :
    let x := { d.slot f.slot with bid := f.bid, ask := f.ask }
    let d2 := markPages f.slot (markRows (quotedRows d x.boundRows) (writeRecord f.slot x d))
    quoteSlot f d = (d2, accept (revisionData d2 f.slot)) := by
  intro x d2
  have hchanges := writeRecord_changes f.slot x d
  have hrows : quotedRows (writeRecord f.slot x d) x.boundRows = quotedRows d x.boundRows :=
    quotedRows_congr (fun n => hchanges.layout_eq (by simp) n) (fun r => hchanges.row_eq (by simp) r)
  have hd2 : d2 = markPages f.slot (markRows (quotedRows (writeRecord f.slot x d) x.boundRows) (writeRecord f.slot x d)) := by
    rw [hrows]
  rw [hd2]
  exact if_neg (by simp [h])

theorem setState_of_some {i : Slot} {w : StateWord} {after : SlotState} (h : stateAfter w (d.slot i).state = some after) :
    let x := { d.slot i with state := after }
    let d2 := markPages i (markRows x.boundRows (offer (.state i w) (writeRecord i x d)).1)
    setState (i, w) d = (d2, accept (revisionData d2 i)) := by
  intro x d2
  unfold setState
  dsimp only
  rw [h] <;> rfl

theorem stateAfter_eq_some {w : StateWord} {x after : SlotState}
    (h : (w = .openWord ∧ (x = .listed ∨ x = .halted) ∧ after = .trading) ∨
      (w = .haltWord ∧ x = .trading ∧ after = .halted)) : stateAfter w x = some after := by
  obtain ⟨rfl, rfl | rfl, rfl⟩ | ⟨rfl, rfl, rfl⟩ := h <;> rfl

theorem exec_setState {i : Slot} {w : StateWord} (hf : readSetState body = .ok (i, w)) :
    exec (if w = .openWord then .setStateOpen body else .setStateHalt body) s =
      onDevice (request 0x06 body (workSetState body)) s := by
  cases w with
  | openWord => exact exec_setStateOpen hf
  | haltWord => exact exec_setStateHalt hf

/-- Settles O14: both write the record first and mark afterwards. -/
theorem quoteAndSetStateChangeTheRecord : Obligations.QuoteAndSetStateChangeTheRecord := by
  intro s body d
  refine ⟨fun f htakes hf hlisted => ?_, fun i w after htakes hf hafter => ?_⟩
  · intro x' d1 d2
    have hhanded : HandedOn _ 0x05 body f.slot { d.slot f.slot with bid := f.bid, ask := f.ask } d d2 :=
      handedOn_of_changes (marked_changes f.slot _ d1) (by simp) (by simp)
    have hexec := exec_replied htakes hf (quoteSlot_of_listed (d := beginWork 0x05 body d) hlisted)
    obtain ⟨hchannel, hsame, hother, hparts⟩ := hhanded.replied (wordBytes x'.revision.toNat)
    have hdata : revisionData d2 f.slot = wordBytes x'.revision.toNat := hhanded.revisionData
    rw [← hdata] at hchannel hsame hother hparts ⊢
    exact ⟨_, hexec, rfl, rfl, congrArg Channel.reservation hchannel, hsame, hother, hparts.mono (by simp)⟩
  · intro x' d1 d2
    have hchanges : ChangesOnly [.tape, .ribbons, .notices, .segments, .rows, .terminals, .dealers] d1 d2 :=
      ((offer_changes (.state i w) d1).mono (by simp)).trans ((marked_changes i _ _).mono (by simp))
    have hhanded : HandedOn _ 0x06 body i { d.slot i with state := after } d d2 :=
      handedOn_of_changes hchanges (by simp) (by simp)
    have hexec := exec_replied htakes hf (setState_of_some (d := beginWork 0x06 body d) (stateAfter_eq_some hafter))
    obtain ⟨hchannel, hsame, hother, hparts⟩ := hhanded.replied (wordBytes x'.revision.toNat)
    have hdata : revisionData d2 i = wordBytes x'.revision.toNat := hhanded.revisionData
    rw [← hdata] at hchannel hsame hother hparts ⊢
    exact ⟨_, (exec_setState hf).trans hexec, rfl, rfl, congrArg Channel.reservation hchannel, hsame, hother,
      hparts.mono (by simp)⟩

/-! ## AMEND -/

theorem workAmend_of_read {f : AmendFields} (h : readAmend body = .ok f) : workAmend body d = amendSlot f d := by
  unfold workAmend
  rw [h]

theorem amendSlot_of_lost {f : AmendFields} (h : d.channel.reservation ≠ some f.slot) :
    amendSlot f d = (endReservation d, refuse .reservationLost) := if_pos h

theorem amendSlot_of_unsound {f : AmendFields} (h : d.channel.reservation = some f.slot)
    (hx : recordOk (amendedRecord f (d.slot f.slot)) = false) :
    amendSlot f d = (endReservation d, refuse .badField) := by
  unfold amendSlot
  dsimp only
  rw [if_neg (not_not.2 h), if_pos hx]

theorem amendSlot_of_sound {f : AmendFields} (h : d.channel.reservation = some f.slot)
    (hx : recordOk (amendedRecord f (d.slot f.slot)) = true) :
    let e := amendHandOffs f (d.slot f.slot) (amendedRecord f (d.slot f.slot))
      (writeRecord f.slot (amendedRecord f (d.slot f.slot)) (endReservation d))
    amendSlot f d = (e, accept (revisionData e f.slot)) := by
  unfold amendSlot
  dsimp only
  rw [if_neg (not_not.2 h), if_neg (by simp [hx])]

/-- After the reservation has ended a write ends none. -/
theorem writeRecord_endReservation (i : Slot) (x : Record) (d : Device) :
    writeRecord i x (endReservation d) = endReservation (d.setSlot i (advanced x)) := by
  have hnone : ((endReservation d).setSlot i (advanced x)).channel.reservation ≠ some i := nofun
  exact (if_neg hnone : endReservationOn i ((endReservation d).setSlot i (advanced x)) = _)

theorem writeRecord_of_reserved {i : Slot} (h : d.channel.reservation = some i) (x : Record) :
    writeRecord i x d = endReservation (d.setSlot i (advanced x)) :=
  if_pos (show (d.setSlot i (advanced x)).channel.reservation = some i from h)

theorem recordSound_advanced_iff (x : Record) :
    RecordSound (advanced x) ↔ recordOk x = true ∧ x.tradeCount ≤ 65535 := by
  rw [recordOk_iff]
  exact and_assoc.symm

/-- Settles O17: the reservation is checked and ended before the record is looked at. -/
theorem amendNeedsTheReservation : Obligations.AmendNeedsTheReservation := by
  intro s body f htakes hf d x last x' freed d1 d2 d3 d4
  have hexec (e : Device) (a : Answer) (h : amendSlot f (beginWork 0x08 body d) = (e, a)) :
      exec (.amend body) s = .next ⟨readyReply 0x08 a e, s.pending⟩ := by
    rw [exec_amend, request_of_taken (kind := kindAmend) htakes, workAmend_of_read hf]
    exact congrArg (fun r : Device × Answer => Host.Outcome.next (⟨readyReply 0x08 r.2 r.1, s.pending⟩ : State)) h
  have hrecord : advanced (amendedRecord f x) = x' := rfl
  refine ⟨fun hlost => ?_, fun hheld hcount hunsound => ?_, fun hheld hsound => ?_⟩
  · exact hexec _ _ (amendSlot_of_lost (d := beginWork 0x08 body d) hlost)
  · have hok : recordOk (amendedRecord f x) = false := by
      rw [← hrecord, recordSound_advanced_iff] at hunsound
      exact Bool.eq_false_iff.2 fun hok => hunsound ⟨hok, hcount⟩
    exact hexec _ _ (amendSlot_of_unsound (d := beginWork 0x08 body d) hheld hok)
  · have hok := (recordSound_advanced_iff _).1 (hrecord ▸ hsound)
    have hrun := hexec _ _ (amendSlot_of_sound (d := beginWork 0x08 body d) hheld hok.1)
    have hwritten : writeRecord f.slot (amendedRecord f x) (endReservation (beginWork 0x08 body d)) = d1 :=
      writeRecord_endReservation _ _ _
    have hchanges : ChangesOnly handOffParts d1 d4 := amendHandOffs_changes f x (amendedRecord f x) d1
    rw [slot_beginWork, show d.slot f.slot = x from rfl, hwritten] at hrun
    have hd1 : writeRecord f.slot (amendedRecord f x) (beginWork 0x08 body d) = d1 :=
      writeRecord_of_reserved (d := beginWork 0x08 body d) hheld _
    rw [← hd1] at hchanges
    have hhanded : HandedOn _ 0x08 body f.slot (amendedRecord f x) d d4 :=
      handedOn_of_changes hchanges (by simp [handOffParts]) (by simp [handOffParts])
    obtain ⟨hchannel, hsame, hother, hparts⟩ := hhanded.replied (wordBytes x'.revision.toNat)
    have hfreed : { d.channel with reservation := reservationAfter f.slot d.channel.reservation } = freed := by
      rw [hheld, reservationAfter, if_pos rfl]
    have hdata : revisionData d4 f.slot = wordBytes x'.revision.toNat := hhanded.revisionData
    rw [hfreed] at hchannel
    rw [← hdata] at hchannel hsame hother hparts ⊢
    rw [readyReply_accept] at hrun
    exact ⟨_, hrun, rfl, rfl, hchannel, hsame, hother, hparts.mono (by simp [handOffParts])⟩

end Sys2Proof.Machine
end


section
/-! PROOFS. Marks on page lines (R10, R153), and DAY-ROLL (O18). -/

namespace Sys2Proof.Machine

variable {d e : Device} {s : State} {t : LineNo}

theorem LineKept.of_changes {l : List Part} (h : ChangesOnly l d e) (hl : Part.terminals ∉ l ∧ Part.dealers ∉ l) :
    LineKept l t d e := ⟨h.terminal_eq hl.1 t, h.dealer_eq hl.2 t, h⟩

/-! ## Lines on which no item enters -/

/-- Every item is longer than the room such a line has. -/
theorem roomStep_of_full (h : 508 ≤ (d.terminal t).queue.length) : roomStep t d = none := by
  have hroom : freeRoom (d.terminal t) ≤ 4 := by
    have : Config.outputCapacity = 512 := rfl
    unfold freeRoom
    omega
  have hclear : (clearItem (d.terminal t)).length = 5 := rfl
  have halert (a : Alert) : 9 ≤ (alertItem d t a).length := by
    simp [alertItem]
    omega
  have hpage : Config.pageLineRoom = 96 := rfl
  cases hredraw : (d.dealer t).redrawOwed with
  | true => rw [roomStep_of_redraw hredraw, if_neg (by omega)]
  | false =>
  cases hreply : (d.terminal t).reply with
  | some r => rw [roomStep_of_reply hredraw hreply, if_neg (by rw [length_replyItem]; omega)]
  | none =>
  cases htext : (d.terminal t).hostText with
  | some r => rw [roomStep_of_hostText hredraw hreply htext, if_neg (by rw [length_replyItem]; omega)]
  | none =>
  cases halerts : (d.dealer t).alerts with
  | cons a rest =>
    rw [roomStep_of_alert hredraw hreply htext halerts, if_neg (by have := halert a; omega)]
  | nil =>
    rw [roomStep_of_page hredraw hreply htext halerts]
    cases markedEntry (d.dealer t) with
    | none => rfl
    | some p => exact if_neg (by omega)

/-- A room event on such a line changes nothing. -/
theorem roomEvent_of_takesNoItem (h : (d.terminal t).takesNoItem) : roomEvent t d = d := by
  obtain h | ⟨hbusy, hfull⟩ := h
  · exact roomEvent_of_not_active h
  · by_cases hactive : (d.terminal t).state = .active
    · have hnone := roomStep_of_full hfull
      rw [roomEvent_of_active hactive, roomLoop_of_none _ hnone, startCharacter_of_not (.inl hbusy),
        roomLoop_of_none _ hnone]
    · exact roomEvent_of_not_active hactive

/-! ## The page lines that show a slot -/

/-- What the marks of the slots in `shown` leave at a line: items may have entered, and a line that takes none has the
marks alone. -/
structure PageMarked (shown : Slot → Bool) (t : LineNo) (d e : Device) : Prop where
  written : WrittenOnly (d.terminal t) (e.terminal t)
  page : (e.dealer t).page = (d.dealer t).page
  forward : (e.dealer t).forward = (d.dealer t).forward
  alerts : ∃ n, (e.dealer t).alerts = (d.dealer t).alerts.drop n
  quiet : (d.terminal t).takesNoItem → e.terminal t = d.terminal t ∧
    e.dealer t = { d.dealer t with marks := (e.dealer t).marks } ∧
    ∀ p, (e.dealer t).marked p = ((d.dealer t).marked p || ((d.dealer t).entry p).any shown)

theorem PageMarked.of_line {shown : Slot → Bool} (hterminal : e.terminal t = d.terminal t)
    (hdealer : e.dealer t = d.dealer t) (hnone : ∀ p, ((d.dealer t).entry p).any shown = false) :
    PageMarked shown t d e where
  written := hterminal ▸ .refl _
  page := by rw [hdealer]
  forward := by rw [hdealer]
  alerts := ⟨0, by rw [hdealer, List.drop_zero]⟩
  quiet _ := ⟨hterminal, by rw [hdealer], fun p => by rw [hdealer, hnone, Bool.or_false]⟩

theorem PageMarked.trans {a b c : Device} {f g : Slot → Bool} (h : PageMarked f t a b) (k : PageMarked g t b c) :
    PageMarked (fun i => f i || g i) t a c where
  written := h.written.trans k.written
  page := k.page.trans h.page
  forward := k.forward.trans h.forward
  alerts := by
    obtain ⟨m, hm⟩ := h.alerts
    obtain ⟨n, hn⟩ := k.alerts
    exact ⟨m + n, by rw [hn, hm, List.drop_drop]⟩
  quiet hx := by
    obtain ⟨hterm, hdealer, hmarks⟩ := h.quiet hx
    obtain ⟨kterm, kdealer, kmarks⟩ := k.quiet (by rw [hterm]; exact hx)
    refine ⟨kterm.trans hterm, by rw [kdealer, hdealer], fun p => ?_⟩
    have hentry : (b.dealer t).entry p = (a.dealer t).entry p := by rw [Dealer.entry, h.page]; rfl
    rw [kmarks, hmarks, hentry]
    cases (a.dealer t).entry p <;> simp [Bool.or_assoc]

theorem PageMarked.congr {f : Slot → Bool} {a b : Device} {l m : List Part} (h : PageMarked f t d e)
    (hd : LineKept l t a d) (he : LineKept m t e b) : PageMarked f t a b := by
  obtain ⟨written, page, forward, alerts, quiet⟩ := h
  rw [hd.terminal, ← he.terminal] at written
  rw [hd.dealer, ← he.dealer] at page forward alerts quiet
  rw [hd.terminal, ← he.terminal] at quiet
  exact ⟨written, page, forward, alerts, quiet⟩

/-- The entries of terminal t that show slot i. -/
def showing (i : Slot) (t : LineNo) (d : Device) : List PageNo := everyPage.filter (fun p => (d.dealer t).entry p == some i)

theorem mem_showing {i : Slot} {p : PageNo} : p ∈ showing i t d ↔ (d.dealer t).entry p = some i := by
  simp [showing, everyPage]

theorem markPage_of_none {i : Slot} (h : showing i t d = []) : markPage i t d = d := if_pos h

theorem markPage_of_some {i : Slot} (h : showing i t d ≠ []) : markPage i t d =
    roomEvent t (d.modDealer t (fun y => (showing i t d).foldl (fun y p => y.setMark p true) y)) := if_neg h

theorem markPage_marked (i : Slot) (t : LineNo) (d : Device) : PageMarked (· == i) t d (markPage i t d) := by
  have hshows (p : PageNo) : ((d.dealer t).entry p).any (· == i) = decide (p ∈ showing i t d) := by
    rw [Bool.eq_iff_iff, decide_eq_true_iff, mem_showing, Option.any_eq_true]
    simp
  by_cases h : showing i t d = []
  · rw [markPage_of_none h]
    exact .of_line rfl rfl fun p => by rw [hshows, h]; rfl
  · rw [markPage_of_some h]
    have hentered := roomEvent_entered t (d.modDealer t (fun y => (showing i t d).foldl (fun y p => y.setMark p true) y))
    have hdealer := dealer_modDealer d t t (fun y => (showing i t d).foldl (fun y p => y.setMark p true) y)
    rw [if_pos rfl] at hdealer
    have hterminal : (d.modDealer t (fun y => (showing i t d).foldl (fun y p => y.setMark p true) y)).terminal t =
        d.terminal t := rfl
    have hrest := (foldl_setMark (showing i t d) (d.dealer t)).1
    rw [← hdealer] at hrest
    refine ⟨hentered.written, hentered.page.trans (by rw [hrest]), hentered.forward.trans (by rw [hrest]), ?_, fun hx => ?_⟩
    · obtain ⟨n, hn⟩ := hentered.alerts
      exact ⟨n, hn.trans (by rw [hrest])⟩
    · rw [roomEvent_of_takesNoItem (by rw [hterminal]; exact hx)]
      refine ⟨rfl, hrest, fun p => ?_⟩
      rw [hdealer, marked_foldl_setMark, hshows, Bool.or_comm]

theorem markPage_lineKept {k : LineNo} (hk : t ≠ k) (i : Slot) (d : Device) :
    LineKept [.terminals, .dealers] t d (markPage i k d) := by
  by_cases h : showing i k d = []
  · rw [markPage_of_none h]
    exact .refl _ t d
  · rw [markPage_of_some h]
    have hmarked : LineKept [.terminals, .dealers] t d
        (d.modDealer k (fun y => (showing i k d).foldl (fun y p => y.setMark p true) y)) :=
      ⟨rfl, (dealer_modDealer _ k t _).trans (if_neg hk), (modDealer_changes _ k _).mono (by simp)⟩
    exact hmarked.trans ((roomEvent_entered k _).lineKept hk)

/-- The page lines of every terminal that show slot i are marked (R10). -/
theorem markPages_marked (i : Slot) (t : LineNo) (d : Device) : PageMarked (· == i) t d (markPages i d) := by
  obtain ⟨e, hbefore, hafter⟩ := forEach_around (R := LineKept [.terminals, .dealers] t) (f := markPage i)
    (.refl _ t) (fun _ _ _ h k => h.trans k) (fun k _ hk => markPage_lineKept (Ne.symm hk) i) (List.nodup_finRange 16)
    (List.mem_finRange t) d
  exact (markPage_marked i t e).congr hbefore hafter

/-! ## The board under rolled slots (R10, R94, R95) -/

/-- Two devices with the same rows and segments. -/
def SameBoard (d e : Device) : Prop := (∀ r, e.row r = d.row r) ∧ ∀ g, e.segment g = d.segment g

theorem SameBoard.of_changes {l : List Part} (h : ChangesOnly l d e) (hl : Part.rows ∉ l ∧ Part.segments ∉ l) :
    SameBoard d e := ⟨h.row_eq hl.1, h.segment_eq hl.2⟩

theorem SameBoard.markRows {a b : Device} (h : SameBoard a b) (l : List RowNo) :
    SameBoard (Machine.markRows l a) (Machine.markRows l b) := by
  obtain ⟨hrow, hsegment⟩ := h
  refine ⟨fun r => by rw [row_markRows, row_markRows, hrow], fun g => ?_⟩
  have hjoining : joining b g l.eraseDups = joining a g l.eraseDups :=
    joining_congr (fun q => by rw [hrow]; exact ⟨rfl, rfl⟩) _
  rw [segment_markRows, segment_markRows, hsegment, hjoining]

theorem SameBoard.trans {a b c : Device} (h : SameBoard a b) (k : SameBoard b c) : SameBoard a c :=
  ⟨fun r => (k.1 r).trans (h.1 r), fun g => (k.2 g).trans (h.2 g)⟩

theorem markRows_append (l m : List RowNo) (d : Device) : markRows (l ++ m) d = markRows m (markRows l d) := List.foldl_append

theorem boundRows_rollSlot (i j : Slot) (d : Device) : ((rollSlot i d).slot j).boundRows = (d.slot j).boundRows := by
  rw [rollSlot, (marked_changes i _ _).slot_eq (by simp), slot_writeRecord]
  split
  · next h => rw [h]; rfl
  · rfl

/-- Rolling slots marks the rows bound to them, slot after slot. -/
theorem rollSlots_board (l : List Slot) (d : Device) :
    SameBoard (markRows (l.flatMap (fun i => (d.slot i).boundRows)) d) (forEach l rollSlot d) := by
  induction l generalizing d with
  | nil => exact ⟨fun _ => rfl, fun _ => rfl⟩
  | cons i l ih =>
    rw [List.flatMap_cons, markRows_append, forEach_cons]
    have hrolled : SameBoard (markRows (d.slot i).boundRows d) (rollSlot i d) := by
      have hwritten : SameBoard d (writeRecord i (rolledRecord (d.slot i)) d) :=
        .of_changes (writeRecord_changes i _ d) (by simp)
      have hpages := SameBoard.of_changes (markPages_changes i (markRows (d.slot i).boundRows
        (writeRecord i (rolledRecord (d.slot i)) d))) (by simp)
      exact (hwritten.markRows (d.slot i).boundRows).trans hpages
    have hrest := ih (rollSlot i d)
    simp only [boundRows_rollSlot] at hrest
    exact (hrolled.markRows (l.flatMap (fun i => (d.slot i).boundRows))).trans hrest

/-! ## The records and the screens under rolled slots -/

theorem slot_rollSlot (i j : Slot) (d : Device) :
    (rollSlot i d).slot j = if j = i then advanced (rolledRecord (d.slot i)) else d.slot j := by
  rw [rollSlot, (marked_changes i _ _).slot_eq (by simp), slot_writeRecord]

theorem slot_rollSlots {l : List Slot} (hl : l.Nodup) (j : Slot) (d : Device) :
    (forEach l rollSlot d).slot j = if j ∈ l then advanced (rolledRecord (d.slot j)) else d.slot j := by
  induction l generalizing d with
  | nil => rfl
  | cons i l ih =>
    obtain ⟨hi, hl⟩ := List.nodup_cons.1 hl
    rw [forEach_cons, ih hl, slot_rollSlot]
    by_cases hj : j = i
    · subst hj
      simp [hi]
    · simp [hj]

theorem rollSlot_marked (i : Slot) (t : LineNo) (d : Device) : PageMarked (· == i) t d (rollSlot i d) := by
  have hbefore : ChangesOnly [.slots, .reservation, .rows, .segments] d
      (markRows (d.slot i).boundRows (writeRecord i (rolledRecord (d.slot i)) d)) :=
    (writeRecord_changes i _ d).andThen (markRows_changes _ _) (by simp) (by simp)
  exact (markPages_marked i t _).congr
    ⟨hbefore.terminal_eq (by simp) t, hbefore.dealer_eq (by simp) t, hbefore⟩ (.refl [] t _)

theorem rollSlots_marked (l : List Slot) (t : LineNo) (d : Device) :
    PageMarked (fun i => decide (i ∈ l)) t d (forEach l rollSlot d) := by
  induction l generalizing d with
  | nil => exact .of_line rfl rfl fun p => by cases (d.dealer t).entry p <;> simp
  | cons i l ih =>
    rw [forEach_cons]
    have h := (rollSlot_marked i t d).trans (ih (rollSlot i d))
    have hset : (fun j => j == i || decide (j ∈ l)) = fun j => decide (j ∈ i :: l) := by
      funext j
      simp [beq_eq_decide]
    rw [hset] at h
    exact h

theorem reservation_rollSlots (l : List Slot) (h : d.channel.reservation = none) :
    (forEach l rollSlot d).channel.reservation = none := by
  induction l generalizing d with
  | nil => exact h
  | cons i l ih =>
    rw [forEach_cons]
    refine ih ?_
    have hmarks : ChangesOnly _ (writeRecord i (rolledRecord (d.slot i)) d) (rollSlot i d) := marked_changes i _ _
    rw [show _ = _ from hmarks .reservation (by simp), reservation_writeRecord, h]
    rfl

/-- The parts a roll reaches. -/
theorem rollSlots_changes (l : List Slot) (d : Device) :
    ChangesOnly [.slots, .reservation, .rows, .segments, .terminals, .dealers] d (forEach l rollSlot d) :=
  .forEach (fun i e => (writeRecord_changes i _ e).andThen (marked_changes i _ _) (by simp) (by simp)) l d

theorem dayRollStore_eq (d : Device) : dayRollStore () d =
    (rearmWatches (forEach (listedSlots d) rollSlot (endReservation d)), accept (wordBytes (listedSlots d).length)) := rfl

/-- Arming the watches reaches nothing else. -/
theorem rearmWatches_changes (d : Device) : ChangesOnly [.watches] d (rearmWatches d) := setWatches_changes _ _

theorem watches_rearmWatches (d : Device) :
    (rearmWatches d).watches = d.watches.map (fun w => { w with state := .armed }) := rfl

theorem nodup_listedSlots (d : Device) : (listedSlots d).Nodup := by
  unfold listedSlots everySlot
  exact (List.nodup_finRange _).filter _

/-- What a DAY-ROLL leaves in the part (R25, R156). -/
structure Rolled (d e : Device) : Prop where
  reservation : e.channel.reservation = none
  slot : ∀ i, e.slot i = if isListed (d.slot i).state = true then advanced (rolledRecord (d.slot i)) else d.slot i
  watches : e.watches = d.watches.map (fun w => { w with state := .armed })
  board : SameBoard (markRows ((listedSlots d).flatMap (fun i => (d.slot i).boundRows)) d) e
  pages : ∀ t, PageMarked (fun i => isListed (d.slot i).state) t d e
  parts : ChangesOnly [.reservation, .slots, .segments, .rows, .terminals, .dealers, .watches] d e

theorem rolled_dayRollStore (d : Device) : Rolled d (dayRollStore () d).1 := by
  have hparts := dayRollStore_changes d
  rw [dayRollStore_eq] at hparts ⊢
  have hmem (i : Slot) : i ∈ listedSlots d ↔ isListed (d.slot i).state = true := by
    simp [listedSlots, everySlot]
  have hrolls := rollSlots_changes (listedSlots d) (endReservation d)
  have hrearm := rearmWatches_changes (forEach (listedSlots d) rollSlot (endReservation d))
  have hboard := rollSlots_board (listedSlots d) (endReservation d)
  simp only [slot_endReservation] at hboard
  have hended := (SameBoard.of_changes (endReservation_changes d) (by simp)).markRows
    ((listedSlots d).flatMap (fun i => (d.slot i).boundRows))
  have hwatches : (rearmWatches (forEach (listedSlots d) rollSlot (endReservation d))).watches =
      d.watches.map (fun w => { w with state := .armed }) := by
    rw [watches_rearmWatches, show _ = _ from hrolls .watches (by simp)]
    rfl
  have hreservation := reservation_rollSlots (listedSlots d) (d := endReservation d) rfl
  have hslot := slot_rollSlots (nodup_listedSlots d) (d := endReservation d)
  have hpages := rollSlots_marked (listedSlots d) (d := endReservation d)
  have hset : (fun i => decide (i ∈ listedSlots d)) = fun i => isListed (d.slot i).state := by
    funext i
    rw [Bool.eq_iff_iff, decide_eq_true_iff, hmem]
  rw [hset] at hpages
  dsimp only at hparts ⊢
  generalize forEach (listedSlots d) rollSlot (endReservation d) = e at *
  refine ⟨hreservation, fun i => ?_, hwatches,
    (hended.trans hboard).trans (.of_changes hrearm (by simp)), fun t => ?_, hparts.mono (by simp)⟩
  · rw [hrearm.slot_eq (by simp), hslot, slot_endReservation]
    simp only [hmem]
  · exact (hpages t).congr (.of_changes (endReservation_changes d) (by simp)) (.of_changes hrearm (by simp))

/-- Settles O18: rolling a slot writes its record before it marks, so the rolls add up slot by slot. -/
theorem dayRollRollsEveryListedSlot : Obligations.DayRollRollsEveryListedSlot := by
  intro s htakes d marked
  have hrolled := rolled_dayRollStore (beginWork 0x09 [] d)
  have hwork := dayRollStore_eq (beginWork 0x09 [] d)
  rw [hwork] at hrolled
  have hexec := exec_accepted (body := []) htakes (fields := .ok ()) rfl hwork
  obtain ⟨hreservation, hslot, hwatches, ⟨hrow, hsegment⟩, hpages, hparts⟩ := hrolled
  dsimp only at hreservation hslot hwatches hrow hsegment hpages hparts
  generalize rearmWatches (forEach (listedSlots (beginWork 0x09 [] d)) rollSlot (endReservation (beginWork 0x09 [] d))) = e
    at hexec hreservation hslot hwatches hrow hsegment hpages hparts
  refine ⟨_, hexec, rfl, ?_, fun i => ?_, hwatches, fun r => ?_, fun g => ?_, fun l => (hpages l).forward, fun l hx => ?_,
    fun l => (hpages l).written, fun l p => ?_, fun l => (hpages l).alerts, fun l hx => ?_,
    (ready_changes _ hparts).mono (by simp)⟩
  · rw [channel_readyReply _ (hparts .link (by simp)), hreservation, show _ = _ from hparts .settle (by simp)]
    rfl
  · exact hslot i
  · refine (hrow r).trans ((row_markRows _ r _).trans (if_congr ?_ rfl rfl))
    exact List.mem_eraseDups.symm
  · exact (hsegment g).trans (segment_markRows _ g _)
  · obtain ⟨hterminal, hdealer, _⟩ := (hpages l).quiet hx
    exact ⟨hterminal, hdealer⟩
  · show Dealer.entry (e.dealer l) p = _
    rw [Dealer.entry, (hpages l).page]
    rfl
  · obtain ⟨_, hdealer, hmarks⟩ := (hpages l).quiet hx
    refine ⟨?_, hmarks⟩
    show (e.dealer l).alerts = _
    rw [hdealer]
    rfl

end Sys2Proof.Machine
end


section
/-! PROOFS. DELIST: the instrument withdrawn from every block (O15). -/

namespace Sys2Proof.Machine

variable {d e : Device} {s : State} {t : LineNo} {i : Slot} {symbol : Text}

/-! ## One terminal line (R159) -/

/-- A step of the other terminals: line t, its dealer and its watches stay. -/
structure Beside (t : LineNo) (d e : Device) : Prop where
  terminal : e.terminal t = d.terminal t
  dealer : e.dealer t = d.dealer t
  watches : e.watches.filter (fun w => w.terminal == t) = d.watches.filter (fun w => w.terminal == t)

theorem Beside.refl (t : LineNo) (d : Device) : Beside t d d := ⟨rfl, rfl, rfl⟩

theorem Beside.trans {a b c : Device} (h : Beside t a b) (k : Beside t b c) : Beside t a c :=
  ⟨k.terminal.trans h.terminal, k.dealer.trans h.dealer, k.watches.trans h.watches⟩

theorem Beside.of_changes {l : List Part} (h : ChangesOnly l d e)
    (hl : Part.terminals ∉ l ∧ Part.dealers ∉ l ∧ Part.watches ∉ l) : Beside t d e :=
  ⟨h.terminal_eq hl.1 t, h.dealer_eq hl.2.1 t, by rw [show _ = _ from h .watches hl.2.2]⟩

theorem ItemsEntered.beside {k : LineNo} (h : ItemsEntered k d e) (hk : t ≠ k) : Beside t d e :=
  ⟨h.other_terminal t hk, h.other_dealer t hk, by rw [show _ = _ from h.parts .watches (by simp)]⟩

/-- Whether terminal t holds a watch on slot i (R154). -/
def holdsWatch (i : Slot) (t : LineNo) (d : Device) : Bool := d.watches.any (fun w => w.terminal == t && w.slot == i)

theorem Beside.holdsWatch (h : Beside t d e) : Machine.holdsWatch i t e = Machine.holdsWatch i t d := by
  have hfilter (ws : List Watch) : ws.any (fun w => w.terminal == t && w.slot == i) =
      (ws.filter (fun w => w.terminal == t)).any (fun w => w.slot == i) := by
    rw [List.any_filter]
  unfold Machine.holdsWatch
  rw [hfilter, hfilter, h.watches]

/-- The symbol of the ended alert a terminal is given: one that holds a watch and is in service (R157, R159). -/
def endedFor (i : Slot) (symbol : Text) (t : LineNo) (d : Device) : Option Text :=
  if holdsWatch i t d = true ∧ ((d.terminal t).state = .active ∨ (d.terminal t).state = .loopback) then some symbol else none

/-- What a DELIST of slot i leaves at terminal t: its alerts, its marks, its entries, and what entered the queue. -/
structure LineDelisted (i : Slot) (symbol : Text) (t : LineNo) (d e : Device) : Prop where
  written : WrittenOnly (d.terminal t) (e.terminal t)
  forward : (e.dealer t).forward = (d.dealer t).forward
  held : holdsWatch i t d = true →
    ∃ n, (e.dealer t).alerts = (alertsAfterDelist i (endedFor i symbol t d) (d.dealer t).alerts).drop n
  unheld : holdsWatch i t d = false → ∃ n, (e.dealer t).alerts = (d.dealer t).alerts.drop n ∨
    (e.dealer t).alerts = (alertsAfterDelist i none (d.dealer t).alerts).drop n
  quiet : (d.terminal t).takesNoItem → e.terminal t = d.terminal t ∧
    e.dealer t = { d.dealer t with
      page := (e.dealer t).page, marks := (e.dealer t).marks, alerts := (e.dealer t).alerts } ∧
    (∀ p, (e.dealer t).marked p = ((d.dealer t).marked p || (d.dealer t).entry p == some i)) ∧
    (holdsWatch i t d = true → (e.dealer t).alerts = alertsAfterDelist i (endedFor i symbol t d) (d.dealer t).alerts) ∧
    (holdsWatch i t d = false → (e.dealer t).alerts = (d.dealer t).alerts ∨
      (e.dealer t).alerts = alertsAfterDelist i none (d.dealer t).alerts)

theorem marked_foldl_emptyEntry (l : List PageNo) (y : Dealer) (q : PageNo) :
    (l.foldl (fun y p => (y.setEntry p none).setMark p true) y).marked q = (decide (q ∈ l) || y.marked q) := by
  induction l generalizing y with
  | nil => simp
  | cons p l ih =>
    rw [List.foldl_cons, ih, marked_setMark]
    by_cases hq : q = p
    · simp [hq]
    · simp only [hq, if_false, List.mem_cons, false_or]
      rfl

/-- The dealer of a terminal once slot i is withdrawn from it, before the room event (R159). -/
def delistedDealer (i : Slot) (symbol : Text) (t : LineNo) (d : Device) (y : Dealer) : Dealer :=
  let y1 := { y with alerts := conditionOrder.foldl (fun l c => dropAlert i c l) y.alerts }
  let y2 := if holdsWatch i t d && takesAlerts (d.terminal t) then { y1 with alerts := appendEnded symbol y1.alerts } else y1
  (showing i t d).foldl (fun y p => (y.setEntry p none).setMark p true) y2

theorem delistTerminal_of_absent (h : holdsWatch i t d = false ∧ showing i t d = []) :
    delistTerminal i symbol t d = d := if_pos h

theorem delistTerminal_of_present (h : ¬ (holdsWatch i t d = false ∧ showing i t d = [])) :
    delistTerminal i symbol t d =
      roomEvent t ((d.setWatches (d.watches.filter (fun w => !(w.terminal == t && w.slot == i)))).modDealer t
        (delistedDealer i symbol t d)) := if_neg h

theorem takesAlerts_iff (x : Terminal) : takesAlerts x = true ↔ x.state = .active ∨ x.state = .loopback := by
  simp [takesAlerts]

theorem delistedDealer_fold (i : Slot) (symbol : Text) (t : LineNo) (d : Device) (y : Dealer) :
    delistedDealer i symbol t d y = (showing i t d).foldl (fun y p => (y.setEntry p none).setMark p true)
      { y with alerts := alertsAfterDelist i (endedFor i symbol t d) y.alerts } := by
  have hended : (holdsWatch i t d && takesAlerts (d.terminal t)) = true ↔
      holdsWatch i t d = true ∧ ((d.terminal t).state = .active ∨ (d.terminal t).state = .loopback) := by
    rw [Bool.and_eq_true, takesAlerts_iff]
  unfold delistedDealer endedFor
  dsimp only
  rw [foldl_dropAlert_conditions, appendEnded_eq]
  by_cases h : (holdsWatch i t d && takesAlerts (d.terminal t)) = true
  · rw [if_pos h, if_pos (hended.1 h)]
    rfl
  · rw [if_neg h, if_neg (fun hn => h (hended.2 hn))]
    rfl

theorem delistedDealer_eq (i : Slot) (symbol : Text) (t : LineNo) (d : Device) (y : Dealer) :
    delistedDealer i symbol t d y = { y with
      page := (delistedDealer i symbol t d y).page, marks := (delistedDealer i symbol t d y).marks,
      alerts := alertsAfterDelist i (endedFor i symbol t d) y.alerts } := by
  rw [delistedDealer_fold]
  exact (foldl_emptyEntry _ _).1

theorem marked_delistedDealer (y : Dealer) (p : PageNo) :
    (delistedDealer i symbol t d y).marked p = (y.marked p || (d.dealer t).entry p == some i) := by
  rw [delistedDealer_fold, marked_foldl_emptyEntry, Bool.or_comm]
  have hshows : decide (p ∈ showing i t d) = ((d.dealer t).entry p == some i) := by
    rw [Bool.eq_iff_iff, decide_eq_true_iff, mem_showing, beq_iff_eq]
  rw [hshows]
  rfl

theorem delistTerminal_delisted (i : Slot) (symbol : Text) (t : LineNo) (d : Device) :
    LineDelisted i symbol t d (delistTerminal i symbol t d) := by
  by_cases h : holdsWatch i t d = false ∧ showing i t d = []
  · rw [delistTerminal_of_absent h]
    refine ⟨.refl _, rfl, fun hheld => by simp [h.1] at hheld, fun _ => ⟨0, .inl List.drop_zero.symm⟩,
      fun _ => ⟨rfl, rfl, fun p => ?_, fun hheld => by simp [h.1] at hheld, fun _ => .inl rfl⟩⟩
    have hp : (d.dealer t).entry p ≠ some i := fun hp => by
      have := mem_showing.2 hp
      simp [h.2] at this
    simp [hp]
  · rw [delistTerminal_of_present h]
    generalize ha : (d.setWatches (d.watches.filter (fun w => !(w.terminal == t && w.slot == i)))).modDealer t
      (delistedDealer i symbol t d) = a
    have hterminal : a.terminal t = d.terminal t := by rw [← ha]; rfl
    have hdealer : a.dealer t = delistedDealer i symbol t d (d.dealer t) := by
      rw [← ha, dealer_modDealer, if_pos rfl]
      rfl
    have hrest := delistedDealer_eq i symbol t d (d.dealer t)
    have halerts : (a.dealer t).alerts = alertsAfterDelist i (endedFor i symbol t d) (d.dealer t).alerts := by
      rw [hdealer, hrest]
    have hnone (hheld : holdsWatch i t d = false) : endedFor i symbol t d = none := if_neg (by simp [hheld])
    have hentered := roomEvent_entered t a
    obtain ⟨n, hn⟩ := hentered.alerts
    rw [halerts] at hn
    refine ⟨hterminal ▸ hentered.written, hentered.forward.trans (by rw [hdealer, hrest]), fun _ => ⟨n, hn⟩,
      fun hheld => ⟨n, .inr (by rw [hn, hnone hheld])⟩, fun hx => ?_⟩
    rw [roomEvent_of_takesNoItem (by rw [hterminal]; exact hx)]
    refine ⟨hterminal, ?_, fun p => by rw [hdealer, marked_delistedDealer], fun _ => halerts,
      fun hheld => .inr (by rw [halerts, hnone hheld])⟩
    rw [halerts, hdealer]
    exact hrest

theorem delistTerminal_beside {k : LineNo} (hk : t ≠ k) (d : Device) : Beside t d (delistTerminal i symbol k d) := by
  by_cases h : holdsWatch i k d = false ∧ showing i k d = []
  · rw [delistTerminal_of_absent h]
    exact .refl t d
  · rw [delistTerminal_of_present h]
    have hwithdrawn : Beside t d ((d.setWatches (d.watches.filter (fun w => !(w.terminal == k && w.slot == i)))).modDealer k
        (delistedDealer i symbol k d)) := by
      refine ⟨rfl, (dealer_modDealer _ k t _).trans (if_neg hk), ?_⟩
      show (d.watches.filter _).filter _ = _
      rw [List.filter_filter]
      refine List.filter_congr fun w _ => ?_
      by_cases hw : w.terminal = t
      · simp [hw, hk]
      · simp [hw]
    exact hwithdrawn.trans ((roomEvent_entered k _).beside hk)

theorem LineDelisted.congr {a b : Device} (h : LineDelisted i symbol t d e) (hd : Beside t a d) (he : Beside t e b) :
    LineDelisted i symbol t a b := by
  have hholds := hd.holdsWatch (i := i)
  have hended : endedFor i symbol t d = endedFor i symbol t a := by
    unfold endedFor
    rw [hholds, hd.terminal]
  obtain ⟨written, forward, held, unheld, quiet⟩ := h
  rw [hd.terminal, ← he.terminal] at written
  rw [hd.dealer, ← he.dealer] at forward
  rw [hd.dealer, ← he.dealer, hholds, hended] at held
  rw [hd.dealer, ← he.dealer, hholds] at unheld
  rw [hd.dealer, ← he.dealer, hd.terminal, ← he.terminal, hholds, hended] at quiet
  exact ⟨written, forward, held, unheld, quiet⟩

theorem delistWatches_delisted (i : Slot) (symbol : Text) (t : LineNo) (d : Device) :
    LineDelisted i symbol t d (delistWatches i symbol d) := by
  obtain ⟨e, hbefore, hafter⟩ := forEach_around (R := Beside t) (f := delistTerminal i symbol)
    (.refl t) (fun _ _ _ h k => h.trans k) (fun k _ hk => delistTerminal_beside (Ne.symm hk)) (List.nodup_finRange 16)
    (List.mem_finRange t) d
  exact (delistTerminal_delisted i symbol t e).congr hbefore hafter

/-! ## The whole DELIST -/

theorem ribbon_forgetSlot (i : Slot) (r q : RibbonNo) (d : Device) : (forgetSlot i r d).ribbon q =
    if q = r then { d.ribbon r with lastShown := if (d.ribbon r).lastShown = some i then none else (d.ribbon r).lastShown }
    else d.ribbon q := by
  unfold forgetSlot
  by_cases h : (d.ribbon r).lastShown = some i
  · rw [if_pos h, if_pos h]
    exact ribbon_modRibbon d r q _
  · rw [if_neg h, if_neg h]
    split
    · next hq => rw [hq]
    · rfl

theorem ribbon_freeSlot (i : Slot) (d : Device) (q : RibbonNo) : (freeSlot i d).ribbon q =
    { d.ribbon q with lastShown := if (d.ribbon q).lastShown = some i then none else (d.ribbon q).lastShown } := by
  have hfold : ∀ (l : List RibbonNo), l.Nodup → ∀ d : Device, (forEach l (forgetSlot i) d).ribbon q =
      if q ∈ l then { d.ribbon q with lastShown := if (d.ribbon q).lastShown = some i then none else (d.ribbon q).lastShown }
      else d.ribbon q := by
    intro l
    induction l with
    | nil => exact fun _ _ => rfl
    | cons r l ih =>
      intro hl d
      obtain ⟨hr, hl⟩ := List.nodup_cons.1 hl
      rw [forEach_cons, ih hl, ribbon_forgetSlot]
      by_cases hq : q = r
      · subst hq
        simp [hr]
      · simp [hq]
  exact (hfold everyRibbon (List.nodup_finRange 4) _).trans (if_pos (List.mem_finRange q))

/-- The record of a DELIST written, and the pair gone (R19). -/
def unlistedSlot (i : Slot) (d : Device) : Device :=
  writeRecord i { d.slot i with state := .delisting, boundRows := [] } (d.setDirectory (d.directory.filter (fun p => p.2 ≠ i)))

theorem unlistedSlot_changes (i : Slot) (d : Device) : ChangesOnly [.directory, .slots, .reservation] d (unlistedSlot i d) :=
  (setDirectory_changes d _).andThen (writeRecord_changes i _ _) (by simp) (by simp)

/-- The device of a DELIST before the dealer service is told. -/
def unboundSlot (i : Slot) (d : Device) : Device := forEach (d.slot i).boundRows unbindAndMark (unlistedSlot i d)

theorem unboundSlot_changes (i : Slot) (d : Device) :
    ChangesOnly [.directory, .slots, .reservation, .rows, .segments] d (unboundSlot i d) :=
  (unlistedSlot_changes i d).andThen (ChangesOnly.forEach unbindAndMark_changes _ _) (by simp) (by simp)

theorem withdrawn_eq (i : Slot) (d : Device) : withdrawn i d = delistWatches i (d.slot i).symbol (unboundSlot i d) := rfl

/-- The board and the screens after a DELIST, with or without the release of the slot. -/
structure BoardDelisted (i : Slot) (d e : Device) : Prop where
  row : ∀ r, e.row r = if r ∈ (d.slot i).boundRows then { markedRow (d.row r) with binding := none } else d.row r
  segment : ∀ g, e.segment g =
    { d.segment g with queue := (d.segment g).queue ++ joining d g (d.slot i).boundRows.eraseDups }
  line : ∀ t, LineDelisted i (d.slot i).symbol t d e

theorem withdrawn_boardDelisted (i : Slot) (d : Device) : BoardDelisted i d (withdrawn i d) := by
  have hrecord := unlistedSlot_changes i d
  have hwatches := delistWatches_changes i (d.slot i).symbol (unboundSlot i d)
  have hrow (r : RowNo) := hrecord.row_eq (by simp) r
  rw [withdrawn_eq]
  refine ⟨fun r => ?_, fun g => ?_, fun t => ?_⟩
  · rw [hwatches.row_eq (by simp), unboundSlot, row_forEach_unbindAndMark, hrow]
  · have hjoining : joining (unlistedSlot i d) g (d.slot i).boundRows.eraseDups =
        joining d g (d.slot i).boundRows.eraseDups := joining_congr (fun q => by rw [hrow q]; exact ⟨rfl, rfl⟩) _
    rw [hwatches.segment_eq (by simp), unboundSlot, segment_forEach_unbindAndMark, hrecord.segment_eq (by simp), hjoining]
  · exact (delistWatches_delisted i _ t _).congr (.of_changes (unboundSlot_changes i d) (by simp)) (.refl t _)

theorem BoardDelisted.freed {j : Slot} (h : BoardDelisted j d e) (i : Slot) : BoardDelisted j d (freeSlot i e) := by
  have hfree := freeSlot_changes i e
  refine ⟨fun r => ?_, fun g => ?_, fun t => ?_⟩
  · rw [hfree.row_eq (by simp)]
    exact h.row r
  · rw [hfree.segment_eq (by simp)]
    exact h.segment g
  · exact (h.line t).congr (.refl t d) (.of_changes hfree (by simp))

/-- What a DELIST leaves of the alerts when the watches are sound: those of its watches are gone in any case (R157). -/
theorem LineDelisted.alerts_of_sound (hsound : WatchesSound d) (h : LineDelisted i symbol t d e) :
    (∃ n, (e.dealer t).alerts = (alertsAfterDelist i (endedFor i symbol t d) (d.dealer t).alerts).drop n) ∧
    ((d.terminal t).takesNoItem →
      (e.dealer t).alerts = alertsAfterDelist i (endedFor i symbol t d) (d.dealer t).alerts) := by
  cases hheld : holdsWatch i t d with
  | true => exact ⟨h.held hheld, fun hx => (h.quiet hx).2.2.2.1 hheld⟩
  | false =>
    have hnone : endedFor i symbol t d = none := if_neg (by simp [hheld])
    have hsame : alertsAfterDelist i none (d.dealer t).alerts = (d.dealer t).alerts := by
      refine List.filter_eq_self.2 fun a ha => ?_
      cases a with
      | ended s => rfl
      | watch j c =>
        obtain ⟨-, -, halerts⟩ := (watchesSound_iff d).1 hsound
        obtain ⟨w, hw, hkey⟩ := List.mem_map.1 ((halerts t).2.2 j c ha)
        have hnot := List.any_eq_false.1 hheld w hw
        refine decide_eq_true fun hj => hnot ?_
        simp [show w.terminal = t from congrArg (·.1) hkey, show w.slot = i from (congrArg (·.2.1) hkey).trans hj]
    rw [hnone, hsame]
    refine ⟨?_, fun hx => ?_⟩
    · obtain ⟨n, hn | hn⟩ := h.unheld hheld
      · exact ⟨n, hn⟩
      · exact ⟨n, hn.trans (by rw [hsame])⟩
    · obtain hn | hn := (h.quiet hx).2.2.2.2 hheld
      · exact hn
      · exact hn.trans hsame

theorem not_mem_alertsAfterDelist (i : Slot) (c : Condition) (ended : Option Text) (l : List Alert) :
    Alert.watch i c ∉ alertsAfterDelist i ended l := by
  have hleft : Alert.watch i c ∉ l.filter (fun a => match a with
      | .watch j _ => decide (j ≠ i)
      | .ended _ => true) := fun h => by simpa using (List.mem_filter.1 h).2
  cases ended with
  | none => exact hleft
  | some symbol =>
    intro h
    obtain h | h := List.mem_append.1 h
    · split at h
      · exact hleft (List.mem_of_mem_eraseP h)
      · exact hleft h
    · simp at h

/-- The record, the ribbons and the parts a DELIST leaves, by whether the tape names the slot (R19, R20, R80). -/
structure SlotDelisted (i : Slot) (d e : Device) : Prop where
  slot : e.slot i = if tapeNames d i = true then
      advanced { d.slot i with state := .delisting, boundRows := [] } else Record.free
  ribbon : ∀ r, e.ribbon r = { d.ribbon r with
    lastShown := if tapeNames d i = false ∧ (d.ribbon r).lastShown = some i then none else (d.ribbon r).lastShown }
  parts : ChangesOnly [.reservation, .slots, .directory, .ribbons, .segments, .rows, .terminals, .dealers, .watches] d e

theorem delistSlot_answer (h : isListed (d.slot i).state = true) :
    (delistSlot i d).2 = accept [if tapeNames d i then 4 else 0] := by
  cases hn : tapeNames d i with
  | true => exact congrArg Prod.snd (delistSlot_named h hn)
  | false => exact congrArg Prod.snd (delistSlot_unnamed h hn)

theorem delistSlot_parts (h : isListed (d.slot i).state = true) :
    BoardDelisted i d (delistSlot i d).1 ∧ SlotDelisted i d (delistSlot i d).1 := by
  have hwithdrawn := withdrawn_changes i d
  have hboard := withdrawn_boardDelisted i d
  have hslot := slot_withdrawn i i d
  rw [if_pos rfl] at hslot
  have hribbon (r : RibbonNo) := hwithdrawn.ribbon_eq (by simp) r
  cases hn : tapeNames d i with
  | true =>
    rw [delistSlot_named h hn]
    dsimp only
    refine ⟨hboard, ⟨?_, fun r => ?_, hwithdrawn.mono (by simp)⟩⟩
    · rw [if_pos hn]
      exact hslot
    · rw [if_neg (by simp [hn])]
      exact hribbon r
  | false =>
    rw [delistSlot_unnamed h hn]
    dsimp only
    refine ⟨hboard.freed i, ⟨?_, fun r => ?_, ?_⟩⟩
    · rw [if_neg (by simp [hn])]
      exact (slot_freeSlot i i _).trans (if_pos rfl)
    · refine (ribbon_freeSlot i _ r).trans ?_
      rw [hribbon]
      simp [hn]
    · exact (hwithdrawn.mono (by simp)).trans ((freeSlot_changes i _).mono (by simp))

/-- Settles O15: the withdrawal goes through every block before the slot is freed, and the lines come one by one. -/
theorem delistWithdrawsTheInstrument : Obligations.DelistWithdrawsTheInstrument := by
  intro s body i htakes hf hlisted d x named
  obtain ⟨hboard, hparts⟩ := delistSlot_parts (d := beginWork 0x02 body d) hlisted
  have hwork : delistSlot i (beginWork 0x02 body d) = ((delistSlot i (beginWork 0x02 body d)).1,
      accept [if tapeNames (beginWork 0x02 body d) i then 4 else 0]) :=
    Prod.ext rfl (delistSlot_answer (d := beginWork 0x02 body d) hlisted)
  have hdelisted := delistSlot_delisted (d := beginWork 0x02 body d) hlisted
  have hexec := exec_accepted htakes hf hwork
  generalize (delistSlot i (beginWork 0x02 body d)).1 = e at hwork hboard hparts hdelisted hexec
  obtain ⟨hslot, hribbon, hchanges⟩ := hparts
  obtain ⟨hrow, hsegment, hline⟩ := hboard
  refine ⟨_, hexec, rfl, ?_, hslot, hdelisted.other, hdelisted.directory, hdelisted.watches, hdelisted.entry,
    fun l c => ?_, fun hsound l => ?_, fun l p hx => ((hline l).quiet hx).2.2.1 p, fun l => (hline l).forward, fun l hx => ?_,
    hrow, hsegment, fun l => (hline l).written, hribbon, (ready_changes _ hchanges).mono (by simp)⟩
  · rw [channel_readyReply _ (hchanges .link (by simp)), hdelisted.reservation,
      show _ = _ from hchanges .settle (by simp)]
    rfl
  · cases hheld : holdsWatch i l d with
    | true =>
      obtain ⟨n, hn⟩ := (hline l).held hheld
      refine .inl fun hmem => not_mem_alertsAfterDelist i c _ _ (List.mem_of_mem_drop (i := n) (hn ▸ hmem))
    | false =>
      refine .inr fun w hw hwi => List.any_eq_false.1 hheld w hw ?_
      simp [hwi.1, hwi.2]
  · have halerts := (hline l).alerts_of_sound (d := beginWork 0x02 body d) hsound
    exact ⟨halerts.2, fun _ => halerts.1⟩
  · obtain ⟨hterminal, hdealer, _⟩ := (hline l).quiet hx
    exact ⟨hterminal, hdealer⟩

end Sys2Proof.Machine
end


section
/-! PROOFS. An evaluation of the watches on a slot (O55). -/

namespace Sys2Proof.Machine

variable {d e : Device} {t : LineNo} {i : Slot} {last : Nat}

/-! ## The watches (R155) -/

/-- The watches whose key meets `P` evaluated against a present last. -/
def evaluatedWhere (P : LineNo × Slot × Condition → Bool) (last : Nat) (ws : List Watch) : List Watch :=
  ws.map (fun w => if P (watchKey w) then { w with state := evaluatedState w last } else w)

theorem evaluatedWhere_of_none {P : LineNo × Slot × Condition → Bool} {ws : List Watch}
    (h : ∀ w ∈ ws, P (watchKey w) = false) : evaluatedWhere P last ws = ws := by
  unfold evaluatedWhere
  conv_rhs => rw [← List.map_id ws]
  exact List.map_congr_left fun w hw => if_neg (by simp [h w hw])

theorem evaluatedWhere_congr {P Q : LineNo × Slot × Condition → Bool} (h : ∀ k, P k = Q k) (ws : List Watch) :
    evaluatedWhere P last ws = evaluatedWhere Q last ws := by rw [funext h]

theorem keys_evaluatedWhere (P : LineNo × Slot × Condition → Bool) (ws : List Watch) :
    (evaluatedWhere P last ws).map watchKey = ws.map watchKey := by
  rw [evaluatedWhere, List.map_map]
  refine List.map_congr_left fun w _ => ?_
  simp only [Function.comp_apply]
  split <;> rfl

/-- Evaluations of watches with different keys add up. -/
theorem evaluatedWhere_evaluatedWhere {P Q : LineNo × Slot × Condition → Bool} (h : ∀ k, P k = true → Q k = false)
    (ws : List Watch) :
    evaluatedWhere Q last (evaluatedWhere P last ws) = evaluatedWhere (fun k => P k || Q k) last ws := by
  unfold evaluatedWhere
  rw [List.map_map]
  refine List.map_congr_left fun w _ => ?_
  have hkey : watchKey { w with state := evaluatedState w last } = watchKey w := rfl
  simp only [Function.comp_apply]
  by_cases hP : P (watchKey w) = true
  · simp [hP, hkey, h _ hP]
  · simp [hP]

theorem findWatch_some {c : Condition} {w : Watch} (h : findWatch d t i c = some w) :
    w ∈ d.watches ∧ watchKey w = (t, i, c) := by
  have hkey := List.find?_some (p := fun w : Watch => w.terminal == t && w.slot == i && w.cond == c) h
  refine ⟨List.mem_of_find?_eq_some h, ?_⟩
  simp only [Bool.and_eq_true, beq_iff_eq] at hkey
  obtain ⟨⟨rfl, rfl⟩, rfl⟩ := hkey
  rfl

theorem findWatch_none {c : Condition} (h : findWatch d t i c = none) : ∀ w ∈ d.watches, watchKey w ≠ (t, i, c) := by
  intro w hw hkey
  have hnot := List.find?_eq_none.1 h w hw
  obtain ⟨rfl, hrest⟩ := Prod.mk.inj hkey
  obtain ⟨rfl, rfl⟩ := Prod.mk.inj hrest
  simp at hnot

/-- The alert an evaluation of terminal t and condition c gives, from the watches as they stand before it. -/
def firedAlert (i : Slot) (last : Nat) (t : LineNo) (ws : List Watch) (c : Condition) : Option Alert :=
  if ws.any (fun w => decide (watchKey w = (t, i, c)) && fires w last) then some (.watch i c) else none

theorem evaluateWatch_of_none {c : Condition} (h : findWatch d t i c = none) : evaluateWatch i last t c d = d := by
  unfold evaluateWatch
  rw [h]

theorem evaluateWatch_of_some {c : Condition} {w : Watch} (h : findWatch d t i c = some w) :
    evaluateWatch i last t c d =
      if fires w last then listAlert t (.watch i c) (d.setWatches
        (d.watches.map (fun v => if v = w then { v with state := evaluatedState w last } else v)))
      else d.setWatches (d.watches.map (fun v => if v = w then { v with state := evaluatedState w last } else v)) := by
  unfold evaluateWatch
  rw [h]

/-- The one watch with a key is the one that is evaluated. -/
theorem map_evaluated_eq {w : Watch} (hkeys : (d.watches.map watchKey).Nodup) (hw : w ∈ d.watches) :
    d.watches.map (fun v => if v = w then { v with state := evaluatedState w last } else v) =
      evaluatedWhere (fun k => decide (k = watchKey w)) last d.watches := by
  refine List.map_congr_left fun v hv => ?_
  by_cases h : v = w
  · subst h
    simp
  · have hne : watchKey v ≠ watchKey w := fun hk => h (List.inj_on_of_nodup_map hkeys hv hw hk)
    simp [h, hne]

theorem listAlert_of_new {a : Alert} (h : takesAlerts (d.terminal t) = true) (ha : a ∉ (d.dealer t).alerts) :
    listAlert t a d = d.modDealer t (fun y => { y with alerts := y.alerts ++ [a] }) := if_pos ⟨h, ha⟩

theorem listAlert_of_not {a : Alert} (h : ¬ (takesAlerts (d.terminal t) = true ∧ a ∉ (d.dealer t).alerts)) :
    listAlert t a d = d := if_neg h

/-- The alerts of a list that a terminal in service is given: those that do not wait already (R157). -/
def newAlerts (x : Terminal) (y : Dealer) (l : List Alert) : List Alert :=
  if takesAlerts x then l.filter (fun a => !y.alerts.contains a) else []

theorem newAlerts_nil (x : Terminal) (y : Dealer) : newAlerts x y [] = [] := by
  unfold newAlerts
  split <;> rfl

/-- What an evaluation leaves at terminal t before the room event: the watches of `P` evaluated, the alerts of `l` listed. -/
structure Evaluated (P : LineNo × Slot × Condition → Bool) (last : Nat) (t : LineNo) (l : List Alert) (d e : Device) :
    Prop where
  watches : e.watches = evaluatedWhere P last d.watches
  terminal : ∀ k, e.terminal k = d.terminal k
  dealer : e.dealer t =
    { d.dealer t with alerts := (d.dealer t).alerts ++ newAlerts (d.terminal t) (d.dealer t) l }
  other : ∀ k, k ≠ t → e.dealer k = d.dealer k

theorem listAlert_evaluated (t : LineNo) (a : Alert) (d : Device) :
    (listAlert t a d).watches = d.watches ∧ (∀ k, (listAlert t a d).terminal k = d.terminal k) ∧
    (listAlert t a d).dealer t =
      { d.dealer t with alerts := (d.dealer t).alerts ++ newAlerts (d.terminal t) (d.dealer t) [a] } ∧
    ∀ k, k ≠ t → (listAlert t a d).dealer k = d.dealer k := by
  by_cases h : takesAlerts (d.terminal t) = true ∧ a ∉ (d.dealer t).alerts
  · rw [listAlert_of_new h.1 h.2]
    refine ⟨rfl, fun _ => rfl, ?_, fun k hk => (dealer_modDealer d t k _).trans (if_neg hk)⟩
    rw [dealer_modDealer, if_pos rfl, newAlerts, if_pos h.1]
    simp [h.2]
  · rw [listAlert_of_not h]
    refine ⟨rfl, fun _ => rfl, ?_, fun _ _ => rfl⟩
    have hnone : newAlerts (d.terminal t) (d.dealer t) [a] = [] := by
      unfold newAlerts
      split
      · next hx =>
        have ha : a ∈ (d.dealer t).alerts := not_not.1 fun ha => h ⟨hx, ha⟩
        simp [ha]
      · rfl
    rw [hnone, List.append_nil]

theorem evaluateWatch_evaluated (hkeys : (d.watches.map watchKey).Nodup) (c : Condition) :
    Evaluated (fun k => decide (k = (t, i, c))) last t (firedAlert i last t d.watches c).toList d
      (evaluateWatch i last t c d) := by
  cases h : findWatch d t i c with
  | none =>
    have hnone := findWatch_none h
    have hfired : firedAlert i last t d.watches c = none :=
      if_neg (by simp only [List.any_eq_true, not_exists, not_and]; exact fun w hw => by simp [hnone w hw])
    rw [evaluateWatch_of_none h, hfired]
    refine ⟨(evaluatedWhere_of_none fun w hw => by simp [hnone w hw]).symm, fun _ => rfl, ?_, fun _ _ => rfl⟩
    rw [Option.toList_none, newAlerts_nil, List.append_nil]
  | some w =>
    obtain ⟨hw, hkey⟩ := findWatch_some h
    have hmap := map_evaluated_eq (last := last) hkeys hw
    rw [hkey] at hmap
    have hfired : firedAlert i last t d.watches c = if fires w last then some (.watch i c) else none := by
      unfold firedAlert
      refine if_congr ?_ rfl rfl
      rw [List.any_eq_true]
      constructor
      · rintro ⟨v, hv, hvk⟩
        simp only [Bool.and_eq_true, decide_eq_true_eq] at hvk
        rw [← List.inj_on_of_nodup_map hkeys hv hw (hvk.1.trans hkey.symm)]
        exact hvk.2
      · exact fun hf => ⟨w, hw, by simp [hkey, hf]⟩
    rw [evaluateWatch_of_some h, hfired, hmap]
    by_cases hf : fires w last = true
    · obtain ⟨hwatches, hterminal, hdealer, hother⟩ :=
        listAlert_evaluated t (.watch i c) (d.setWatches (evaluatedWhere (fun k => decide (k = (t, i, c))) last d.watches))
      rw [if_pos hf, if_pos hf]
      exact ⟨hwatches, hterminal, hdealer, hother⟩
    · rw [if_neg hf, if_neg hf]
      refine ⟨rfl, fun _ => rfl, ?_, fun _ _ => rfl⟩
      rw [Option.toList_none, newAlerts_nil, List.append_nil]
      rfl

theorem Evaluated.trans {P Q : LineNo × Slot × Condition → Bool} {l m : List Alert} {a b c : Device}
    (h : Evaluated P last t l a b) (k : Evaluated Q last t m b c) (hPQ : ∀ k, P k = true → Q k = false)
    (hlm : ∀ x ∈ m, x ∉ l) : Evaluated (fun k => P k || Q k) last t (l ++ m) a c where
  watches := by rw [k.watches, h.watches, evaluatedWhere_evaluatedWhere hPQ]
  terminal j := (k.terminal j).trans (h.terminal j)
  other j hj := (k.other j hj).trans (h.other j hj)
  dealer := by
    have hnew : newAlerts (b.terminal t) (b.dealer t) m = newAlerts (a.terminal t) (a.dealer t) m := by
      unfold newAlerts
      rw [h.terminal, h.dealer]
      refine if_congr Iff.rfl (List.filter_congr fun x hx => ?_) rfl
      have hnot : x ∉ newAlerts (a.terminal t) (a.dealer t) l := by
        unfold newAlerts
        split
        · exact fun hmem => hlm x hx (List.mem_of_mem_filter hmem)
        · exact List.not_mem_nil
      simp [hnot]
    have happend : newAlerts (a.terminal t) (a.dealer t) l ++ newAlerts (a.terminal t) (a.dealer t) m =
        newAlerts (a.terminal t) (a.dealer t) (l ++ m) := by
      unfold newAlerts
      split
      · rw [List.filter_append]
      · rfl
    rw [k.dealer, hnew, h.dealer, ← happend, List.append_assoc]

theorem firedAlert_congr {ws vs : List Watch} {c : Condition}
    (h : vs.filter (fun w => decide (watchKey w = (t, i, c))) = ws.filter (fun w => decide (watchKey w = (t, i, c)))) :
    firedAlert i last t vs c = firedAlert i last t ws c := by
  have hany (l : List Watch) : l.any (fun w => decide (watchKey w = (t, i, c)) && fires w last) =
      (l.filter (fun w => decide (watchKey w = (t, i, c)))).any (fun w => fires w last) := (List.any_filter).symm
  unfold firedAlert
  rw [hany, hany, h]

/-- An evaluation of other keys leaves the watches of a key as they are. -/
theorem filter_evaluatedWhere {P Q : LineNo × Slot × Condition → Bool} (h : ∀ k, P k = true → Q k = false) (ws : List Watch) :
    (evaluatedWhere P last ws).filter (fun w => Q (watchKey w)) = ws.filter (fun w => Q (watchKey w)) := by
  induction ws with
  | nil => rfl
  | cons w ws ih =>
    have hcons : evaluatedWhere P last (w :: ws) =
        (if P (watchKey w) then { w with state := evaluatedState w last } else w) :: evaluatedWhere P last ws := rfl
    rw [hcons]
    by_cases hP : P (watchKey w) = true
    · have hkey : watchKey { w with state := evaluatedState w last } = watchKey w := rfl
      rw [if_pos hP, List.filter_cons, List.filter_cons, hkey, if_neg (by simp [h _ hP]), if_neg (by simp [h _ hP]), ih]
    · rw [if_neg hP, List.filter_cons, List.filter_cons, ih]

theorem firedAlert_mem {ws : List Watch} {l : List Condition} {a : Alert}
    (h : a ∈ l.filterMap (firedAlert i last t ws)) : ∃ c ∈ l, a = .watch i c := by
  obtain ⟨c, hc, hfired⟩ := List.mem_filterMap.1 h
  unfold firedAlert at hfired
  rw [Option.ite_none_right_eq_some] at hfired
  exact ⟨c, hc, (Option.some.inj hfired.2).symm⟩

/-- The conditions of one terminal, evaluated one after another. -/
theorem evaluateConditions_evaluated (l : List Condition) (hl : l.Nodup) (hkeys : (d.watches.map watchKey).Nodup) :
    Evaluated (fun k => k.1 == t && k.2.1 == i && decide (k.2.2 ∈ l)) last t (l.filterMap (firedAlert i last t d.watches)) d
      (forEach l (evaluateWatch i last t) d) := by
  induction l generalizing d with
  | nil =>
    refine ⟨(evaluatedWhere_of_none fun w hw => by simp).symm, fun _ => rfl, ?_, fun _ _ => rfl⟩
    rw [List.filterMap_nil, newAlerts_nil, List.append_nil]
    rfl
  | cons c l ih =>
    obtain ⟨hc, hl⟩ := List.nodup_cons.1 hl
    have hfirst := evaluateWatch_evaluated (t := t) (i := i) (last := last) hkeys c
    have hrest := ih (d := evaluateWatch i last t c d) hl (by rw [hfirst.watches, keys_evaluatedWhere]; exact hkeys)
    have hfired : l.filterMap (firedAlert i last t (evaluateWatch i last t c d).watches) =
        l.filterMap (firedAlert i last t d.watches) := by
      refine List.filterMap_congr fun b hb => firedAlert_congr ?_
      rw [hfirst.watches]
      exact filter_evaluatedWhere (Q := fun k => decide (k = (t, i, b)))
        (fun k hk => by
          have hkc := of_decide_eq_true hk
          simp only [hkc, Prod.mk.injEq, true_and, decide_eq_false_iff_not]
          exact fun h => hc (h ▸ hb)) _
    rw [hfired] at hrest
    have hboth := hfirst.trans hrest
      (fun k hk => by
        have hkc := of_decide_eq_true hk
        simp [hkc, hc])
      (fun a ha ha' => by
        obtain ⟨b, hb, rfl⟩ := firedAlert_mem ha
        have hmem := Option.mem_toList.1 ha'
        unfold firedAlert at hmem
        rw [Option.ite_none_right_eq_some] at hmem
        obtain ⟨-, h⟩ := hmem
        cases h
        exact hc hb)
    rw [forEach_cons]
    have hlist : (firedAlert i last t d.watches c).toList ++ l.filterMap (firedAlert i last t d.watches) =
        (c :: l).filterMap (firedAlert i last t d.watches) := by
      rw [List.filterMap_cons]
      cases firedAlert i last t d.watches c <;> rfl
    have hset : (fun k : LineNo × Slot × Condition => decide (k = (t, i, c)) || k.1 == t && k.2.1 == i && decide (k.2.2 ∈ l)) =
        fun k => k.1 == t && k.2.1 == i && decide (k.2.2 ∈ c :: l) := by
      funext ⟨a, b, m⟩
      by_cases ha : a = t <;> by_cases hb : b = i <;> by_cases hm : m = c <;> simp [ha, hb, hm]
    rw [hlist, hset] at hboth
    exact hboth

/-! ## The terminals one by one -/

theorem evaluateTerminal_of_none (h : holdsWatch i t d = false) : evaluateTerminal i last t d = d :=
  if_neg (show ¬ holdsWatch i t d = true by simp [h])

theorem evaluateTerminal_of_some (h : holdsWatch i t d = true) :
    evaluateTerminal i last t d = roomEvent t (forEach conditionOrder (evaluateWatch i last t) d) := if_pos h

theorem not_watchKey_of_none (h : holdsWatch i t d = false) : ∀ w ∈ d.watches, ¬ (w.terminal = t ∧ w.slot = i) :=
  fun w hw hwi => List.any_eq_false.1 h w hw (by simp [hwi.1, hwi.2])

/-- The alerts of terminal t after an evaluation, if it is in service (R155, R157). -/
def listedAlerts (i : Slot) (last : Nat) (t : LineNo) (d : Device) : List Alert :=
  (d.dealer t).alerts ++
    (conditionOrder.filterMap (firedAlert i last t d.watches)).filter (fun a => !(d.dealer t).alerts.contains a)

/-- What an evaluation leaves at terminal t. -/
structure LineEvaluated (i : Slot) (last : Nat) (t : LineNo) (d e : Device) : Prop where
  written : WrittenOnly (d.terminal t) (e.terminal t)
  loopback : (d.terminal t).state = .loopback → (e.dealer t).alerts = listedAlerts i last t d
  active : (d.terminal t).state = .active → ∃ n, (e.dealer t).alerts = (listedAlerts i last t d).drop n
  silent : (d.terminal t).state = .disabled ∨ (d.terminal t).state = .absent →
    (e.dealer t).alerts = (d.dealer t).alerts

theorem evaluated_watches_terminal (hkeys : (d.watches.map watchKey).Nodup) :
    (evaluateTerminal i last t d).watches = evaluatedWhere (fun k => k.1 == t && k.2.1 == i) last d.watches := by
  cases h : holdsWatch i t d with
  | false =>
    rw [evaluateTerminal_of_none h]
    refine (evaluatedWhere_of_none fun w hw => ?_).symm
    have hnot := not_watchKey_of_none h w hw
    rw [Bool.and_eq_false_iff, beq_eq_false_iff_ne, beq_eq_false_iff_ne]
    exact not_and_or.1 hnot
  | true =>
    rw [evaluateTerminal_of_some h, show _ = _ from roomEvent_changes t _ .watches (by simp),
      (evaluateConditions_evaluated conditionOrder (by decide) hkeys).watches]
    refine evaluatedWhere_congr (fun ⟨a, b, c⟩ => ?_) _
    cases c <;> simp [conditionOrder]

theorem evaluateTerminal_evaluated (hkeys : (d.watches.map watchKey).Nodup) :
    LineEvaluated i last t d (evaluateTerminal i last t d) := by
  cases h : holdsWatch i t d with
  | false =>
    have hnone : conditionOrder.filterMap (firedAlert i last t d.watches) = [] := by
      refine List.filterMap_eq_nil_iff.2 fun c _ => if_neg ?_
      rw [List.any_eq_true]
      rintro ⟨w, hw, hk⟩
      have hkey := of_decide_eq_true (Bool.and_eq_true_iff.1 hk).1
      exact not_watchKey_of_none h w hw ⟨congrArg (·.1) hkey, congrArg (·.2.1) hkey⟩
    have hlisted : listedAlerts i last t d = (d.dealer t).alerts := by
      unfold listedAlerts
      rw [hnone, List.filter_nil, List.append_nil]
    rw [evaluateTerminal_of_none h]
    exact ⟨.refl _, fun _ => hlisted.symm, fun _ => ⟨0, by rw [hlisted, List.drop_zero]⟩, fun _ => rfl⟩
  | true =>
    rw [evaluateTerminal_of_some h]
    have hconditions := evaluateConditions_evaluated (t := t) (i := i) (last := last) conditionOrder (by decide) hkeys
    generalize forEach conditionOrder (evaluateWatch i last t) d = a at hconditions
    have hterminal := hconditions.terminal t
    have hserved (hx : takesAlerts (d.terminal t) = true) : (a.dealer t).alerts = listedAlerts i last t d := by
      rw [hconditions.dealer, newAlerts, if_pos hx]
      rfl
    have hsilent (hx : ¬ takesAlerts (d.terminal t) = true) : (a.dealer t).alerts = (d.dealer t).alerts := by
      rw [hconditions.dealer, newAlerts, if_neg hx, List.append_nil]
    have hentered := roomEvent_entered t a
    refine ⟨hterminal ▸ hentered.written, fun hx => ?_, fun hx => ?_, fun hx => ?_⟩
    · rw [roomEvent_of_not_active (by simp [hterminal, hx]), hserved ((takesAlerts_iff _).2 (.inr hx))]
    · obtain ⟨n, hn⟩ := hentered.alerts
      exact ⟨n, by rw [hn, hserved ((takesAlerts_iff _).2 (.inl hx))]⟩
    · have hoff : ¬ takesAlerts (d.terminal t) = true := by
        rw [takesAlerts_iff]
        rcases hx with hx | hx <;> simp [hx]
      rw [roomEvent_of_not_active (by rw [hterminal]; rcases hx with hx | hx <;> simp [hx]), hsilent hoff]

/-- A step of the other terminals in an evaluation, from watches with distinct keys. -/
def EvaluatedBeside (t : LineNo) (d e : Device) : Prop :=
  (d.watches.map watchKey).Nodup → Beside t d e ∧ e.watches.map watchKey = d.watches.map watchKey

theorem EvaluatedBeside.trans {a b c : Device} (h : EvaluatedBeside t a b) (k : EvaluatedBeside t b c) :
    EvaluatedBeside t a c := fun hkeys => by
  obtain ⟨hab, hkab⟩ := h hkeys
  obtain ⟨hbc, hkbc⟩ := k (hkab ▸ hkeys)
  exact ⟨hab.trans hbc, hkbc.trans hkab⟩

theorem evaluateTerminal_beside {k : LineNo} (hk : t ≠ k) (d : Device) :
    EvaluatedBeside t d (evaluateTerminal i last k d) := fun hkeys => by
  have hwatches := evaluated_watches_terminal (t := k) (i := i) (last := last) hkeys
  have hfilter : (evaluateTerminal i last k d).watches.filter (fun w => w.terminal == t) =
      d.watches.filter (fun w => w.terminal == t) := by
    rw [hwatches]
    refine filter_evaluatedWhere (Q := fun k => k.1 == t) (fun q hq => ?_) _
    simp only [Bool.and_eq_true, beq_iff_eq] at hq
    simp [hq.1, Ne.symm hk]
  refine ⟨⟨?_, ?_, hfilter⟩, by rw [hwatches, keys_evaluatedWhere]⟩
  · cases h : holdsWatch i k d with
    | false => rw [evaluateTerminal_of_none h]
    | true =>
      rw [evaluateTerminal_of_some h, (roomEvent_entered k _).other_terminal t hk]
      exact (evaluateConditions_evaluated conditionOrder (by decide) hkeys).terminal t
  · cases h : holdsWatch i k d with
    | false => rw [evaluateTerminal_of_none h]
    | true =>
      rw [evaluateTerminal_of_some h, (roomEvent_entered k _).other_dealer t hk]
      exact (evaluateConditions_evaluated conditionOrder (by decide) hkeys).other t hk

theorem LineEvaluated.congr {a b : Device} (h : LineEvaluated i last t d e) (hd : Beside t a d) (he : Beside t e b) :
    LineEvaluated i last t a b := by
  have hlisted : listedAlerts i last t d = listedAlerts i last t a := by
    have hfired (c : Condition) : firedAlert i last t d.watches c = firedAlert i last t a.watches c := by
      have hfilter (ws : List Watch) : ws.filter (fun w => decide (watchKey w = (t, i, c))) =
          (ws.filter (fun w => w.terminal == t)).filter (fun w => decide (watchKey w = (t, i, c))) := by
        rw [List.filter_filter]
        refine List.filter_congr fun w _ => ?_
        by_cases hk : watchKey w = (t, i, c)
        · simp [hk, show w.terminal = t from congrArg (·.1) hk]
        · simp [hk]
      refine firedAlert_congr ?_
      rw [hfilter, hfilter a.watches, hd.watches]
    unfold listedAlerts
    rw [funext hfired, hd.dealer]
  obtain ⟨written, loopback, active, silent⟩ := h
  rw [hd.terminal, ← he.terminal] at written
  rw [hd.terminal, hlisted, ← he.dealer] at loopback active
  rw [hd.terminal, hd.dealer, ← he.dealer] at silent
  exact ⟨written, loopback, active, silent⟩

theorem evaluateWatches_evaluated (hkeys : (d.watches.map watchKey).Nodup) (t : LineNo) :
    LineEvaluated i last t d (evaluateWatches i (some last) d) := by
  obtain ⟨e, hbefore, hafter⟩ := forEach_around (R := EvaluatedBeside t) (f := evaluateTerminal i last)
    (fun d _ => ⟨.refl t d, rfl⟩) (fun _ _ _ h k => h.trans k) (fun k _ hk => evaluateTerminal_beside (Ne.symm hk))
    (List.nodup_finRange 16) (List.mem_finRange t) d
  obtain ⟨hbeside, hsame⟩ := hbefore hkeys
  have hkeys' : (e.watches.map watchKey).Nodup := hsame ▸ hkeys
  have hturn : ((evaluateTerminal i last t e).watches.map watchKey).Nodup := by
    rw [evaluated_watches_terminal hkeys', keys_evaluatedWhere]
    exact hkeys'
  exact (evaluateTerminal_evaluated hkeys').congr hbeside (hafter hturn).1

theorem watches_evaluateTerminals (l : List LineNo) (hl : l.Nodup) (hkeys : (d.watches.map watchKey).Nodup) :
    (forEach l (evaluateTerminal i last) d).watches =
      evaluatedWhere (fun k => decide (k.1 ∈ l) && k.2.1 == i) last d.watches := by
  induction l generalizing d with
  | nil => exact (evaluatedWhere_of_none fun w _ => by simp).symm
  | cons t l ih =>
    obtain ⟨ht, hl⟩ := List.nodup_cons.1 hl
    have hfirst := evaluated_watches_terminal (t := t) (i := i) (last := last) hkeys
    rw [forEach_cons, ih hl (by rw [hfirst, keys_evaluatedWhere]; exact hkeys), hfirst, evaluatedWhere_evaluatedWhere]
    · refine evaluatedWhere_congr (fun k => ?_) _
      by_cases hk : k.1 = t <;> by_cases hi : k.2.1 = i <;> simp [hk, hi]
    · intro k hk
      simp only [Bool.and_eq_true, beq_iff_eq] at hk
      simp [hk.1, ht]

/-- What an evaluation makes of a sound watch (the table of R155). -/
theorem evaluatedState_eq {w : Watch} (hfit : WatchFit w) (last : Nat) : evaluatedState w last =
    if holds w.cond w.threshold last && w.cond != .any then .fired else .armed := by
  unfold evaluatedState
  cases hstate : w.state with
  | armed => simp
  | fired =>
    have hcond : w.cond ≠ .any := fun hc => by simp [hfit.2 hc] at hstate
    simp [hcond]

/-- Settles O55: distinct keys make the evaluations of one sweep independent, and the lines come one by one. -/
theorem evaluationFiresAndRearmsWatches : Obligations.EvaluationFiresAndRearmsWatches := by
  intro d i last hsound d' meets fired listed
  obtain ⟨⟨-, -, hkeys⟩, hfit, -⟩ := (watchesSound_iff d).1 hsound
  have hmeets (w : Watch) : meets w = holds w.cond w.threshold last := by
    simp only [meets, holds]
    cases w.cond <;> cases w.threshold <;> simp [beq_eq_decide]
  have hlisted (l : LineNo) : listedAlerts i last l d = listed l := by
    have hfired : conditionOrder.filterMap (firedAlert i last l d.watches) = fired l := by
      refine List.filterMap_congr fun c _ => ?_
      unfold firedAlert
      refine if_congr (Bool.eq_iff_iff.1 ?_) rfl rfl
      congr 1
      funext w
      rw [Bool.eq_iff_iff]
      simp [watchKey, fires, hmeets, and_assoc]
    show _ ++ _ = _ ++ _
    rw [hfired]
  have hline (l : LineNo) := evaluateWatches_evaluated (i := i) (last := last) hkeys l
  refine ⟨rfl, ?_, fun l hx => ?_, fun l hx => ?_, fun l => (hline l).silent, fun l => (hline l).written,
    evaluateWatches_changes i _ d⟩
  · refine (watches_evaluateTerminals everyLine (List.nodup_finRange 16) hkeys).trans (List.map_congr_left fun w hw => ?_)
    have hmem : (watchKey w).1 ∈ everyLine := List.mem_finRange _
    refine if_congr ?_ ?_ rfl
    · simp only [hmem, decide_true, Bool.true_and]
      exact beq_iff_eq
    · rw [evaluatedState_eq (hfit w hw), hmeets]
  · exact ((hline l).loopback hx).trans (hlisted l)
  · obtain ⟨n, hn⟩ := (hline l).active hx
    exact ⟨n, hn.trans (by rw [hlisted])⟩

end Sys2Proof.Machine
end


section
/-! PROOFS. The tape queue: an offer (O25), and the departure of entries (O27). -/

namespace Sys2Proof.Machine

variable {d e : Device} {r : RibbonNo} {b : EntryBody}

/-! ## An evaluation of a ribbon's delay (R76, R77, R81) -/

/-- A ribbon after an evaluation of its delay. -/
def evaluatedRibbon (x : Ribbon) : Ribbon :=
  { x with
    level := evaluatedLevel x, markerOwed := x.markerOwed || (x.level == .normal && evaluatedLevel x != .normal) }

theorem evaluatedRibbon_of_same {x : Ribbon} (h : evaluatedLevel x = x.level) : evaluatedRibbon x = x := by
  have howed : (x.level == .normal && x.level != .normal) = false := by cases x.level <;> rfl
  unfold evaluatedRibbon
  rw [h, howed, Bool.or_false]

theorem evaluatedRibbon_of_changed {x : Ribbon} (h : evaluatedLevel x ≠ x.level) :
    evaluatedRibbon x = { x with level := evaluatedLevel x, markerOwed := x.markerOwed || x.level == .normal } := by
  have howed : (x.level == .normal && evaluatedLevel x != .normal) = (x.level == .normal) := by
    cases hx : x.level <;> simp_all
  unfold evaluatedRibbon
  rw [howed]

theorem ribbon_evaluateDelay (r q : RibbonNo) (d : Device) :
    (evaluateDelay r d).ribbon q = if q = r then evaluatedRibbon (d.ribbon r) else d.ribbon q := by
  unfold evaluateDelay
  dsimp only
  split
  · next h =>
    rw [evaluatedRibbon_of_same h]
    split
    · next hq => rw [hq]
    · rfl
  · next h =>
    rw [(raise_changes _ _).ribbon_eq (by simp), Device.ribbon_setRibbon, evaluatedRibbon_of_changed h]

theorem mem_evaluateDelay (r : RibbonNo) (d : Device) (n : Notice) : n ∈ (evaluateDelay r d).notices ↔
    n ∈ d.notices ∨ (n = .ribbon r ∧ evaluatedLevel (d.ribbon r) ≠ (d.ribbon r).level) := by
  unfold evaluateDelay
  dsimp only
  split
  · next h => simp [h]
  · next h =>
    rw [mem_raise, Device.notices_setRibbon]
    simp [h, or_comm]

/-! ## Joining (R59) -/

/-- A ribbon that has joined an entry of normal length `len`: its backlog added to, its delay evaluated. -/
def joinedRibbon (len : Nat) (x : Ribbon) : Ribbon := evaluatedRibbon { x with backlog := x.backlog + len }

theorem ribbon_joinRibbon (len : Nat) (r q : RibbonNo) (d : Device) :
    (joinRibbon len r d).ribbon q = if q = r then joinedRibbon len (d.ribbon r) else d.ribbon q := by
  unfold joinRibbon
  rw [ribbon_evaluateDelay, ribbon_modRibbon, ribbon_modRibbon, if_pos rfl]
  split <;> rfl

/-- Whether joining changes the level of a ribbon. -/
def levelChanges (len : Nat) (x : Ribbon) : Prop := (joinedRibbon len x).level ≠ x.level

theorem mem_joinRibbon (len : Nat) (r : RibbonNo) (d : Device) (n : Notice) : n ∈ (joinRibbon len r d).notices ↔
    n ∈ d.notices ∨ (n = .ribbon r ∧ levelChanges len (d.ribbon r)) := by
  unfold joinRibbon
  rw [mem_evaluateDelay, ribbon_modRibbon, if_pos rfl]
  rfl

theorem joinRibbons_parts (len : Nat) (l : List RibbonNo) (hl : l.Nodup) (d : Device) :
    (∀ q, (forEach l (joinRibbon len) d).ribbon q = if q ∈ l then joinedRibbon len (d.ribbon q) else d.ribbon q) ∧
    ∀ n, n ∈ (forEach l (joinRibbon len) d).notices ↔
      n ∈ d.notices ∨ ∃ r ∈ l, n = .ribbon r ∧ levelChanges len (d.ribbon r) := by
  induction l generalizing d with
  | nil => exact ⟨fun _ => rfl, fun n => by simp [forEach]⟩
  | cons r l ih =>
    obtain ⟨hr, hl⟩ := List.nodup_cons.1 hl
    obtain ⟨hribbon, hnotices⟩ := ih hl (joinRibbon len r d)
    rw [forEach_cons]
    refine ⟨fun q => ?_, fun n => ?_⟩
    · rw [hribbon, ribbon_joinRibbon]
      by_cases hq : q = r
      · subst hq
        simp [hr]
      · simp [hq]
    · have hothers (q : RibbonNo) (hq : q ∈ l) : (joinRibbon len r d).ribbon q = d.ribbon q := by
        rw [ribbon_joinRibbon, if_neg (ne_of_mem_of_not_mem hq hr)]
      rw [hnotices, mem_joinRibbon, or_assoc, List.exists_mem_cons_iff]
      refine or_congr_right (or_congr_right (exists_congr fun q => and_congr_right fun hq => ?_))
      rw [hothers q hq]

/-! ## An offer (R52 to R55) -/

theorem nodup_pendingSet (d : Device) (b : EntryBody) : (pendingSet d b).Nodup := (List.nodup_finRange 4).filter _

/-- An appended entry: the tape, the ribbons of its set and their notices. -/
theorem appendEntry_parts (b : EntryBody) (d : Device) :
    (appendEntry b d).tape =
      ⟨d.tape.entries ++ [⟨d.tape.nextId, b, normalLength d b, pendingSet d b⟩], d.tape.nextId + 1⟩ ∧
    (∀ q, (appendEntry b d).ribbon q =
      if q ∈ pendingSet d b then joinedRibbon (normalLength d b) (d.ribbon q) else d.ribbon q) ∧
    (∀ n, n ∈ (appendEntry b d).notices ↔ n ∈ d.notices ∨
      ∃ r ∈ pendingSet d b, n = .ribbon r ∧ levelChanges (normalLength d b) (d.ribbon r)) ∧
    ChangesOnly [.tape, .ribbons, .notices] d (appendEntry b d) := by
  obtain ⟨hribbon, hnotices⟩ := joinRibbons_parts (normalLength d b) (pendingSet d b) (nodup_pendingSet d b)
    (d.setTape ⟨d.tape.entries ++ [⟨d.tape.nextId, b, normalLength d b, pendingSet d b⟩], d.tape.nextId + 1⟩)
  exact ⟨tape_appendEntry b d, hribbon, hnotices, appendEntry_changes b d⟩

theorem offer_of_unwanted (h : pendingSet d b = []) : offer b d = (d, .notWanted) := if_pos h

theorem offer_of_room (h : pendingSet d b ≠ []) (hroom : d.tape.entries.length ≤ 510) :
    offer b d = (appendEntry b d, .appended) := (if_neg h).trans (if_pos hroom)

theorem offer_of_gap (h : pendingSet d b ≠ []) (hfull : ¬ d.tape.entries.length ≤ 510)
    (hgap : tailIsGap d.tape.entries = true) : offer b d =
      ((d.setTape { d.tape with entries := countGap d.tape.entries }).raise .tape, .gapped) :=
  ((if_neg h).trans (if_neg hfull)).trans (if_pos hgap)

theorem offer_of_last (h : pendingSet d b ≠ []) (hlast : d.tape.entries.length = 511)
    (hgap : tailIsGap d.tape.entries = false) : offer b d = ((appendEntry (.gap 1) d).raise .tape, .gapped) := by
  have hcapacity : Config.tapeCapacity = 512 := rfl
  unfold offer
  rw [if_neg h, if_neg (by rw [hcapacity]; omega), if_neg (by simp [hgap]), if_pos (by rw [hcapacity]; omega)]

theorem countGap_append {l : List Entry} {x : Entry} {n : Nat} (h : x.body = .gap n) :
    countGap (l ++ [x]) = l ++ [{ x with body := .gap (min (n + 1) 65535) }] := by
  unfold countGap
  rw [List.getLast?_concat]
  dsimp only
  rw [h]
  dsimp only
  rw [List.dropLast_concat]
  rfl

/-! ## The normal length (R51) -/

/-- The lengths of the NORMAL texts with the separator. -/
theorem normalLength_eq (d : Device) (b : EntryBody) : normalLength d b =
    match b with
    | .print i p shares => (d.slot i).symbol.length + 1 +
        (if 2 ≤ lots shares then (digits (lots shares)).length + 1 else 0) + (fractionText p (d.slot i).e).length + 3
    | .corr i p => (d.slot i).symbol.length + 6 + (fractionText p (d.slot i).e).length + 3
    | .state i _ => (d.slot i).symbol.length + 5 + 3
    | .bulletin _ text => text.length + 3
    | .gap _ => 11 := by
  have hthree : Config.separatorLength = 3 := rfl
  have hcorr : (txt ['C', 'O', 'R', 'R']).length = 4 := rfl
  have hopen : (txt ['O', 'P', 'E', 'N']).length = 4 := rfl
  have hhalt : (txt ['H', 'A', 'L', 'T']).length = 4 := rfl
  unfold normalLength
  rw [hthree]
  cases b with
  | print i p shares =>
    simp only [composeEntry, ribbonPrice, List.length_append, List.length_cons]
    split <;> simp <;> omega
  | corr i p =>
    simp only [composeEntry, ribbonPrice, List.length_append, List.length_cons, hcorr]
    omega
  | state i w => cases w <;> simp only [composeEntry, List.length_append, List.length_cons, hopen, hhalt]
  | bulletin mask text => rfl
  | gap n => rfl

/-- Settles O25: the three ways of an offer, and in each the ribbons of the new entry's set. -/
theorem offerPlacesTheEntry : Obligations.OfferPlacesTheEntry := by
  intro d b hb grouped wants symbol price normal set running old d' told changed
  have hset : pendingSet d b = set := by
    unfold pendingSet
    refine List.filter_congr fun r _ => ?_
    cases b <;> rfl
  have hrunning : pendingSet d (.gap 1) = running := by
    unfold pendingSet
    refine List.filter_congr fun r _ => ?_
    exact Bool.and_true _
  have hnormal : normalLength d b = normal := by
    rw [normalLength_eq]
    cases b <;> rfl
  have hgap : normalLength d (.gap 1) = 11 := rfl
  refine ⟨fun hnone => offer_of_unwanted (hset.trans hnone), fun hsome hroom => ?_, fun hsome hlast htail => ?_,
    fun init x n hsome hfull hold hx => ?_⟩
  · obtain ⟨htape, hribbon, hnotices, hchanges⟩ := appendEntry_parts b d
    have hoffer := offer_of_room (hset ▸ hsome) hroom
    have hd' : d' = appendEntry b d := congrArg Prod.fst hoffer
    rw [hset, hnormal] at htape hribbon hnotices
    rw [hoffer, hd']
    exact ⟨rfl, htape, hribbon, hnotices, hchanges⟩
  · obtain ⟨htape, hribbon, hnotices, hchanges⟩ := appendEntry_parts (.gap 1) d
    have hoffer := offer_of_last (hset ▸ hsome) hlast htail
    have hd' : d' = (appendEntry (.gap 1) d).raise .tape := congrArg Prod.fst hoffer
    have hraise := raise_changes (appendEntry (.gap 1) d) .tape
    rw [hrunning, hgap] at htape hribbon hnotices
    rw [hoffer, hd']
    refine ⟨rfl, (hraise .tape (by simp)).trans htape, fun q => (hraise.ribbon_eq (by simp) q).trans (hribbon q), fun n => ?_,
      hchanges.trans (hraise.mono (by simp))⟩
    rw [mem_raise, hnotices, or_comm, or_assoc]
    rfl
  · have hgap' : tailIsGap d.tape.entries = true := by
      rw [show d.tape.entries = init ++ [x] from hold, tailIsGap_append, hx]
      rfl
    have hoffer := offer_of_gap (hset ▸ hsome) (Nat.not_le.2 hfull) hgap'
    have hd' : d' = (d.setTape { d.tape with entries := countGap d.tape.entries }).raise .tape := congrArg Prod.fst hoffer
    have hraise := raise_changes (d.setTape { d.tape with entries := countGap d.tape.entries }) .tape
    rw [hoffer, hd']
    refine ⟨rfl, (hraise .tape (by simp)).trans ?_, fun m => ?_,
      (setTape_changes d _).andThen hraise (by simp) (by simp)⟩
    · rw [show d.tape.entries = init ++ [x] from hold, countGap_append hx]
      rfl
    · rw [mem_raise, or_comm]
      rfl

/-! ## Departures (R20, R57, R80) -/

/-- Whether the departure of the entries in `gone` releases slot i. -/
def releasedBy (gone : List Entry) (d : Device) (i : Slot) : Bool :=
  (d.slot i).state == .delisting && gone.any (fun x => x.body.slot? == some i) && !tapeNames d i

/-- The two things a release changes: the slots' records and the last-shown slots that name them. -/
structure Released (p : Slot → Bool) (d e : Device) : Prop where
  slot : ∀ i, e.slot i = if p i then Record.free else d.slot i
  ribbon : ∀ q, e.ribbon q =
    { d.ribbon q with lastShown := if (d.ribbon q).lastShown.any p then none else (d.ribbon q).lastShown }
  parts : ChangesOnly [.slots, .ribbons] d e

theorem Released.of_none {p : Slot → Bool} (h : ∀ i, p i = false) : Released p d d where
  slot i := by simp [h]
  ribbon q := by
    have hany : (d.ribbon q).lastShown.any p = false := by cases (d.ribbon q).lastShown <;> simp [h]
    rw [hany]
    rfl
  parts := .refl _ d

theorem Released.trans {p q : Slot → Bool} {a b c : Device} (h : Released p a b) (k : Released q b c) :
    Released (fun i => p i || q i) a c where
  slot i := by
    rw [k.slot, h.slot]
    cases p i <;> cases q i <;> rfl
  ribbon r := by
    rw [k.ribbon, h.ribbon]
    dsimp only
    cases hs : (a.ribbon r).lastShown with
    | none => simp
    | some i => cases hp : p i <;> cases hq : q i <;> simp [hp, hq]
  parts := h.parts.trans k.parts

theorem Released.congr {p q : Slot → Bool} (h : Released p d e) (hpq : ∀ i, p i = q i) : Released q d e := by
  rw [show q = p from funext fun i => (hpq i).symm]
  exact h

theorem freeSlot_released (i : Slot) (d : Device) : Released (fun j => j == i) d (freeSlot i d) where
  slot j := by
    rw [slot_freeSlot]
    exact if_congr beq_iff_eq.symm rfl rfl
  ribbon q := by
    have hany : (d.ribbon q).lastShown.any (fun j => j == i) = true ↔ (d.ribbon q).lastShown = some i := by
      cases (d.ribbon q).lastShown <;> simp
    rw [ribbon_freeSlot]
    simp only [hany]
  parts := freeSlot_changes i d

theorem releaseEntry_released (x : Entry) (d : Device) : Released (releasedBy [x] d) d (releaseEntry x d) := by
  unfold releaseEntry
  split
  · next i hx =>
    unfold releaseCheck
    split
    · next h =>
      refine (freeSlot_released i d).congr fun j => ?_
      by_cases hj : j = i
      · subst hj
        simp [releasedBy, h.1, h.2, hx]
      · have hne : (j == i) = false := beq_eq_false_iff_ne.2 hj
        have hne' : (i == j) = false := beq_eq_false_iff_ne.2 (Ne.symm hj)
        simp [releasedBy, hx, hne, hne']
    · next h =>
      refine .of_none fun j => ?_
      by_cases hj : j = i
      · subst hj
        by_cases hs : (d.slot j).state = .delisting
        · have hnamed : tapeNames d j = true := by
            rw [← Bool.not_eq_false]
            exact fun hn => h ⟨hs, hn⟩
          simp [releasedBy, hnamed]
        · simp [releasedBy, hs]
      · simp [releasedBy, hx, Ne.symm hj]
  · next hx => exact .of_none fun j => by simp [releasedBy, hx]

theorem releaseEntries_released (l : List Entry) (d : Device) : Released (releasedBy l d) d (forEach l releaseEntry d) := by
  induction l generalizing d with
  | nil => exact .of_none fun i => by simp [releasedBy]
  | cons x l ih =>
    have hfirst := releaseEntry_released x d
    rw [forEach_cons]
    refine (hfirst.trans (ih _)).congr fun i => ?_
    have htape : tapeNames (releaseEntry x d) i = tapeNames d i := by
      unfold tapeNames
      rw [show _ = _ from hfirst.parts .tape (by simp)]
    have hslot := hfirst.slot i
    by_cases hp : releasedBy [x] d i = true
    · have hparts := hp
      unfold releasedBy at hparts
      simp only [Bool.and_eq_true, List.any_cons, List.any_nil, Bool.or_false] at hparts
      obtain ⟨⟨hs, hx⟩, hn⟩ := hparts
      rw [hp, Bool.true_or]
      unfold releasedBy
      rw [hs, hn, List.any_cons, hx]
      rfl
    · rw [if_neg hp] at hslot
      unfold releasedBy at hp ⊢
      rw [hslot, htape]
      simp only [List.any_cons, List.any_nil, Bool.or_false] at hp ⊢
      cases hs : (d.slot i).state == SlotState.delisting <;> cases hx : x.body.slot? == some i <;>
        cases hn : tapeNames d i <;> simp_all

theorem any_partition (l : List Entry) (p : Entry → Bool) : l.any p =
    ((l.filter (fun x => x.pending.isEmpty)).any p || (l.filter (fun x => !x.pending.isEmpty)).any p) := by
  induction l with
  | nil => rfl
  | cons x l ih =>
    cases hx : x.pending.isEmpty <;> simp [hx, ih, Bool.or_assoc, Bool.or_left_comm]

/-- The entries that a sweep keeps. -/
def keptEntries (d : Device) : List Entry := d.tape.entries.filter (fun x => !x.pending.isEmpty)

/-- What a sweep leaves: the tape, the released slots, and the notice of a last GAP (R55, R57). -/
structure Swept (d e : Device) : Prop where
  tape : e.tape = { d.tape with entries := keptEntries d }
  slot : ∀ i, e.slot i = if releasedSlot d (keptEntries d) i then Record.free else d.slot i
  ribbon : ∀ q, e.ribbon q = { d.ribbon q with lastShown := shownAfter d (keptEntries d) (d.ribbon q).lastShown }
  notices : ∀ n, n ∈ e.notices ↔ n ∈ d.notices ∨ (n = .tape ∧
    d.tape.entries.any (fun y => y.body.isGap) = true ∧ (keptEntries d).any (fun y => y.body.isGap) = false)
  parts : ChangesOnly [.tape, .slots, .ribbons, .notices] d e

theorem sweepTape_swept (d : Device) : Swept d (sweepTape d) := by
  have hreleased := releaseEntries_released (d.tape.entries.filter (fun x => x.pending.isEmpty))
    (d.setTape { d.tape with entries := keptEntries d })
  have hset (i : Slot) : releasedBy (d.tape.entries.filter (fun x => x.pending.isEmpty))
      (d.setTape { d.tape with entries := keptEntries d }) i = releasedSlot d (keptEntries d) i := by
    show ((d.slot i).state == .delisting && _ && !(keptEntries d).any _) =
      ((d.slot i).state == .delisting && d.tape.entries.any _ && !(keptEntries d).any _)
    rw [any_partition d.tape.entries]
    show _ = ((d.slot i).state == .delisting && (_ || (keptEntries d).any _) && !(keptEntries d).any _)
    cases (d.slot i).state == SlotState.delisting <;>
      cases (keptEntries d).any (fun x => x.body.slot? == some i) <;> simp
  have hkept := hreleased.congr hset
  have hgap : ((d.tape.entries.filter (fun x => x.pending.isEmpty)).any (fun x => x.body.isGap) &&
      !(keptEntries d).any (fun x => x.body.isGap)) = true ↔ d.tape.entries.any (fun y => y.body.isGap) = true ∧
        (keptEntries d).any (fun y => y.body.isGap) = false := by
    rw [any_partition d.tape.entries]
    show _ ↔ (_ || (keptEntries d).any _) = true ∧ _
    cases (keptEntries d).any (fun x => x.body.isGap) <;> simp
  have hsweep : sweepTape d = if (d.tape.entries.filter (fun x => x.pending.isEmpty)).any (fun x => x.body.isGap) &&
      !(keptEntries d).any (fun x => x.body.isGap) then
      (forEach (d.tape.entries.filter (fun x => x.pending.isEmpty)) releaseEntry
        (d.setTape { d.tape with entries := keptEntries d })).raise .tape
    else forEach (d.tape.entries.filter (fun x => x.pending.isEmpty)) releaseEntry
      (d.setTape { d.tape with entries := keptEntries d }) := rfl
  have htape := tape_sweepTape d
  have hchanges := sweepTape_changes d
  rw [hsweep] at htape hchanges ⊢
  generalize forEach (d.tape.entries.filter (fun x => x.pending.isEmpty)) releaseEntry
      (d.setTape { d.tape with entries := keptEntries d }) = a at hkept htape hchanges ⊢
  have hnotices : a.notices = d.notices := hkept.parts .notices (by simp)
  split
  · next h =>
    have hraise := raise_changes a .tape
    refine ⟨by rw [if_pos h] at htape; exact htape, fun i => (hraise.slot_eq (by simp) i).trans (hkept.slot i),
      fun q => (hraise.ribbon_eq (by simp) q).trans (hkept.ribbon q), fun n => ?_, by rw [if_pos h] at hchanges; exact hchanges⟩
    rw [mem_raise, hnotices]
    exact ⟨fun hn => hn.elim (fun e => .inr ⟨e, hgap.1 h⟩) .inl, fun hn => hn.elim .inr (fun e => .inl e.1)⟩
  · next h =>
    refine ⟨by rw [if_neg h] at htape; exact htape, hkept.slot, hkept.ribbon, fun n => ?_,
      by rw [if_neg h] at hchanges; exact hchanges⟩
    rw [hnotices]
    exact ⟨.inl, fun hn => hn.elim id (fun e => absurd (hgap.2 e.2) h)⟩

theorem releasedSlot_keptEntries (d : Device) (i : Slot) : releasedSlot d (keptEntries d) i = true ↔
    (d.slot i).state = .delisting ∧
      (d.tape.entries.filter (fun x => x.pending.isEmpty)).any (fun x => x.body.slot? == some i) = true ∧
      (keptEntries d).any (fun x => x.body.slot? == some i) = false := by
  unfold releasedSlot
  dsimp only
  rw [any_partition d.tape.entries]
  show ((d.slot i).state == .delisting && (_ || (keptEntries d).any _) && !(keptEntries d).any _) = true ↔ _
  cases (keptEntries d).any (fun x => x.body.slot? == some i) <;> simp

/-- Settles O27: a slot is released once, by the first departed entry that named it. -/
theorem departedEntriesReleaseTheirSlots : Obligations.DepartedEntriesReleaseTheirSlots := by
  intro d gone kept d' released
  obtain ⟨htape, hslot, hribbon, hnotices, hchanges⟩ := sweepTape_swept d
  have hreleased (i : Slot) : releasedSlot d (keptEntries d) i = true ↔ released i := releasedSlot_keptEntries d i
  have hgap (n : Notice) : (n = .tape ∧ d.tape.entries.any (fun y => y.body.isGap) = true ∧
      (keptEntries d).any (fun y => y.body.isGap) = false) ↔
      (n = .tape ∧ gone.any (fun x => x.body.isGap) = true ∧ kept.any (fun x => x.body.isGap) = false) := by
    rw [any_partition d.tape.entries]
    show (_ ∧ (gone.any _ || kept.any _) = true ∧ kept.any _ = false) ↔ _
    cases kept.any (fun x => x.body.isGap) <;> simp
  refine ⟨htape, fun i => ⟨fun h => ?_, fun h => ?_⟩, fun r i hr => ⟨fun h => ?_, fun h => ?_⟩, fun r hr => ?_, fun n => ?_,
    hchanges⟩
  · exact (hslot i).trans (if_pos ((hreleased i).2 h))
  · exact (hslot i).trans (if_neg (mt (hreleased i).1 h))
  · refine (hribbon r).trans ?_
    rw [hr]
    simp [shownAfter, (hreleased i).2 h]
  · have hnot := Bool.eq_false_iff.2 (mt (hreleased i).1 h)
    have hshown : shownAfter d (keptEntries d) (some i) = some i := if_neg (by simp [hnot])
    rw [hribbon, hr, hshown, ← hr]
  · have hshown : shownAfter d (keptEntries d) none = none := rfl
    rw [hribbon, hr, hshown, ← hr]
  · exact (hnotices n).trans (or_congr_right (hgap n))

end Sys2Proof.Machine
end


section
/-! PROOFS. Ribbons that leave pending sets: the sweep behind a stop and behind a finished entry, and RIBBON-STOP (O30). -/

namespace Sys2Proof.Machine

variable {d e : Device} {s : State} {r : RibbonNo} {body : List Byte}

/-! ## Reports of a ribbon (R82, R176) -/

/-- A device whose reports go as those of `d`, with the notices of `raised` pending besides. -/
structure ReportsAs (raised : List Notice) (d e : Device) : Prop where
  settle : e.channel.settle = d.channel.settle
  notices : ∀ n, n ∈ e.notices ↔ n ∈ d.notices ∨ n ∈ raised

theorem ReportsAs.refl (d : Device) : ReportsAs [] d d := ⟨rfl, fun n => by simp⟩

theorem ReportsAs.settleReport {raised : List Notice} (h : ReportsAs raised d e) (f : Settle → Settle) :
    ReportsAs raised (d.settleReport f) (e.settleReport f) := by
  refine ⟨by rw [settle_settleReport, settle_settleReport, h.settle], fun n => ?_⟩
  rw [mem_settleReport, mem_settleReport, h.settle, h.notices, or_right_comm]

theorem ReportsAs.reportReached {raised : List Notice} (h : ReportsAs raised d e) (r : RibbonNo) (id : Nat) :
    ReportsAs raised (d.reportReached r id) (e.reportReached r id) := by
  unfold Device.reportReached
  rw [h.settle]
  split
  · exact h.settleReport _
  · exact h

theorem ReportsAs.reportStopped {raised : List Notice} (h : ReportsAs raised d e) (r : RibbonNo) :
    ReportsAs raised (d.reportStopped r) (e.reportStopped r) := by
  unfold Device.reportStopped
  rw [h.settle]
  split
  · exact h.settleReport _
  · exact h

/-! ## Entries that leave (R20, R56, R57) -/

/-- What the departures of `kept` need of the tape: its entries with other pending sets, those with none taken out. -/
def leftEntries (f : Entry → Entry) (d : Device) : List Entry :=
  (d.tape.entries.map f).filter (fun y => !y.pending.isEmpty)

/-- A change of pending sets alone. -/
def PendingOnly (f : Entry → Entry) : Prop := ∀ x, (f x).body = x.body ∧ (f x).id = x.id

theorem any_map_body {f : Entry → Entry} (hf : PendingOnly f) (l : List Entry) (p : EntryBody → Bool) :
    (l.map f).any (fun y => p y.body) = l.any (fun y => p y.body) := by
  rw [List.any_map]
  congr 1
  funext x
  simp only [Function.comp_apply, (hf x).1]

theorem any_leftEntries {f : Entry → Entry} (hf : PendingOnly f) {p : EntryBody → Bool}
    (h : (leftEntries f d).any (fun y => p y.body) = true) : d.tape.entries.any (fun y => p y.body) = true := by
  rw [← any_map_body hf]
  obtain ⟨x, hx, hp⟩ := List.any_eq_true.1 h
  exact List.any_eq_true.2 ⟨x, List.mem_of_mem_filter hx, hp⟩

/-- The sweep behind a change of pending sets, seen from the device before: `base` has ribbon r and the reports ahead of it. -/
theorem entriesLeave_sweep {base told : Device} {raised : List Notice} {f : Entry → Entry} (hf : PendingOnly f)
    (hslot : ∀ i, base.slot i = d.slot i) (hribbon : ∀ q, q ≠ r → base.ribbon q = d.ribbon q) (htape : base.tape = d.tape)
    (hreports : ReportsAs raised told base) :
    let e := sweepTape (base.setTape { base.tape with entries := base.tape.entries.map f })
    EntriesLeave d e told r (leftEntries f d) raised ∧
    e.ribbon r =
      { base.ribbon r with lastShown := shownAfter d (leftEntries f d) (base.ribbon r).lastShown } := by
  intro e
  obtain ⟨hetape, heslot, heribbon, henotices, hechanges⟩ :=
    sweepTape_swept (base.setTape { base.tape with entries := base.tape.entries.map f })
  have hkept : keptEntries (base.setTape { base.tape with entries := base.tape.entries.map f }) = leftEntries f d := by
    show (base.tape.entries.map f).filter _ = _
    rw [htape]
    rfl
  have hreleased (i : Slot) : releasedSlot (base.setTape { base.tape with entries := base.tape.entries.map f })
      (leftEntries f d) i = releasedSlot d (leftEntries f d) i := by
    show ((base.slot i).state == .delisting && (base.tape.entries.map f).any (fun y => y.body.slot? == some i) && _) = _
    rw [hslot, htape, any_map_body hf d.tape.entries (fun b => b.slot? == some i)]
    rfl
  have hshown (l : Option Slot) : shownAfter (base.setTape { base.tape with entries := base.tape.entries.map f })
      (leftEntries f d) l = shownAfter d (leftEntries f d) l := by
    unfold shownAfter
    rw [funext hreleased]
  have hgap : (base.setTape { base.tape with entries := base.tape.entries.map f }).tape.entries.any
      (fun y => y.body.isGap) = d.tape.entries.any (fun y => y.body.isGap) := by
    show (base.tape.entries.map f).any _ = _
    rw [htape, any_map_body hf d.tape.entries EntryBody.isGap]
  rw [hkept] at hetape heslot heribbon henotices
  refine ⟨⟨?_, fun i => ?_, fun q hq => ?_, ?_, fun n => ?_⟩, ?_⟩
  · rw [hetape]
    show { base.tape with entries := leftEntries f d } = _
    rw [htape]
  · rw [heslot, hreleased]
    exact if_congr Iff.rfl rfl (hslot i)
  · rw [heribbon, hshown, Device.ribbon_setTape, hribbon q hq]
  · exact (hechanges .settle (by simp)).trans hreports.settle
  · rw [henotices, hgap]
    show (n ∈ base.notices ∨ _) ↔ _
    rw [hreports.notices, or_assoc]
  · rw [heribbon, hshown]
    rfl

/-- Two departures one after the other, the second behind a stop, are one. -/
theorem EntriesLeave.stop {a b c told : Device} {kept1 kept2 : List Entry} {raised1 raised2 : List Notice}
    (h : EntriesLeave a b told r kept1 raised1) (k : EntriesLeave b c (b.reportStopped r) r kept2 raised2)
    (h1 : ∀ p : EntryBody → Bool, kept1.any (fun y => p y.body) = true → a.tape.entries.any (fun y => p y.body) = true)
    (h2 : ∀ p : EntryBody → Bool, kept2.any (fun y => p y.body) = true → kept1.any (fun y => p y.body) = true) :
    EntriesLeave a c (told.reportStopped r) r kept2 (raised1 ++ raised2) := by
  obtain ⟨htape, hslot, hribbon, hsettle, hnotices⟩ := h
  obtain ⟨ktape, kslot, kribbon, ksettle, knotices⟩ := k
  have hreleased (i : Slot) : releasedSlot a kept2 i = (releasedSlot a kept1 i || releasedSlot b kept2 i) := by
    have ha := h1 (fun e => e.slot? == some i)
    have hb := h2 (fun e => e.slot? == some i)
    have hbody := hslot i
    have hstate : ((b.slot i).state == SlotState.delisting) =
        ((a.slot i).state == SlotState.delisting && !(releasedSlot a kept1 i)) := by
      rw [hbody]
      by_cases hr : releasedSlot a kept1 i = true <;> simp [hr]
    unfold releasedSlot at hstate ⊢
    dsimp only at ha hb hstate ⊢
    rw [hstate, htape]
    dsimp only
    revert ha hb
    generalize ((a.slot i).state == SlotState.delisting) = dropping
    generalize a.tape.entries.any (fun y => y.body.slot? == some i) = named
    generalize kept1.any (fun y => y.body.slot? == some i) = named1
    generalize kept2.any (fun y => y.body.slot? == some i) = named2
    revert dropping named named1 named2
    decide
  have hreports : ReportsAs (raised1 ++ (if a.tape.entries.any (fun y => y.body.isGap) = true ∧
      kept1.any (fun y => y.body.isGap) = false then [.tape] else [])) told b := by
    refine ⟨hsettle, fun n => ?_⟩
    rw [hnotices, List.mem_append]
    refine or_congr_right (or_congr_right ?_)
    split
    · next hg => simp [hg]
    · next hg => simpa using fun _ => hg
  have hstopped := hreports.reportStopped r
  refine ⟨by rw [ktape, htape], fun i => ?_, fun q hq => ?_, ksettle.trans hstopped.settle, fun n => ?_⟩
  · rw [kslot, hslot, hreleased]
    cases releasedSlot a kept1 i <;> cases releasedSlot b kept2 i <;> rfl
  · rw [kribbon q hq, hribbon q hq]
    have hshown (l : Option Slot) : shownAfter b kept2 (shownAfter a kept1 l) = shownAfter a kept2 l := by
      cases l with
      | none => rfl
      | some i =>
        have hi := hreleased i
        cases hp : releasedSlot a kept1 i <;> cases hq : releasedSlot b kept2 i <;>
          simp_all [shownAfter]
    rw [← hshown]
  · have hgap1 := h1 EntryBody.isGap
    have hgap2 := h2 EntryBody.isGap
    rw [knotices, hstopped.notices, htape, List.mem_append, List.mem_append]
    dsimp only
    cases ha : a.tape.entries.any (fun y => y.body.isGap) <;> cases hb : kept1.any (fun y => y.body.isGap) <;>
      cases hc : kept2.any (fun y => y.body.isGap) <;> simp_all [or_assoc, or_comm, or_left_comm]

/-! ## A stop (R65) -/

/-- A ribbon taken out of an entry's pending set. -/
def withoutRibbon (r : RibbonNo) (x : Entry) : Entry := { x with pending := x.pending.filter (· ≠ r) }

theorem withoutRibbon_pendingOnly (r : RibbonNo) : PendingOnly (withoutRibbon r) := fun _ => ⟨rfl, rfl⟩

/-- The device of a stop before the entries leave. -/
def haltedRibbon (r : RibbonNo) (d : Device) : Device :=
  let d1 := d.modRibbon r stoppedRibbon
  if (d.ribbon r).level ≠ .normal then d1.raise (.ribbon r) else d1

theorem haltedRibbon_changes (r : RibbonNo) (d : Device) : ChangesOnly [.ribbons, .notices] d (haltedRibbon r d) := by
  have hhalted := modRibbon_changes d r stoppedRibbon
  exact .ite (hhalted.andThen (raise_changes _ _) (by simp) (by simp)) (hhalted.mono (by simp))

theorem ribbon_haltedRibbon (r q : RibbonNo) (d : Device) :
    (haltedRibbon r d).ribbon q = if q = r then stoppedRibbon (d.ribbon r) else d.ribbon q := by
  unfold haltedRibbon
  dsimp only
  split
  · rw [(raise_changes _ _).ribbon_eq (by simp), ribbon_modRibbon]
  · rw [ribbon_modRibbon]

theorem haltedRibbon_reports (r : RibbonNo) (d : Device) :
    ReportsAs (if (d.ribbon r).level ≠ .normal then [.ribbon r] else []) d (haltedRibbon r d) := by
  refine ⟨haltedRibbon_changes r d .settle (by simp), fun n => ?_⟩
  unfold haltedRibbon
  dsimp only
  split
  · rw [mem_raise, Device.modRibbon_eq, Device.notices_setRibbon]
    simp [or_comm]
  · simp [Device.modRibbon_eq]

/-- What a stop leaves: the ribbon STOPPED with its settings, and the entries it leaves gone. -/
theorem stopRibbon_leaves (r : RibbonNo) (d : Device) :
    EntriesLeave d (stopRibbon r d) (d.reportStopped r) r (leftEntries (withoutRibbon r) d)
      (if (d.ribbon r).level ≠ .normal then [.ribbon r] else []) ∧
    (stopRibbon r d).ribbon r = stoppedRibbon (d.ribbon r) := by
  have hchanges := (haltedRibbon_changes r d).andThen (reportStopped_changes (haltedRibbon r d) r)
    (n := [.ribbons, .notices, .settle]) (by simp) (by simp)
  have hribbon (q : RibbonNo) : ((haltedRibbon r d).reportStopped r).ribbon q =
      if q = r then stoppedRibbon (d.ribbon r) else d.ribbon q := by
    rw [(reportStopped_changes _ _).ribbon_eq (by simp), ribbon_haltedRibbon]
  obtain ⟨hleaves, hsame⟩ := entriesLeave_sweep (d := d) (r := r) (withoutRibbon_pendingOnly r)
    (base := (haltedRibbon r d).reportStopped r) (fun i => hchanges.slot_eq (by simp) i)
    (fun q hq => by rw [hribbon, if_neg hq]) (hchanges .tape (by simp)) ((haltedRibbon_reports r d).reportStopped r)
  refine ⟨hleaves, hsame.trans ?_⟩
  rw [hribbon, if_pos rfl]
  rfl

theorem EntriesLeave.raise {told : Device} {kept : List Entry} {raised : List Notice} (n : Notice)
    (h : EntriesLeave d e told r kept raised) : EntriesLeave d (e.raise n) told r kept (raised ++ [n]) := by
  obtain ⟨htape, hslot, hribbon, hsettle, hnotices⟩ := h
  have hraise := raise_changes e n
  refine ⟨(hraise .tape (by simp)).trans htape, fun i => (hraise.slot_eq (by simp) i).trans (hslot i),
    fun q hq => (hraise.ribbon_eq (by simp) q).trans (hribbon q hq), (hraise .settle (by simp)).trans hsettle, fun m => ?_⟩
  rw [mem_raise, hnotices, List.mem_append, List.mem_singleton]
  simp only [or_assoc, or_comm, or_left_comm]

theorem EntriesLeave.congr_raised {told : Device} {kept : List Entry} {raised raised' : List Notice}
    (h : EntriesLeave d e told r kept raised) (hr : ∀ n, n ∈ raised ↔ n ∈ raised') :
    EntriesLeave d e told r kept raised' := by
  obtain ⟨htape, hslot, hribbon, hsettle, hnotices⟩ := h
  exact ⟨htape, hslot, hribbon, hsettle, fun n => by rw [hnotices, hr]⟩

theorem endDrain_leaves (r : RibbonNo) (d : Device) :
    EntriesLeave d (endDrain r d) (d.reportStopped r) r (leftEntries (withoutRibbon r) d) [.ribbon r] ∧
    (endDrain r d).ribbon r = stoppedRibbon (d.ribbon r) := by
  obtain ⟨hleaves, hribbon⟩ := stopRibbon_leaves r d
  refine ⟨(hleaves.raise (.ribbon r)).congr_raised fun n => ?_,
    ((raise_changes _ _).ribbon_eq (by simp) r).trans hribbon⟩
  split <;> simp

/-! ## RIBBON-STOP (R69, R70) -/

theorem stopImmediate_of_stopped (h : (d.ribbon r).state = .stopped) : stopImmediate r d = (d, refuse .wrongState) := if_pos h

theorem stopImmediate_of_live (h : (d.ribbon r).state ≠ .stopped) : stopImmediate r d =
    (stopRibbon r d, accept (ribbonStateCode .stopped :: wordBytes (departures (leaveEvery r d)))) := if_neg h

theorem stopDrain_of_refusing (h : (d.ribbon r).state = .stopped ∨ (d.ribbon r).state = .draining) :
    stopDrain r d = (d, refuse .wrongState) := by
  unfold stopDrain
  dsimp only
  rcases h with h | h <;> rw [h]

theorem drained_iff (x : Ribbon) : drained x = true ↔ x.backlog = 0 ∧ x.current = none := by
  simp [drained]

theorem stopDrain_of_drained (h : (d.ribbon r).state = .primed ∨
    ((d.ribbon r).state = .running ∧ (d.ribbon r).backlog = 0 ∧ (d.ribbon r).current = none)) :
    stopDrain r d = (endDrain r d, accept (ribbonStateCode .stopped :: wordBytes 0)) := by
  unfold stopDrain
  dsimp only
  rcases h with h | ⟨h, hdrained⟩
  · rw [h]
  · rw [h]
    exact if_pos ((drained_iff _).2 hdrained)

theorem stopDrain_of_busy (h : (d.ribbon r).state = .running)
    (hbusy : (d.ribbon r).backlog ≠ 0 ∨ (d.ribbon r).current ≠ none) : stopDrain r d =
      (d.setRibbon r { d.ribbon r with state := .draining }, accept (ribbonStateCode .draining :: wordBytes 0)) := by
  unfold stopDrain
  dsimp only
  rw [h]
  exact if_neg (fun hd => by
    obtain ⟨h0, hn⟩ := (drained_iff _).1 hd
    exact hbusy.elim (· h0) (· hn))

theorem departures_leaveEvery (r : RibbonNo) (d : Device) : departures (leaveEvery r d) =
    d.tape.entries.length - (leftEntries (withoutRibbon r) d).length := by
  have hsum := List.length_eq_length_filter_add (l := d.tape.entries.map (withoutRibbon r)) (fun x => x.pending.isEmpty)
  rw [List.length_map] at hsum
  show ((d.tape.entries.map (withoutRibbon r)).filter (fun x => x.pending.isEmpty)).length = _
  unfold leftEntries
  omega

/-- A RIBBON-STOP that stops its ribbon. -/
theorem stopByMode_stops {m : StopMode}
    (h : (m = .immediate ∧ (d.ribbon r).state ≠ .stopped) ∨ (m = .drain ∧ ((d.ribbon r).state = .primed ∨
      ((d.ribbon r).state = .running ∧ (d.ribbon r).backlog = 0 ∧ (d.ribbon r).current = none)))) :
    ∃ e, stopByMode (r, m) d = (e, accept (0 :: wordBytes
        (if m = .immediate then d.tape.entries.length - (leftEntries (withoutRibbon r) d).length else 0))) ∧
      EntriesLeave d e (d.reportStopped r) r (leftEntries (withoutRibbon r) d)
        (if m = .drain ∨ (d.ribbon r).level ≠ .normal then [.ribbon r] else []) ∧
      e.ribbon r = stoppedRibbon (d.ribbon r) ∧ ChangesOnly ribbonParts d e := by
  rcases h with ⟨rfl, h⟩ | ⟨rfl, h⟩
  · obtain ⟨hleaves, hribbon⟩ := stopRibbon_leaves r d
    refine ⟨stopRibbon r d, ?_, ?_, hribbon, stopRibbon_changes r d⟩
    · refine (stopImmediate_of_live h).trans ?_
      rw [departures_leaveEvery, if_pos rfl]
      rfl
    · simpa using hleaves
  · obtain ⟨hleaves, hribbon⟩ := endDrain_leaves r d
    refine ⟨endDrain r d, stopDrain_of_drained h, ?_, hribbon, endDrain_changes r d⟩
    simpa using hleaves

theorem exec_ribbonStop {m : StopMode} (hf : readRibbonStop body = .ok (r, m)) :
    exec (if m = .immediate then .ribbonStopImmediate body else .ribbonStopDrain body) s =
      onDevice (request 0x13 body (workRibbonStop body)) s := by
  cases m with
  | immediate => exact exec_of_spelled (c := .ribbonStopImmediate body) rfl (by simp [strays, carriesMode, hf])
  | drain => exact exec_of_spelled (c := .ribbonStopDrain body) rfl (by simp [strays, carriesMode, hf])

/-- The parts a stop reaches, with the reply. -/
theorem stop_ready_changes {kind : Byte} (a : Answer)
    (h : ChangesOnly ribbonParts (beginWork kind body d) e) :
    ChangesOnly [.link, .settle, .notices, .slots, .tape, .ribbons] d (readyReply kind a e) :=
  (ready_changes a h).mono (by simp [ribbonParts])

/-- A request's frame and reply leave the departures of its work as they are. -/
theorem EntriesLeave.ready {kind : Byte} {a : Answer} {kept : List Entry} {raised : List Notice}
    (h : EntriesLeave (beginWork kind body d) e ((beginWork kind body d).reportStopped r) r kept raised) :
    EntriesLeave d (readyReply kind a e) (d.reportStopped r) r kept raised := by
  obtain ⟨htape, hslot, hribbon, hsettle, hnotices⟩ := h
  have hframe : ReportsAs [] d (beginWork kind body d) := ⟨rfl, fun n => by simp [beginWork]⟩
  have hreports := hframe.reportStopped r
  refine ⟨htape, hslot, hribbon, hsettle.trans hreports.settle, fun n => (hnotices n).trans ?_⟩
  rw [hreports.notices]
  simp [beginWork]

/-- Settles O30: a stop is a change of ribbon r alone, then its report, then the sweep of the entries it has left. -/
theorem ribbonStopsOrDrains : Obligations.RibbonStopsOrDrains := by
  intro s body r m htakes hf d x c kept left
  have hexec : exec c s = onDevice (request 0x13 body (workRibbonStop body)) s := exec_ribbonStop hf
  have hkept : leftEntries (withoutRibbon r) d = kept := rfl
  refine ⟨fun hrefused => ?_, fun hm hrun hbusy => ?_, fun hstop => ?_⟩
  · refine hexec.trans (exec_refused (code := .wrongState) htakes hf ?_)
    cases m with
    | immediate => exact stopImmediate_of_stopped (hrefused.resolve_right (by simp))
    | drain => exact stopDrain_of_refusing (hrefused.imp_right And.right)
  · subst hm
    have hwork : stopByMode (r, .drain) (beginWork 0x13 body d) = (_, accept [3, 0, 0]) :=
      stopDrain_of_busy (d := beginWork 0x13 body d) hrun hbusy
    have hreplied := exec_replied htakes hf hwork
    exact hexec.trans hreplied
  · obtain ⟨e, hwork, hleaves, hribbon, hchanges⟩ := stopByMode_stops (d := beginWork 0x13 body d) hstop
    have haccepted := exec_accepted htakes hf hwork
    have hready := stop_ready_changes (accept (0 :: wordBytes left)) hchanges
    exact ⟨_, hexec.trans haccepted, rfl, hribbon, hleaves.ready, link_readyReply _ (hchanges .link (by simp)), hready⟩

end Sys2Proof.Machine
end


section
/-! PROOFS. Pacing and character events of a ribbon, and the end of an entry (O31). -/

namespace Sys2Proof.Machine

variable {d e : Device} {s : State} {r : RibbonNo} {id : Nat} {x : Ribbon}

/-! ## The end of an entry (R76) -/

/-- A device whose ribbon r is ahead of `d`, with the notices of `raised` pending besides. -/
structure RibbonAhead (r : RibbonNo) (raised : List Notice) (d e : Device) : Prop where
  slot : ∀ i, e.slot i = d.slot i
  others : ∀ q, q ≠ r → e.ribbon q = d.ribbon q
  tape : e.tape = d.tape
  reports : ReportsAs raised d e

theorem RibbonAhead.setRibbon (r : RibbonNo) (d : Device) (x : Ribbon) : RibbonAhead r [] d (d.setRibbon r x) :=
  ⟨fun _ => rfl, fun _ hq => Device.ribbon_setRibbon_other _ _ _ _ hq, rfl, rfl, fun n => by simp⟩

/-- A ribbon taken out of the pending set of the entry it finishes. -/
def withoutFinished (r : RibbonNo) (id : Nat) (x : Entry) : Entry := if x.id = id then withoutRibbon r x else x

theorem withoutFinished_pendingOnly (r : RibbonNo) (id : Nat) : PendingOnly (withoutFinished r id) := fun x => by
  unfold withoutFinished
  split <;> exact ⟨rfl, rfl⟩

/-- The ribbon at the end of an entry. -/
def finishedRibbon (x : Ribbon) : Ribbon := { x with current := none, phase := .separator, pos := 0, text := [] }

/-- What the end of an entry leaves before a drain ends. -/
def finishSweep (r : RibbonNo) (id : Nat) (d : Device) : Device :=
  sweepTape (leavePending r id ((d.modRibbon r finishedRibbon).reportReached r id))

theorem finishEntry_eq (r : RibbonNo) (id : Nat) (d : Device) : finishEntry r id d =
    if ((finishSweep r id d).ribbon r).state = .draining ∧ drained ((finishSweep r id d).ribbon r) then
      endDrain r (finishSweep r id d) else finishSweep r id d := rfl

theorem finishSweep_leaves {raised : List Notice} (h : RibbonAhead r raised d e) :
    EntriesLeave d (finishSweep r id e) (d.reportReached r id) r (leftEntries (withoutFinished r id) d) raised ∧
    (finishSweep r id e).ribbon r =
      { finishedRibbon (e.ribbon r) with
        lastShown := shownAfter d (leftEntries (withoutFinished r id) d) (e.ribbon r).lastShown } := by
  obtain ⟨hslot, hothers, htape, hsettle, hnotices⟩ := h
  have hreported := reportReached_changes (e.modRibbon r finishedRibbon) r id
  have hchanges := (modRibbon_changes e r finishedRibbon).andThen hreported (n := [.ribbons, .settle, .notices])
    (by simp) (by simp)
  have hribbon (q : RibbonNo) : ((e.modRibbon r finishedRibbon).reportReached r id).ribbon q =
      if q = r then finishedRibbon (e.ribbon r) else e.ribbon q := by
    rw [hreported.ribbon_eq (by simp), ribbon_modRibbon]
  have hahead : ReportsAs raised d (e.modRibbon r finishedRibbon) := ⟨hsettle, hnotices⟩
  obtain ⟨hleaves, hsame⟩ := entriesLeave_sweep (d := d) (r := r) (withoutFinished_pendingOnly r id)
    (base := (e.modRibbon r finishedRibbon).reportReached r id) (fun i => (hchanges.slot_eq (by simp) i).trans (hslot i))
    (fun q hq => by rw [hribbon, if_neg hq, hothers q hq]) ((hchanges .tape (by simp)).trans htape)
    (hahead.reportReached r id)
  refine ⟨hleaves, hsame.trans ?_⟩
  rw [hribbon, if_pos rfl]
  rfl

/-- The entries a ribbon's stop leaves do not depend on an entry it has finished before. -/
theorem filter_withoutRibbon_finished (l : List Entry) :
    (((l.map (withoutFinished r id)).filter (fun y => !y.pending.isEmpty)).map (withoutRibbon r)).filter
      (fun y => !y.pending.isEmpty) = (l.map (withoutRibbon r)).filter (fun y => !y.pending.isEmpty) := by
  induction l with
  | nil => rfl
  | cons x l ih =>
    have hsame : withoutRibbon r (withoutFinished r id x) = withoutRibbon r x := by
      unfold withoutFinished
      split
      · simp [withoutRibbon]
      · rfl
    by_cases hempty : (withoutFinished r id x).pending = []
    · have hleft : (withoutRibbon r x).pending = [] := by
        rw [← hsame]
        show (withoutFinished r id x).pending.filter _ = _
        rw [hempty]
        rfl
      rw [List.map_cons, List.filter_cons_of_neg (by simp [hempty]), ih, List.map_cons,
        List.filter_cons_of_neg (by simp [hleft])]
    · rw [List.map_cons, List.filter_cons_of_pos (by simp [hempty]), List.map_cons, List.map_cons, hsame]
      simp only [List.filter_cons, ih]

/-- A ribbon that finishes an entry and goes on. -/
theorem finishEntry_goesOn {raised : List Notice} (h : RibbonAhead r raised d e)
    (hstays : ¬((e.ribbon r).state = .draining ∧ (e.ribbon r).backlog = 0)) :
    EntriesLeave d (finishEntry r id e) (d.reportReached r id) r (leftEntries (withoutFinished r id) d) raised ∧
    (finishEntry r id e).ribbon r =
      { finishedRibbon (e.ribbon r) with
        lastShown := shownAfter d (leftEntries (withoutFinished r id) d) (e.ribbon r).lastShown } := by
  obtain ⟨hleaves, hribbon⟩ := finishSweep_leaves (id := id) h
  rw [finishEntry_eq, if_neg]
  · exact ⟨hleaves, hribbon⟩
  · rw [hribbon, drained_iff]
    exact fun ⟨hdraining, hbacklog, _⟩ => hstays ⟨hdraining, hbacklog⟩

/-- A drained ribbon has no backlog to lose when it stops. -/
theorem stoppedRibbon_of_drained (h : x.backlog = 0) : stoppedRibbon x =
    { x with
      state := .stopped, acc := 0, level := .normal, current := none, phase := .idle, text := [], pos := 0,
      markerOwed := false, lastShown := none } := by
  unfold stoppedRibbon
  rw [h]

/-- A ribbon that finishes its last entry and ends its drain. -/
theorem finishEntry_stops {raised : List Notice} (h : RibbonAhead r raised d e)
    (hdraining : (e.ribbon r).state = .draining) (hbacklog : (e.ribbon r).backlog = 0) :
    EntriesLeave d (finishEntry r id e) ((d.reportReached r id).reportStopped r) r (leftEntries (withoutRibbon r) d)
      (raised ++ [.ribbon r]) ∧
    (finishEntry r id e).ribbon r = stoppedRibbon (e.ribbon r) := by
  obtain ⟨hleaves, hribbon⟩ := finishSweep_leaves (id := id) h
  obtain ⟨hstops, hstopped⟩ := endDrain_leaves r (finishSweep r id e)
  have hkept : leftEntries (withoutRibbon r) (finishSweep r id e) = leftEntries (withoutRibbon r) d := by
    obtain ⟨htape, -⟩ := hleaves
    unfold leftEntries
    rw [htape]
    exact filter_withoutRibbon_finished _
  rw [hkept] at hstops
  rw [finishEntry_eq, if_pos]
  · refine ⟨hleaves.stop hstops (fun p => any_leftEntries (withoutFinished_pendingOnly r id)) fun p hp => ?_, ?_⟩
    · rw [← hkept] at hp
      have hbefore := any_leftEntries (withoutRibbon_pendingOnly r) hp
      obtain ⟨htape, -⟩ := hleaves
      rwa [htape] at hbefore
    · rw [hstopped, hribbon]
      rfl
  · rw [hribbon, drained_iff]
    exact ⟨hdraining, hbacklog, rfl⟩

/-! ## Pacing (R71) -/

theorem paces_iff (x : Ribbon) : paces x = true ↔ x.state ≠ .stopped := by
  unfold paces
  cases x.state <;> decide

theorem characterDue_iff (x : Ribbon) : characterDue x = true ↔ x.state ≠ .stopped ∧ 960000 ≤ x.acc + currentRate x := by
  rw [characterDue, Bool.and_eq_true, paces_iff, decide_eq_true_iff]
  exact Iff.rfl

/-- A ribbon at its character event. -/
def chargedRibbon (x : Ribbon) : Ribbon := { x with acc := x.acc + currentRate x - 960000 }

theorem pacing_of_stopped (h : (d.ribbon r).state = .stopped) : pacing r d = d :=
  if_neg (fun hp => (paces_iff _).1 hp h)

theorem pacing_of_early (h : (d.ribbon r).state ≠ .stopped) (hacc : (d.ribbon r).acc + currentRate (d.ribbon r) < 960000) :
    pacing r d = d.setRibbon r { d.ribbon r with acc := (d.ribbon r).acc + currentRate (d.ribbon r) } :=
  (if_pos ((paces_iff _).2 h)).trans (if_neg fun hdue => by
    have hlate := ((characterDue_iff _).1 hdue).2
    omega)

theorem pacing_of_due (h : characterDue (d.ribbon r) = true) :
    pacing r d = characterWork r (d.setRibbon r (chargedRibbon (d.ribbon r))) :=
  (if_pos ((paces_iff _).2 ((characterDue_iff _).1 h).1)).trans (if_pos h)

theorem exec_pacingEvent (r : RibbonNo) (s : State) : exec (.pacingEvent r) s = .next { s with device := pacing r s.device } :=
  rfl

theorem exec_characterEvent (r : RibbonNo) (s : State) : exec (.characterEvent r) s =
    .next { s with device := if characterDue (s.device.ribbon r) then pacing r s.device else s.device } := rfl

theorem exec_characterEvent_of_due (h : characterDue (s.device.ribbon r) = true) :
    exec (.characterEvent r) s =
      .next { s with device := characterWork r (s.device.setRibbon r (chargedRibbon (s.device.ribbon r))) } := by
  rw [exec_characterEvent, if_pos h, pacing_of_due h]

theorem exec_characterEvent_of_not_due (h : ¬characterDue (s.device.ribbon r) = true) :
    exec (.characterEvent r) s = .next s := by
  rw [exec_characterEvent, if_neg h]

/-! ## The work of a character event by the phase (R73) -/

theorem modRibbon_setRibbon (d : Device) (r : RibbonNo) (x : Ribbon) (f : Ribbon → Ribbon) :
    (d.setRibbon r x).modRibbon r f = d.setRibbon r (f x) := by
  rw [Device.modRibbon_eq, Device.ribbon_setRibbon_same, Device.setRibbon_setRibbon]

theorem shift_setRibbon (d : Device) (r : RibbonNo) (x : Ribbon) (c : Byte) :
    shift r c (d.setRibbon r x) = d.setRibbon r { x with onLine := some c } := modRibbon_setRibbon d r x _

theorem some_getD {l : Text} {n : Nat} (h : n < l.length) (c : Byte) : some (l.getD n c) = l[n]? := by
  rw [List.getD_eq_getElem?_getD, List.getElem?_eq_getElem h]
  rfl

theorem characterWork_of_primed (h : x.state = .primed) :
    characterWork r (d.setRibbon r x) = d.setRibbon r { x with onLine := some 0x20 } :=
  (if_pos (by rw [Device.ribbon_setRibbon_same]; exact h)).trans (shift_setRibbon d r x _)

theorem characterWork_of_idle (h : x.state ≠ .primed) (hphase : x.phase = .idle) :
    characterWork r (d.setRibbon r x) = idleCharacter r (d.setRibbon r x) := by
  unfold characterWork
  simp [h, hphase]

theorem characterWork_of_marker (h : x.state ≠ .primed) (hphase : x.phase = .marker) :
    characterWork r (d.setRibbon r x) = markerCharacter r (d.setRibbon r x) := by
  unfold characterWork
  simp [h, hphase]

theorem characterWork_of_text (h : x.state ≠ .primed) (hphase : x.phase = .text) :
    characterWork r (d.setRibbon r x) = textCharacter r (d.setRibbon r x) := by
  unfold characterWork
  simp [h, hphase]

theorem characterWork_of_separator (h : x.state ≠ .primed) (hphase : x.phase = .separator) :
    characterWork r (d.setRibbon r x) = separatorCharacter r (d.setRibbon r x) := by
  unfold characterWork
  simp [h, hphase]

theorem markerCharacter_of_more (h : x.pos < 6) : markerCharacter r (d.setRibbon r x) =
    d.setRibbon r { x with onLine := markerText[x.pos]?, pos := x.pos + 1 } := by
  have hlength : markerText.length = 7 := rfl
  unfold markerCharacter
  dsimp only
  rw [Device.ribbon_setRibbon_same, shift_setRibbon, modRibbon_setRibbon, if_pos (by omega), some_getD (by omega)]

theorem markerCharacter_of_last (h : x.pos = 6) : markerCharacter r (d.setRibbon r x) =
    d.setRibbon r { x with onLine := some 0x20, phase := .text, pos := 0 } := by
  unfold markerCharacter
  dsimp only
  rw [Device.ribbon_setRibbon_same, shift_setRibbon, h, if_neg (by decide), modRibbon_setRibbon]
  rfl

theorem separatorCharacter_of_more (h : x.pos < 2) : separatorCharacter r (d.setRibbon r x) =
    d.setRibbon r { x with onLine := some 0x20, pos := x.pos + 1 } := by
  have hlength : Config.separatorLength = 3 := rfl
  unfold separatorCharacter
  dsimp only
  rw [Device.ribbon_setRibbon_same, shift_setRibbon, modRibbon_setRibbon, if_pos (by omega)]
  rfl

theorem separatorCharacter_of_last (h : x.pos = 2) : separatorCharacter r (d.setRibbon r x) =
    d.setRibbon r { x with onLine := some 0x20, phase := .idle, pos := 0 } := by
  unfold separatorCharacter
  dsimp only
  rw [Device.ribbon_setRibbon_same, shift_setRibbon, h, if_neg (by decide), modRibbon_setRibbon]
  rfl

theorem textCharacter_of_more (h : x.pos + 1 < x.text.length) : textCharacter r (d.setRibbon r x) =
    d.setRibbon r { x with onLine := x.text[x.pos]?, pos := x.pos + 1 } := by
  unfold textCharacter
  dsimp only
  rw [Device.ribbon_setRibbon_same, shift_setRibbon, if_pos h, modRibbon_setRibbon, some_getD (by omega)]

theorem textCharacter_of_last (h : x.pos + 1 = x.text.length) (hcurrent : x.current = some id) :
    textCharacter r (d.setRibbon r x) = finishEntry r id (d.setRibbon r { x with onLine := x.text[x.pos]? }) := by
  unfold textCharacter
  dsimp only
  rw [Device.ribbon_setRibbon_same, shift_setRibbon, if_neg (by omega), hcurrent, some_getD (by omega)]

theorem nextEntry_eq_none (h : ∀ y ∈ d.tape.entries, r ∈ y.pending → (d.ribbon r).current = some y.id) :
    nextEntry d r = none := by
  refine List.find?_eq_none.2 fun y hy => ?_
  simpa using h y hy

theorem idleCharacter_of_none (h : nextEntry d r = none) : idleCharacter r d = shift r blank d := by
  unfold idleCharacter
  rw [h]

/-- Settles O31: a character event is a change of ribbon r alone, but at the end of an entry, whose sweep is stated once for
every way to it. -/
theorem characterEventActsByPhase : Obligations.CharacterEventActsByPhase := by
  intro s r d x0 rate x after
  have hdue (hs : x0.state ≠ .stopped) (hacc : 960000 ≤ x0.acc + rate) : characterDue x0 = true :=
    (characterDue_iff x0).2 ⟨hs, hacc⟩
  have hevent (hs : x0.state ≠ .stopped) (hacc : 960000 ≤ x0.acc + rate) :
      exec (.characterEvent r) s = .next { s with device := characterWork r (d.setRibbon r x) } :=
    exec_characterEvent_of_due (hdue hs hacc)
  have hafter (hs : x0.state ≠ .stopped) (hacc : 960000 ≤ x0.acc + rate) {y : Ribbon}
      (hwork : characterWork r (d.setRibbon r x) = d.setRibbon r y) : exec (.characterEvent r) s = after y := by
    rw [hevent hs hacc, hwork]
  have hfinishes (id : Nat) (hs : x0.state ≠ .stopped) (hacc : 960000 ≤ x0.acc + rate) (hp : x0.state ≠ .primed)
      (hphase : x0.phase = .text) (hlast : x0.pos + 1 = x0.text.length) (hcurrent : x0.current = some id) :
      exec (.characterEvent r) s = .next
        { s with device := finishEntry r id (d.setRibbon r { x with onLine := x0.text[x0.pos]? }) } := by
    rw [hevent hs hacc, characterWork_of_text (x := x) hp hphase, textCharacter_of_last (x := x) hlast hcurrent]
  have hparts (id : Nat) (y : Ribbon) : ChangesOnly [.settle, .notices, .slots, .tape, .ribbons] d
      (finishEntry r id (d.setRibbon r y)) :=
    (setRibbon_changes d r y).andThen (finishEntry_changes r id _) (by simp) (by simp)
  refine ⟨fun hs => ⟨?_, ?_⟩, fun hs hacc => ⟨?_, ?_⟩, fun hs hacc => ?_, fun hs hacc => ⟨fun hp => ?_, fun hp hphase hnone => ?_,
    fun hp hphase hpos => ?_, fun hp hphase hpos => ?_, fun hp hphase hpos => ?_, fun hp hphase hpos => ?_,
    fun hp hphase hpos => ?_, fun id hgoes hphase hlast hcurrent => ?_, fun id hdraining hbacklog hphase hlast hcurrent => ?_⟩⟩
  · rw [exec_pacingEvent, pacing_of_stopped hs]
  · exact exec_characterEvent_of_not_due fun h => ((characterDue_iff x0).1 h).1 hs
  · rw [exec_pacingEvent, pacing_of_early hs hacc]
    rfl
  · exact exec_characterEvent_of_not_due fun h => absurd ((characterDue_iff x0).1 h).2 (Nat.not_le.2 hacc)
  · rw [exec_pacingEvent, exec_characterEvent, if_pos (hdue hs hacc)]
  · exact hafter hs hacc (characterWork_of_primed (x := x) hp)
  · have hnext : nextEntry (d.setRibbon r x) r = none :=
      nextEntry_eq_none (by rw [Device.ribbon_setRibbon_same]; exact hnone)
    refine hafter hs hacc ?_
    rw [characterWork_of_idle (x := x) hp hphase, idleCharacter_of_none hnext, shift_setRibbon]
    rfl
  · exact hafter hs hacc ((characterWork_of_marker (x := x) hp hphase).trans (markerCharacter_of_more (x := x) hpos))
  · exact hafter hs hacc ((characterWork_of_marker (x := x) hp hphase).trans (markerCharacter_of_last (x := x) hpos))
  · exact hafter hs hacc ((characterWork_of_text (x := x) hp hphase).trans (textCharacter_of_more (x := x) hpos))
  · exact hafter hs hacc ((characterWork_of_separator (x := x) hp hphase).trans (separatorCharacter_of_more (x := x) hpos))
  · exact hafter hs hacc ((characterWork_of_separator (x := x) hp hphase).trans (separatorCharacter_of_last (x := x) hpos))
  · have hp : x0.state ≠ .primed := by rcases hgoes with h | ⟨h, -⟩ <;> simp [h]
    have hstays : ¬(x0.state = .draining ∧ x0.backlog = 0) := by rcases hgoes with h | ⟨-, h⟩ <;> simp [h]
    obtain ⟨hleaves, hribbon⟩ := finishEntry_goesOn (id := id)
      (RibbonAhead.setRibbon r d { x with onLine := x0.text[x0.pos]? }) (by rw [Device.ribbon_setRibbon_same]; exact hstays)
    rw [Device.ribbon_setRibbon_same] at hribbon
    exact ⟨_, hfinishes id hs hacc hp hphase hlast hcurrent, rfl, hribbon, hleaves, hparts id _⟩
  · have hp : x0.state ≠ .primed := by simp [hdraining]
    obtain ⟨hleaves, hribbon⟩ := finishEntry_stops (id := id)
      (RibbonAhead.setRibbon r d { x with onLine := x0.text[x0.pos]? }) (by rw [Device.ribbon_setRibbon_same]; exact hdraining)
      (by rw [Device.ribbon_setRibbon_same]; exact hbacklog)
    rw [Device.ribbon_setRibbon_same] at hribbon
    exact ⟨_, hfinishes id hs hacc hp hphase hlast hcurrent, rfl, hribbon.trans (stoppedRibbon_of_drained hbacklog), hleaves,
      hparts id _⟩

end Sys2Proof.Machine
end


section
/-! PROOFS. The beginning of an entry on a ribbon and the text it composes (O32). -/

namespace Sys2Proof.Machine

variable {d e : Device} {s : State} {r : RibbonNo} {x : Ribbon} {y : Entry}

/-! ## The text of an entry (R78) -/

/-- DIGITS cuts a run of digits to its last: a text that begins with no digit is its own cut. -/
theorem cutWhole_eq (t : Text) : cutWhole t =
    let whole := t.takeWhile isDigit
    let rest := t.drop whole.length
    if rest = [] ∨ rest.head? = some 0x20 then whole.drop (whole.length - 1) ++ rest else t := by
  have hrest : t.drop (t.takeWhile isDigit).length = t.dropWhile isDigit := by
    have hboth := List.takeWhile_append_dropWhile (p := isDigit) (l := t)
    calc t.drop (t.takeWhile isDigit).length
        = (t.takeWhile isDigit ++ t.dropWhile isDigit).drop (t.takeWhile isDigit).length := by rw [hboth]
      _ = t.dropWhile isDigit := List.drop_left
  unfold cutWhole
  dsimp only
  rw [hrest]
  by_cases hrun : t.takeWhile isDigit = []
  · have hwhole : t.dropWhile isDigit = t := by
      have hboth := List.takeWhile_append_dropWhile (p := isDigit) (l := t)
      rwa [hrun, List.nil_append] at hboth
    rw [if_neg (fun h => h.1 hrun), hrun, hwhole]
    split <;> rfl
  · exact if_congr ⟨And.right, And.intro hrun⟩ rfl rfl

theorem composeEntry_congr (h : ∀ i, e.slot i = d.slot i) (level : Level) (shown : Option Slot) (b : EntryBody) :
    composeEntry e level shown b = composeEntry d level shown b := by
  unfold composeEntry
  simp only [h]

theorem evaluatedLevel_congr {x z : Ribbon} (hbacklog : x.backlog = z.backlog) (hlevel : x.level = z.level)
    (hrate : x.normalRate = z.normalRate) : evaluatedLevel x = evaluatedLevel z := by
  unfold evaluatedLevel delay
  rw [hbacklog, hlevel, hrate]

/-! ## Beginning an entry (R74) -/

/-- The slot a begun entry leaves as last shown (R80). -/
def shownSlot : EntryBody → Option Slot
  | .print i _ _ => some i
  | .corr i _ => some i
  | _ => none

/-- The entry taken out of the backlog and its delay evaluated. -/
def takenRibbon (y : Entry) (x : Ribbon) : Ribbon :=
  evaluatedRibbon { x with current := some y.id, backlog := x.backlog - y.normalLength }

/-- Whether the late marker comes before the entry (R77). -/
def owesMarker (x : Ribbon) : Bool := x.markerOwed && x.level != .normal

/-- The ribbon with the entry's text composed. -/
def composedRibbon (d : Device) (y : Entry) (x : Ribbon) : Ribbon :=
  { x with
    markerOwed := false, text := composeEntry d x.level (if owesMarker x then none else x.lastShown) y.body, pos := 0,
    lastShown := shownSlot y.body, phase := if owesMarker x then .marker else .text }

/-- The device with the entry taken out of the backlog, before its text is composed. -/
def takenEntry (r : RibbonNo) (y : Entry) (x : Ribbon) (d : Device) : Device :=
  evaluateDelay r (d.setRibbon r { x with current := some y.id, backlog := x.backlog - y.normalLength })

theorem beginEntry_eq (r : RibbonNo) (y : Entry) (x : Ribbon) (d : Device) :
    beginEntry r y (d.setRibbon r x) = (takenEntry r y x d).setRibbon r (composedRibbon d y (takenRibbon y x)) := by
  have hribbon : (takenEntry r y x d).ribbon r = takenRibbon y x := by
    unfold takenEntry
    rw [ribbon_evaluateDelay, if_pos rfl, Device.ribbon_setRibbon_same]
    rfl
  have hslot (i : Slot) : (takenEntry r y x d).slot i = d.slot i :=
    (evaluateDelay_changes r _).slot_eq (by simp) i
  have hbegin : beginEntry r y (d.setRibbon r x) =
      (takenEntry r y x d).setRibbon r (composedRibbon (takenEntry r y x d) y ((takenEntry r y x d).ribbon r)) := by
    unfold beginEntry
    rw [modRibbon_setRibbon]
    rfl
  rw [hbegin, hribbon]
  unfold composedRibbon
  rw [composeEntry_congr hslot]

theorem takenEntry_ahead (r : RibbonNo) (y : Entry) (x z : Ribbon) (d : Device) :
    RibbonAhead r (if evaluatedLevel { x with backlog := x.backlog - y.normalLength } ≠ x.level then [.ribbon r] else []) d
      ((takenEntry r y x d).setRibbon r z) := by
  have hset := setRibbon_changes d r { x with current := some y.id, backlog := x.backlog - y.normalLength }
  have hchanges := hset.andThen (evaluateDelay_changes r _) (n := [.ribbons, .notices]) (by simp) (by simp)
  refine ⟨fun i => hchanges.slot_eq (by simp) i, fun q hq => ?_, hchanges .tape (by simp), hchanges .settle (by simp),
    fun n => ?_⟩
  · rw [Device.ribbon_setRibbon_other _ _ _ _ hq]
    unfold takenEntry
    rw [ribbon_evaluateDelay, if_neg hq, Device.ribbon_setRibbon_other _ _ _ _ hq]
  · show n ∈ (takenEntry r y x d).notices ↔ _
    unfold takenEntry
    rw [mem_evaluateDelay, Device.ribbon_setRibbon_same]
    show (n ∈ d.notices ∨ n = .ribbon r ∧ evaluatedLevel { x with backlog := x.backlog - y.normalLength } ≠ x.level) ↔ _
    split
    · next h => simp [h]
    · next h => simp [h]

theorem takenEntry_changes (r : RibbonNo) (y : Entry) (x z : Ribbon) (d : Device) :
    ChangesOnly [.ribbons, .notices] d ((takenEntry r y x d).setRibbon r z) :=
  ((setRibbon_changes d r _).andThen (evaluateDelay_changes r _) (n := [.ribbons, .notices]) (by simp) (by simp)).andThen
    (setRibbon_changes _ r z) (by simp) (by simp)

/-- The entry a ribbon begins next: the oldest that names it and that it has not begun (R58). -/
theorem nextEntry_eq_some {older newer : List Entry} (hentries : d.tape.entries = older ++ y :: newer) (hy : r ∈ y.pending)
    (hcurrent : (d.ribbon r).current ≠ some y.id)
    (holder : ∀ z ∈ older, r ∈ z.pending → (d.ribbon r).current = some z.id) : nextEntry d r = some y := by
  unfold nextEntry
  rw [hentries, List.find?_append, List.find?_eq_none.2 (fun z hz => by simpa using holder z hz),
    List.find?_cons_of_pos (by simp [hy, hcurrent])]
  rfl

theorem idleCharacter_of_some (h : nextEntry d r = some y) : idleCharacter r d =
    if ((beginEntry r y d).ribbon r).phase = .marker then markerCharacter r (beginEntry r y d)
    else textCharacter r (beginEntry r y d) := by
  unfold idleCharacter
  rw [h]

/-- An entry begun behind its marker shifts the marker's first character. -/
theorem idleCharacter_begins_marker (h : nextEntry (d.setRibbon r x) r = some y) (hm : owesMarker (takenRibbon y x) = true) :
    idleCharacter r (d.setRibbon r x) = (takenEntry r y x d).setRibbon r
      { composedRibbon d y (takenRibbon y x) with onLine := some 0x4C, pos := 1 } := by
  have hphase : (composedRibbon d y (takenRibbon y x)).phase = .marker := if_pos hm
  rw [idleCharacter_of_some h, beginEntry_eq, Device.ribbon_setRibbon_same, if_pos hphase,
    markerCharacter_of_more (show 0 < 6 by decide)]
  rfl

theorem idleCharacter_begins_text (h : nextEntry (d.setRibbon r x) r = some y)
    (hm : owesMarker (takenRibbon y x) = false) :
    idleCharacter r (d.setRibbon r x) =
      textCharacter r ((takenEntry r y x d).setRibbon r (composedRibbon d y (takenRibbon y x))) := by
  have hphase : (composedRibbon d y (takenRibbon y x)).phase = .text := if_neg (by simp [hm])
  rw [idleCharacter_of_some h, beginEntry_eq, Device.ribbon_setRibbon_same, if_neg (by simp [hphase])]

/-- The end of an entry, whether or not it ends a drain. -/
theorem finishEntry_ends {raised : List Notice} {id : Nat} {stops : Prop} [Decidable stops] (h : RibbonAhead r raised d e)
    (hx : e.ribbon r = x) (hstops : stops ↔ x.state = .draining ∧ x.backlog = 0) :
    let kept := leftEntries (fun z => if stops ∨ z.id = id then withoutRibbon r z else z) d
    let reached := d.reportReached r id
    EntriesLeave d (finishEntry r id e) (if stops then reached.reportStopped r else reached) r kept
      (raised ++ if stops then [.ribbon r] else []) ∧
    (finishEntry r id e).ribbon r =
      if stops then stoppedRibbon x else { finishedRibbon x with lastShown := shownAfter d kept x.lastShown } := by
  subst hx
  by_cases hs : stops
  · simp only [hs, true_or, if_true]
    exact finishEntry_stops h (hstops.1 hs).1 (hstops.1 hs).2
  · simp only [hs, false_or, if_false, List.append_nil]
    exact finishEntry_goesOn h (fun hd => hs (hstops.2 hd))

/-- Settles O32: the entry is begun on ribbon r alone, and a text of one character ends as every entry does. -/
theorem beginningAnEntryComposesItsText : Obligations.BeginningAnEntryComposesItsText := by
  intro s r y d x0 rate
  generalize ha : x0.acc + rate - 960000 = a
  intro hstate hacc hphase hy hcurrent hentries x level marker shown price named cut text slot
  obtain ⟨older, newer, hentries, holder⟩ := hentries
  have hcharged : chargedRibbon x0 = { x0 with acc := a } := by
    rw [← ha]
    rfl
  generalize hc : ({ x0 with acc := a } : Ribbon) = c at hcharged
  have hstopped : x0.state ≠ .stopped := by rcases hstate with h | h <;> simp [h]
  have hprimed : c.state ≠ .primed := by
    rw [← hc]
    rcases hstate with h | h <;> simp [h]
  have hnext : nextEntry (d.setRibbon r c) r = some y := by
    rw [← hc]
    exact nextEntry_eq_some hentries hy (by rw [Device.ribbon_setRibbon_same]; exact hcurrent)
      (by rw [Device.ribbon_setRibbon_same]; exact holder)
  have hevent : exec (.characterEvent r) s = .next { s with device := idleCharacter r (d.setRibbon r c) } := by
    rw [exec_characterEvent_of_due ((characterDue_iff x0).2 ⟨hstopped, hacc⟩), hcharged,
      characterWork_of_idle hprimed (by rw [← hc]; exact hphase)]
  have htext : composeEntry d level shown y.body = text := by
    simp only [text]
    have hcut (t : Text) : cutWhole t = cut t := by
      have hdigit : isDigit = fun c => decide (0x30 ≤ c.toNat ∧ c.toNat ≤ 0x39) := by
        funext c
        exact (Bool.decide_and _ _).symm
      rw [cutWhole_eq, hdigit]
    clear_value level shown
    generalize y.body = b
    cases b with
    | print i p shares =>
      cases level with
      | normal => simp [composeEntry, named, price, ribbonPrice, lots, blank, ch, byte]
      | abbreviated => rfl
      | digits => exact congrArg _ (hcut _)
    | corr i p => simp [composeEntry, named, price, ribbonPrice, txt, blank, ch, byte]
    | state i word => cases word <;> simp [composeEntry, named, txt, blank, ch, byte]
    | bulletin mask t => rfl
    | gap n => rfl
  have hlevel : evaluatedLevel { c with current := some y.id, backlog := c.backlog - y.normalLength } = level := by
    rw [← hc]
    exact evaluatedLevel_congr rfl rfl rfl
  have htaken : takenRibbon y c =
      { x with
        current := some y.id, level := level,
        markerOwed := x0.markerOwed || (x0.level == .normal && level != .normal) } := by
    unfold takenRibbon evaluatedRibbon
    rw [hlevel, ← hc]
  have hmarker : owesMarker (takenRibbon y c) = marker := by
    rw [htaken]
    rfl
  have hcomposed : composedRibbon d y (takenRibbon y c) =
      { x with
        current := some y.id, level := level, markerOwed := false, lastShown := slot, text := text, pos := 0,
        phase := if marker then .marker else .text } := by
    have hslot : shownSlot y.body = slot := rfl
    rw [← htext, ← hslot]
    unfold composedRibbon
    rw [hmarker, htaken]
  have hraised (z : Ribbon) : RibbonAhead r (if level ≠ x0.level then [.ribbon r] else []) d
      ((takenEntry r y c d).setRibbon r z) := by
    have hahead := takenEntry_ahead r y c z d
    have hsame : evaluatedLevel { c with backlog := c.backlog - y.normalLength } = level := by
      rw [← hc]
    have hheld : c.level = x0.level := by rw [← hc]
    rwa [hsame, hheld] at hahead
  refine ⟨fun hfirst => ?_, fun hm hlength => ?_⟩
  · have hwork : idleCharacter r (d.setRibbon r c) = (takenEntry r y c d).setRibbon r
        { x with
          current := some y.id, level := level, markerOwed := false, lastShown := slot, text := text, pos := 1,
          phase := if marker then .marker else .text, onLine := if marker then some 0x4C else text[0]? } := by
      by_cases hm : marker = true
      · rw [idleCharacter_begins_marker hnext (hmarker.trans hm), hcomposed, hm]
        rfl
      · have hlong : 2 ≤ text.length := hfirst.resolve_left hm
        have hoff : marker = false := Bool.eq_false_iff.2 hm
        rw [idleCharacter_begins_text hnext (hmarker.trans hoff), hcomposed, textCharacter_of_more (show 0 + 1 < text.length by omega), hoff]
        rfl
    rw [hwork] at hevent
    have hahead := hraised { x with
          current := some y.id, level := level, markerOwed := false, lastShown := slot, text := text, pos := 1,
          phase := if marker then .marker else .text, onLine := if marker then some 0x4C else text[0]? }
    refine ⟨_, hevent, rfl, Device.ribbon_setRibbon_same _ _ _, fun n => ?_, hahead.others,
      (takenEntry_changes r y c _ d).mono (by simp)⟩
    refine (hahead.reports.notices n).trans (or_congr_right ?_)
    split
    · next h => simp [h]
    · next h => simp [h]
  · intro stops kept reached
    have hmore : idleCharacter r (d.setRibbon r c) = finishEntry r y.id ((takenEntry r y c d).setRibbon r
        { x with
          current := some y.id, level := level, markerOwed := false, lastShown := slot, text := text, pos := 0,
          phase := .text, onLine := text[0]? }) := by
      rw [idleCharacter_begins_text hnext (hmarker.trans hm), hcomposed,
        textCharacter_of_last (show 0 + 1 = text.length by omega) rfl, hm]
      rfl
    rw [hmore] at hevent
    generalize hz : ({ x with
        current := some y.id, level := level, markerOwed := false, lastShown := slot, text := text, pos := 0,
        phase := .text, onLine := text[0]? } : Ribbon) = z at hevent
    have hstops : stops ↔ z.state = .draining ∧ z.backlog = 0 := by
      rw [← hz]
    have hchanges := (takenEntry_changes r y c z d).andThen (finishEntry_changes r y.id _)
      (n := [.settle, .notices, .slots, .tape, .ribbons]) (by simp) (by simp)
    obtain ⟨hleaves, hribbon⟩ := finishEntry_ends (id := y.id) (hraised z) (Device.ribbon_setRibbon_same _ _ _) hstops
    have hkept : leftEntries (fun z => if stops ∨ z.id = y.id then withoutRibbon r z else z) d = kept := rfl
    rw [hkept] at hleaves hribbon
    generalize finishEntry r y.id _ = t at hevent hchanges hleaves hribbon
    refine ⟨_, hevent, rfl, hribbon.trans ?_, hleaves.congr_raised fun n => ?_, hchanges⟩
    · refine if_ctx_congr Iff.rfl (fun hs => ?_) fun _ => by rw [← hz]; rfl
      rw [← hz]
      exact stoppedRibbon_of_drained hs.2
    · by_cases hs : stops <;> by_cases hl : level = x0.level <;> simp [hs, hl]

end Sys2Proof.Machine
end


section
/-! PROOFS. Ribbons in step: what a pacing event does to a RUNNING ribbon as a function of the ribbon, and O34. -/

namespace Sys2Proof.Machine

variable {d e : Device} {s : State} {r p q : RibbonNo} {x c : Ribbon} {y : Entry} {next : Option Entry} {id : Nat}

/-! ## A pacing event as a function of the ribbon -/

/-- A character of the text: the ribbon after it, and the entry it finishes. -/
def textStep (x : Ribbon) : Ribbon × Option Nat :=
  let shifted := { x with onLine := some (x.text.getD x.pos blank) }
  if x.pos + 1 < x.text.length then ({ shifted with pos := x.pos + 1 }, none)
  else match x.current with
    | some id => (shifted, some id)
    | none => ({ shifted with phase := .separator, pos := 0, text := [] }, none)

def markerStep (x : Ribbon) : Ribbon :=
  if x.pos + 1 < markerText.length then { x with onLine := some (markerText.getD x.pos blank), pos := x.pos + 1 }
  else { x with onLine := some (markerText.getD x.pos blank), phase := .text, pos := 0 }

def separatorStep (x : Ribbon) : Ribbon :=
  if x.pos + 1 < Config.separatorLength then { x with onLine := some blank, pos := x.pos + 1 }
  else { x with onLine := some blank, phase := .idle, pos := 0 }

/-- A character event of a ribbon whose next entry is `next`. -/
def characterStep (d : Device) (next : Option Entry) (x : Ribbon) : Ribbon × Option Nat :=
  match x.phase with
  | .idle =>
    match next with
    | none => ({ x with onLine := some blank }, none)
    | some y =>
      if owesMarker (takenRibbon y x) then
        ({ composedRibbon d y (takenRibbon y x) with onLine := some 0x4C, pos := 1 }, none)
      else textStep (composedRibbon d y (takenRibbon y x))
  | .marker => (markerStep x, none)
  | .text => textStep x
  | .separator => (separatorStep x, none)

/-- A pacing event of a ribbon whose next entry is `next`. -/
def pacingStep (d : Device) (next : Option Entry) (x : Ribbon) : Ribbon × Option Nat :=
  if characterDue x then characterStep d next (chargedRibbon x) else ({ x with acc := x.acc + currentRate x }, none)

/-- The entry finished, where one is. -/
def finishing (r : RibbonNo) (f : Option Nat) (d : Device) : Device :=
  match f with
  | some id => finishEntry r id d
  | none => d

theorem textCharacter_setRibbon (r : RibbonNo) (d : Device) (x : Ribbon) : textCharacter r (d.setRibbon r x) =
    finishing r (textStep x).2 (d.setRibbon r (textStep x).1) := by
  unfold textCharacter textStep
  dsimp only
  rw [Device.ribbon_setRibbon_same, shift_setRibbon]
  by_cases hmore : x.pos + 1 < x.text.length
  · rw [if_pos hmore, if_pos hmore, modRibbon_setRibbon]
    rfl
  · rw [if_neg hmore, if_neg hmore]
    cases x.current with
    | none => exact modRibbon_setRibbon _ _ _ _
    | some id => rfl

theorem markerCharacter_setRibbon (r : RibbonNo) (d : Device) (x : Ribbon) :
    markerCharacter r (d.setRibbon r x) = d.setRibbon r (markerStep x) := by
  unfold markerCharacter markerStep
  dsimp only
  rw [Device.ribbon_setRibbon_same, shift_setRibbon, modRibbon_setRibbon, modRibbon_setRibbon, apply_ite (d.setRibbon r)]

theorem separatorCharacter_setRibbon (r : RibbonNo) (d : Device) (x : Ribbon) :
    separatorCharacter r (d.setRibbon r x) = d.setRibbon r (separatorStep x) := by
  unfold separatorCharacter separatorStep
  dsimp only
  rw [Device.ribbon_setRibbon_same, shift_setRibbon, modRibbon_setRibbon, modRibbon_setRibbon, apply_ite (d.setRibbon r)]

/-- The work of a character event, seen as its function and the end of an entry. -/
theorem characterWork_setRibbon (hx : x.state ≠ .primed) (hnext : nextEntry (d.setRibbon r x) r = next) :
    ∃ b raised, RibbonAhead r raised d b ∧ b.ribbon r = (characterStep d next x).1 ∧
      characterWork r (d.setRibbon r x) = finishing r (characterStep d next x).2 b := by
  have hset (y : Ribbon) : RibbonAhead r [] d (d.setRibbon r y) := RibbonAhead.setRibbon r d y
  cases hphase : x.phase with
  | idle =>
    rw [characterWork_of_idle hx hphase]
    cases next with
    | none =>
      have hstep : characterStep d none x = ({ x with onLine := some blank }, none) := by simp [characterStep, hphase]
      rw [idleCharacter_of_none hnext, shift_setRibbon, hstep]
      exact ⟨_, _, hset _, Device.ribbon_setRibbon_same _ _ _, rfl⟩
    | some y =>
      have hstep : characterStep d (some y) x = if owesMarker (takenRibbon y x) then
          ({ composedRibbon d y (takenRibbon y x) with onLine := some 0x4C, pos := 1 }, none)
        else textStep (composedRibbon d y (takenRibbon y x)) := by simp [characterStep, hphase]
      rw [hstep]
      by_cases hm : owesMarker (takenRibbon y x) = true
      · rw [idleCharacter_begins_marker hnext hm, if_pos hm]
        exact ⟨_, _, takenEntry_ahead r y x _ d, Device.ribbon_setRibbon_same _ _ _, rfl⟩
      · rw [idleCharacter_begins_text hnext (Bool.eq_false_iff.2 hm), if_neg hm, textCharacter_setRibbon]
        exact ⟨_, _, takenEntry_ahead r y x _ d, Device.ribbon_setRibbon_same _ _ _, rfl⟩
  | marker =>
    have hstep : characterStep d next x = (markerStep x, none) := by simp [characterStep, hphase]
    rw [characterWork_of_marker hx hphase, markerCharacter_setRibbon, hstep]
    exact ⟨_, _, hset _, Device.ribbon_setRibbon_same _ _ _, rfl⟩
  | text =>
    have hstep : characterStep d next x = textStep x := by simp [characterStep, hphase]
    rw [characterWork_of_text hx hphase, textCharacter_setRibbon, hstep]
    exact ⟨_, _, hset _, Device.ribbon_setRibbon_same _ _ _, rfl⟩
  | separator =>
    have hstep : characterStep d next x = (separatorStep x, none) := by simp [characterStep, hphase]
    rw [characterWork_of_separator hx hphase, separatorCharacter_setRibbon, hstep]
    exact ⟨_, _, hset _, Device.ribbon_setRibbon_same _ _ _, rfl⟩

theorem nextEntry_congr (htape : e.tape = d.tape) (hcurrent : (e.ribbon r).current = (d.ribbon r).current) :
    nextEntry e r = nextEntry d r := by
  unfold nextEntry
  rw [htape, hcurrent]

/-- A charged ribbon differs in its counter A alone. -/
theorem chargedRibbon_acc (x : Ribbon) : ∃ a, chargedRibbon x = { x with acc := a } := ⟨_, rfl⟩

/-- A pacing event of a RUNNING ribbon, seen as its function and the end of an entry. -/
theorem pacing_of_running (hx : (d.ribbon r).state = .running) :
    ∃ b raised, RibbonAhead r raised d b ∧ b.ribbon r = (pacingStep d (nextEntry d r) (d.ribbon r)).1 ∧
      pacing r d = finishing r (pacingStep d (nextEntry d r) (d.ribbon r)).2 b := by
  have hpaces : (d.ribbon r).state ≠ .stopped := by simp [hx]
  unfold pacingStep
  by_cases hdue : characterDue (d.ribbon r) = true
  · rw [if_pos hdue, pacing_of_due hdue]
    obtain ⟨a, ha⟩ := chargedRibbon_acc (d.ribbon r)
    rw [ha]
    refine characterWork_setRibbon (fun hp => by simp [hx] at hp) (nextEntry_congr rfl ?_)
    rw [Device.ribbon_setRibbon_same]
  · have hearly : (d.ribbon r).acc + currentRate (d.ribbon r) < 960000 :=
      Nat.lt_of_not_le fun hlate => hdue ((characterDue_iff _).2 ⟨hpaces, hlate⟩)
    rw [if_neg hdue, pacing_of_early hpaces hearly]
    exact ⟨_, _, RibbonAhead.setRibbon r d _, Device.ribbon_setRibbon_same _ _ _, rfl⟩

/-! ## Two ribbons that stand alike (R85) -/

/-- What pacing leaves of a RUNNING ribbon's state. -/
theorem textStep_state (x : Ribbon) : (textStep x).1.state = x.state := by
  unfold textStep
  dsimp only
  split
  · rfl
  · split <;> rfl

theorem characterStep_state (d : Device) (next : Option Entry) (x : Ribbon) :
    (characterStep d next x).1.state = x.state := by
  unfold characterStep
  cases x.phase with
  | idle =>
    cases next with
    | none => rfl
    | some y =>
      dsimp only
      split
      · rfl
      · exact textStep_state _
  | marker =>
    dsimp only [markerStep]
    split <;> rfl
  | text => exact textStep_state x
  | separator =>
    dsimp only [separatorStep]
    split <;> rfl

theorem pacingStep_state (d : Device) (next : Option Entry) (x : Ribbon) : (pacingStep d next x).1.state = x.state := by
  unfold pacingStep
  split
  · obtain ⟨a, ha⟩ := chargedRibbon_acc x
    rw [characterStep_state, ha]
  · rfl

/-- The step reads of the device the slots alone. -/
theorem pacingStep_congr (h : ∀ i, e.slot i = d.slot i) (next : Option Entry) (x : Ribbon) :
    pacingStep e next x = pacingStep d next x := by
  unfold pacingStep characterStep composedRibbon
  simp only [composeEntry_congr h]

/-- A last-shown slot forgotten, where it is among `gone`. -/
def forgetting (m : Option Slot → Option Slot) (x : Ribbon) : Ribbon := { x with lastShown := m x.lastShown }

/-- A text step does not read the last-shown slot. -/
theorem textStep_forgetting (m : Option Slot → Option Slot) (x : Ribbon) :
    textStep (forgetting m x) = (forgetting m (textStep x).1, (textStep x).2) := by
  unfold textStep forgetting
  dsimp only
  split
  · rfl
  · split <;> rfl

/-- What a step that finishes an entry does when another ribbon has finished the same entry before it: the slots in `gone`
are released, but not the one the entry names. -/
theorem characterStep_forgetting {m : Option Slot → Option Slot} {g : Entry → Entry} {id : Nat}
    (hg : PendingOnly g) (hlen : ∀ y, (g y).normalLength = y.normalLength) (hid : (characterStep d next x).2 = some id)
    (htext : ∀ y level, next = some y → composeEntry e level (m x.lastShown) y.body =
      composeEntry d level x.lastShown y.body ∧ m (shownSlot y.body) = shownSlot y.body) :
    characterStep e (next.map g) (forgetting m x) = (forgetting m (characterStep d next x).1, some id) := by
  unfold characterStep at hid ⊢
  have hphase : (forgetting m x).phase = x.phase := rfl
  rw [hphase]
  cases hp : x.phase with
  | idle =>
    rw [hp] at hid
    cases next with
    | none => cases hid
    | some y =>
      dsimp only [Option.map_some] at hid ⊢
      have htaken : takenRibbon (g y) (forgetting m x) = forgetting m (takenRibbon y x) := by
        unfold takenRibbon evaluatedRibbon forgetting
        rw [(hg y).2, hlen]
        dsimp only
        rw [evaluatedLevel_congr (x := { x with
          current := some y.id, backlog := x.backlog - y.normalLength, lastShown := m x.lastShown })
          (z := { x with current := some y.id, backlog := x.backlog - y.normalLength }) rfl rfl rfl]
      have howes : owesMarker (forgetting m (takenRibbon y x)) = owesMarker (takenRibbon y x) := rfl
      rw [htaken, howes]
      by_cases hm : owesMarker (takenRibbon y x) = true
      · rw [if_pos hm] at hid
        cases hid
      · rw [if_neg hm] at hid ⊢
        rw [if_neg hm]
        obtain ⟨hsame, hkeeps⟩ := htext y (takenRibbon y x).level rfl
        have hcomposed : composedRibbon e (g y) (forgetting m (takenRibbon y x)) =
            forgetting m (composedRibbon d y (takenRibbon y x)) := by
          unfold composedRibbon
          rw [howes, if_neg hm, if_neg hm, (hg y).1]
          unfold forgetting
          dsimp only
          rw [hkeeps, show (takenRibbon y x).lastShown = x.lastShown from rfl, hsame, if_neg hm]
        rw [hcomposed, textStep_forgetting, hid]
  | marker =>
    rw [hp] at hid
    cases hid
  | text =>
    rw [hp] at hid
    dsimp only at hid ⊢
    rw [textStep_forgetting, hid]
  | separator =>
    rw [hp] at hid
    cases hid

theorem pacingStep_forgetting {m : Option Slot → Option Slot} {g : Entry → Entry} {id : Nat}
    (hg : PendingOnly g) (hlen : ∀ y, (g y).normalLength = y.normalLength) (hid : (pacingStep d next x).2 = some id)
    (htext : ∀ y level, next = some y → composeEntry e level (m x.lastShown) y.body =
      composeEntry d level x.lastShown y.body ∧ m (shownSlot y.body) = shownSlot y.body) :
    pacingStep e (next.map g) (forgetting m x) = (forgetting m (pacingStep d next x).1, some id) := by
  unfold pacingStep at hid ⊢
  have hdue : characterDue (forgetting m x) = characterDue x := rfl
  have hacc : (forgetting m x).acc + currentRate (forgetting m x) = x.acc + currentRate x := rfl
  have hcharged : chargedRibbon (forgetting m x) = forgetting m (chargedRibbon x) := by
    unfold chargedRibbon
    rw [hacc]
    rfl
  rw [hdue, hcharged]
  by_cases h : characterDue x = true
  · rw [if_pos h] at hid ⊢
    rw [if_pos h]
    obtain ⟨a, ha⟩ := chargedRibbon_acc x
    rw [ha] at hid ⊢
    exact characterStep_forgetting hg hlen hid htext
  · rw [if_neg h] at hid
    cases hid

/-- The text of an entry reads its own slot and whether that was last shown. -/
theorem composeEntry_of_slot {b : EntryBody} {shown shown' : Option Slot} (level : Level)
    (h : ∀ i, b.slot? = some i → e.slot i = d.slot i ∧ (shown' = some i ↔ shown = some i)) :
    composeEntry e level shown' b = composeEntry d level shown b := by
  cases b with
  | print i price shares =>
    obtain ⟨hslot, hshown⟩ := h i rfl
    cases level <;> simp only [composeEntry, hslot, hshown]
  | corr i price => simp only [composeEntry, (h i rfl).1]
  | state i word => cases word <;> simp only [composeEntry, (h i rfl).1]
  | bulletin mask text => rfl
  | gap n => rfl

theorem shownAfter_eq_some {kept : List Entry} {l : Option Slot} {i : Slot} :
    shownAfter d kept l = some i ↔ l = some i ∧ releasedSlot d kept i = false := by
  cases l with
  | none => simp [shownAfter]
  | some j =>
    unfold shownAfter
    by_cases hj : releasedSlot d kept j = true
    · simp only [Option.any_some, hj, if_true]
      refine ⟨fun h => (nomatch h), fun ⟨h, hi⟩ => ?_⟩
      cases h
      rw [hi] at hj
      cases hj
    · simp only [Option.any_some, hj]
      refine ⟨fun h => ⟨h, ?_⟩, And.left⟩
      cases h
      exact Bool.eq_false_iff.2 hj

theorem slot?_of_shownSlot {b : EntryBody} {i : Slot} (h : shownSlot b = some i) : b.slot? = some i := by
  cases b with
  | print j price shares => exact h
  | corr j price => exact h
  | state j word => cases h
  | bulletin mask text => cases h
  | gap n => cases h

/-- A slot that a kept entry names is not released. -/
theorem not_released_of_kept {kept : List Entry} {i : Slot} {y : Entry} (hy : y ∈ kept) (hi : y.body.slot? = some i) :
    releasedSlot d kept i = false := by
  have hnamed : kept.any (fun z => z.body.slot? == some i) = true := List.any_eq_true.2 ⟨y, hy, by simp [hi]⟩
  simp [releasedSlot, hnamed]

/-- Two RUNNING ribbons that stand alike and are in the same pending sets. -/
def InStep (p q : RibbonNo) (d : Device) : Prop :=
  d.ribbon p = d.ribbon q ∧ (d.ribbon p).state = .running ∧ ∀ y ∈ d.tape.entries, p ∈ y.pending ↔ q ∈ y.pending

theorem nextEntry_of_inStep (h : InStep p q d) : nextEntry d q = nextEntry d p := by
  obtain ⟨hsame, -, hpending⟩ := h
  unfold nextEntry
  rw [← hsame]
  refine List.find?_congr fun y hy => ?_
  simp only [hpending y hy]

theorem mem_pending_withoutFinished (hpq : p ≠ q) (y : Entry) : q ∈ (withoutFinished p id y).pending ↔ q ∈ y.pending := by
  unfold withoutFinished
  split
  · simp [withoutRibbon, Ne.symm hpq]
  · rfl

/-- The entry ribbon q begins after ribbon p has finished one is the one p had before it. -/
theorem nextEntry_of_finished (h : InStep p q d) (hpq : p ≠ q)
    (htape : e.tape.entries = leftEntries (withoutFinished p id) d) (hcurrent : (e.ribbon q).current = (d.ribbon p).current) :
    nextEntry e q = (nextEntry d p).map (withoutFinished p id) := by
  obtain ⟨hsame, -, hpending⟩ := h
  unfold nextEntry
  rw [htape, hcurrent]
  unfold leftEntries
  rw [List.find?_filter, List.find?_map]
  refine congrArg (Option.map _) (List.find?_congr fun y hy => ?_)
  have hmem : q ∈ (withoutFinished p id y).pending ↔ q ∈ y.pending := mem_pending_withoutFinished hpq y
  have hid : (withoutFinished p id y).id = y.id := (withoutFinished_pendingOnly p id y).2
  rw [Bool.eq_iff_iff]
  simp only [Function.comp_apply, decide_eq_true_iff, hmem, hid, ← hpending y hy]
  refine ⟨And.right, fun hboth => ⟨?_, hboth⟩⟩
  have hq : q ∈ (withoutFinished p id y).pending := hmem.2 ((hpending y hy).1 hboth.1)
  cases hl : (withoutFinished p id y).pending with
  | nil => simp [hl] at hq
  | cons => rfl

theorem withoutFinished_normalLength (r : RibbonNo) (id : Nat) (y : Entry) :
    (withoutFinished r id y).normalLength = y.normalLength := by
  unfold withoutFinished
  split <;> rfl

/-- The entry p begins next stays behind when p finishes one: q still has to show it. -/
theorem mem_leftEntries_of_next (h : InStep p q d) (hpq : p ≠ q) (hy : nextEntry d p = some y) :
    withoutFinished p id y ∈ leftEntries (withoutFinished p id) d := by
  obtain ⟨-, -, hpending⟩ := h
  have hmem : y ∈ d.tape.entries := List.mem_of_find?_eq_some hy
  have hfound := List.find?_some hy
  have hq : q ∈ (withoutFinished p id y).pending :=
    (mem_pending_withoutFinished hpq y).2 ((hpending y hmem).1 (of_decide_eq_true hfound).1)
  refine List.mem_filter.2 ⟨List.mem_map_of_mem hmem, ?_⟩
  cases hl : (withoutFinished p id y).pending with
  | nil => simp [hl] at hq
  | cons => rfl

theorem inStep_pacing (hpq : p ≠ q) (h : InStep p q d) : InStep p q (pacing q (pacing p d)) := by
  have hnext := nextEntry_of_inStep h
  have hinstep := h
  obtain ⟨hsame, hrunning, hpending⟩ := h
  obtain ⟨b, raised, hahead, hb, hpace⟩ := pacing_of_running hrunning
  have hstate := pacingStep_state d (nextEntry d p) (d.ribbon p)
  rw [hrunning] at hstate
  cases hf : (pacingStep d (nextEntry d p) (d.ribbon p)).2 with
  | none =>
    rw [hf] at hpace
    have hq : b.ribbon q = d.ribbon p := (hahead.others q hpq.symm).trans hsame.symm
    obtain ⟨b2, raised2, hahead2, hb2, hpace2⟩ := pacing_of_running (d := b) (r := q) (by rw [hq, hrunning])
    have hnext2 : nextEntry b q = nextEntry d p :=
      (nextEntry_congr hahead.tape (by rw [hq, hsame])).trans hnext
    rw [hnext2, hq, pacingStep_congr hahead.slot] at hb2 hpace2
    rw [hf] at hpace2
    rw [hpace, show finishing p none b = b from rfl, hpace2, show finishing q none b2 = b2 from rfl]
    have hp2 : b2.ribbon p = b2.ribbon q := by rw [hahead2.others p hpq, hb, hb2]
    refine ⟨hp2, ?_, ?_⟩
    · rw [hp2, hb2, hstate]
    · rw [hahead2.tape, hahead.tape]
      exact hpending
  | some id =>
    rw [hf] at hpace
    obtain ⟨hleaves, hfinished⟩ := finishEntry_goesOn (id := id) hahead (by rw [hb, hstate]; simp)
    rw [hpace, show finishing p (some id) b = finishEntry p id b from rfl]
    rw [hb] at hfinished
    generalize finishEntry p id b = a at hleaves hfinished
    generalize hkept : leftEntries (withoutFinished p id) d = kept at hleaves hfinished
    obtain ⟨htape, hslot, hothers, -⟩ := hleaves
    have hq : a.ribbon q = forgetting (shownAfter d kept) (d.ribbon p) := by
      rw [hothers q hpq.symm, ← hsame]
      rfl
    have hnext2 : nextEntry a q = (nextEntry d p).map (withoutFinished p id) :=
      nextEntry_of_finished hinstep hpq (by rw [htape, hkept]) (by rw [hq]; rfl)
    have htext (y : Entry) (level : Level) (hy : nextEntry d p = some y) :
        composeEntry a level (shownAfter d kept (d.ribbon p).lastShown) y.body =
          composeEntry d level (d.ribbon p).lastShown y.body ∧ shownAfter d kept (shownSlot y.body) = shownSlot y.body := by
      have hreleased (i : Slot) (hi : y.body.slot? = some i) : releasedSlot d kept i = false := by
        rw [← hkept]
        exact not_released_of_kept (mem_leftEntries_of_next hinstep hpq hy) (by
          rw [(withoutFinished_pendingOnly p id y).1, hi])
      refine ⟨composeEntry_of_slot level fun i hi => ⟨?_, ?_⟩, ?_⟩
      · rw [hslot, if_neg (by simp [hreleased i hi])]
      · rw [shownAfter_eq_some]
        exact and_iff_left (hreleased i hi)
      · cases hs : shownSlot y.body with
        | none => rfl
        | some i => exact shownAfter_eq_some.2 ⟨rfl, hreleased i (slot?_of_shownSlot hs)⟩
    have hstep := pacingStep_forgetting (e := a) (withoutFinished_pendingOnly p id) (withoutFinished_normalLength p id) hf htext
    obtain ⟨b2, raised2, hahead2, hb2, hpace2⟩ := pacing_of_running (d := a) (r := q) (by rw [hq]; exact hrunning)
    rw [hnext2, hq, hstep] at hb2 hpace2
    obtain ⟨hleaves2, hfinished2⟩ := finishEntry_goesOn (id := id) hahead2 (by
      rw [hb2]
      show ¬((pacingStep d (nextEntry d p) (d.ribbon p)).1.state = .draining ∧ _)
      rw [hstate]
      simp)
    rw [hpace2, show finishing q (some id) b2 = finishEntry q id b2 from rfl]
    rw [hb2] at hfinished2
    generalize finishEntry q id b2 = a2 at hleaves2 hfinished2
    obtain ⟨htape2, -, hothers2, -⟩ := hleaves2
    have hp2 : a2.ribbon p = a2.ribbon q := by
      rw [hothers2 p hpq, hfinished, hfinished2]
      rfl
    refine ⟨hp2, ?_, fun y hy => ?_⟩
    · rw [hp2, hfinished2]
      exact hstate
    · rw [htape2] at hy
      obtain ⟨w, hw, rfl⟩ := List.mem_map.1 (List.mem_of_mem_filter hy)
      rw [htape, ← hkept] at hw
      obtain ⟨v, hv, rfl⟩ := List.mem_map.1 (List.mem_of_mem_filter hw)
      have hvp := hpending v hv
      unfold withoutFinished
      by_cases hid : v.id = id
      · simp [hid, withoutRibbon]
      · simpa [hid] using hvp

/-! ## A common offer (R85) -/

theorem mem_pendingSet_of_inStep {b : EntryBody} (h : InStep p q d) (hb : selects d p b = selects d q b) :
    p ∈ pendingSet d b ↔ q ∈ pendingSet d b := by
  obtain ⟨hsame, -, -⟩ := h
  rw [mem_pendingSet, mem_pendingSet, hsame, hb]

theorem inStep_appendEntry {b : EntryBody} (h : InStep p q d) (hb : selects d p b = selects d q b) :
    InStep p q (appendEntry b d) := by
  have hset := mem_pendingSet_of_inStep h hb
  obtain ⟨hsame, hrunning, hpending⟩ := h
  obtain ⟨htape, hribbon, -, -⟩ := appendEntry_parts b d
  refine ⟨?_, ?_, fun y hy => ?_⟩
  · rw [hribbon, hribbon, hsame]
    exact if_congr hset rfl rfl
  · rw [hribbon]
    split <;> exact hrunning
  · rw [htape] at hy
    rcases List.mem_append.1 hy with hold | hnew
    · exact hpending y hold
    · rw [List.mem_singleton.1 hnew]
      exact hset

theorem inStep_raise (n : Notice) (h : InStep p q d) : InStep p q (d.raise n) := by
  obtain ⟨hsame, hrunning, hpending⟩ := h
  have hchanges := raise_changes d n
  refine ⟨?_, ?_, ?_⟩
  · rw [hchanges.ribbon_eq (by simp), hchanges.ribbon_eq (by simp), hsame]
  · rw [hchanges.ribbon_eq (by simp), hrunning]
  · rw [show _ = _ from hchanges .tape (by simp)]
    exact hpending

theorem inStep_countGap (h : InStep p q d) : InStep p q (d.setTape { d.tape with entries := countGap d.tape.entries }) := by
  obtain ⟨hsame, hrunning, hpending⟩ := h
  refine ⟨hsame, hrunning, fun y hy => ?_⟩
  obtain ⟨w, hw, hsame⟩ := mem_countGap_pending hy
  rw [← hsame]
  exact hpending w hw

theorem inStep_offer {b : EntryBody} (h : InStep p q d) (hb : selects d p b = selects d q b) : InStep p q (offer b d).1 := by
  unfold offer
  split
  · exact h
  · split
    · exact inStep_appendEntry h hb
    · split
      · exact inStep_raise _ (inStep_countGap h)
      · split
        · exact inStep_raise _ (inStep_appendEntry h rfl)
        · exact h

/-- Settles O34: p's pacing event leaves q to make the very step p has made, with the same slots forgotten. -/
theorem ribbonsInStepStayInStep : Obligations.RibbonsInStepStayInStep := by
  intro s p q hpq alike h
  exact ⟨⟨⟨pacing q (pacing p s.device), s.pending⟩, rfl, rfl, inStep_pacing hpq h⟩, fun b hb => inStep_offer h hb⟩

end Sys2Proof.Machine
end


section
/-! PROOFS. Decimal digits, and reading back what the price formatter writes (O24). -/

namespace Sys2Proof.Machine

/-! ## Decimal digits (R33) -/

theorem digitsFrom_append (fuel n : Nat) (acc : Text) : digitsFrom fuel n acc = digitsFrom fuel n [] ++ acc := by
  induction fuel generalizing n acc with
  | zero => rfl
  | succ fuel ih =>
    unfold digitsFrom
    dsimp only
    split
    · rfl
    · rw [ih (n / 10) (byte (48 + n % 10) :: acc), ih (n / 10) [byte (48 + n % 10)], List.append_assoc]
      rfl

/-- Fuel beyond the number is fuel enough. -/
theorem digitsFrom_of_lt {fuel n : Nat} (h : n < fuel) : digitsFrom fuel n [] = digits n := by
  unfold digits
  generalize hk : n + 1 = k
  have hlt : n < k := by omega
  clear hk
  induction fuel generalizing n k with
  | zero => omega
  | succ fuel ih =>
    obtain ⟨k, rfl⟩ : ∃ j, k = j + 1 := ⟨k - 1, by omega⟩
    unfold digitsFrom
    dsimp only
    split
    · rfl
    · next hten =>
      rw [digitsFrom_append fuel, digitsFrom_append k, ih (n := n / 10) (by omega) k (by omega)]

/-- A number's digits are those of its tens, without a leading zero, and its last digit. -/
theorem digits_eq (n : Nat) : digits n = (if n < 10 then [] else digits (n / 10)) ++ [byte (48 + n % 10)] := by
  conv_lhs => unfold digits digitsFrom
  dsimp only
  by_cases h : n < 10
  · rw [if_pos (by omega), if_pos h]
    rfl
  · rw [if_neg (by omega), if_neg h, digitsFrom_append, digitsFrom_of_lt (by omega)]

theorem toNat_digit (n : Nat) : (byte (48 + n % 10)).toNat = 48 + n % 10 := by
  rw [byte, BitVec.toNat_ofNat]
  omega

theorem digits_value (n : Nat) : (digits n).foldl (fun v c => v * 10 + (c.toNat - 48)) 0 = n := by
  induction n using Nat.strongRecOn with
  | ind n ih =>
    rw [digits_eq, List.foldl_append, List.foldl_cons, List.foldl_nil, toNat_digit]
    split
    · rw [List.foldl_nil]
      omega
    · rw [ih (n / 10) (by omega)]
      omega

theorem mem_digits (n : Nat) {c : Byte} (hc : c ∈ digits n) : 48 ≤ c.toNat ∧ c.toNat ≤ 57 := by
  induction n using Nat.strongRecOn with
  | ind n ih =>
    rw [digits_eq, List.mem_append, List.mem_singleton] at hc
    rcases hc with hc | rfl
    · split at hc
      · cases hc
      · exact ih (n / 10) (by omega) hc
    · rw [toNat_digit]
      omega

theorem digits_ne_nil (n : Nat) : digits n ≠ [] := by
  rw [digits_eq]
  simp

theorem head?_digits (n : Nat) : (digits n).head? = some 0x30 ↔ n = 0 := by
  induction n using Nat.strongRecOn with
  | ind n ih =>
    by_cases h : n < 10
    · rw [digits_eq, if_pos h, List.nil_append, List.head?_cons, Option.some_inj, ← BitVec.toNat_inj, toNat_digit]
      show 48 + n % 10 = 48 ↔ _
      omega
    · rw [digits_eq, if_neg h, List.head?_append_of_ne_nil _ (digits_ne_nil _), ih (n / 10) (by omega)]
      omega

theorem length_digits {n m : Nat} (h : n < 10 ^ (m + 1)) : (digits n).length ≤ m + 1 := by
  induction m generalizing n with
  | zero => rw [digits_eq, if_pos (by simpa using h)]; simp
  | succ m ih =>
    rw [digits_eq, List.length_append, List.length_singleton]
    split
    · simp
    · have hten : n / 10 < 10 ^ (m + 1) := by
        rw [Nat.div_lt_iff_lt_mul (by omega)]
        rwa [pow_succ] at h
      exact Nat.add_le_add_right (ih hten) 1

/-! ## Reading numbers (R47) -/

theorem not_mem_digits {c : Byte} (h : c.toNat < 48) (n : Nat) : c ∉ digits n := fun hc => by
  have hrange := mem_digits n hc
  omega

theorem readDigits_digits {most n : Nat} (h : (digits n).length ≤ most) : readDigits most (digits n) = some n := by
  have hall : (digits n).all isDigit = true := List.all_eq_true.2 fun c hc => by
    obtain ⟨hlow, hhigh⟩ := mem_digits n hc
    simp [isDigit, hlow, hhigh]
  unfold readDigits
  rw [if_pos ⟨digits_ne_nil n, h, hall⟩, digits_value]

theorem cutAt_append {c : Byte} {t : Text} (h : c ∉ t) (u : Text) : cutAt c (t ++ c :: u) = some (t, u) := by
  induction t with
  | nil => exact if_pos rfl
  | cons a t ih =>
    rw [List.cons_append, cutAt, if_neg (List.ne_of_not_mem_cons h).symm, ih (List.not_mem_of_not_mem_cons h)]

theorem cutAt_of_not_mem {c : Byte} {t : Text} (h : c ∉ t) : cutAt c t = none := by
  induction t with
  | nil => rfl
  | cons a t ih =>
    rw [cutAt, if_neg (List.ne_of_not_mem_cons h).symm, ih (List.not_mem_of_not_mem_cons h)]

theorem readWhole_digits {w : Nat} (h : w ≤ 65535) : readWhole (digits w) = some (w * 256) := by
  unfold readWhole
  rw [readDigits_digits (length_digits (m := 4) (by omega))]
  exact if_pos h

theorem readFraction_written {m j : Nat} (hm : 1 ≤ m) (hlt : m < 2 ^ j) (hj : j ≤ 8) :
    readFraction (digits m ++ ch '/' :: digits (2 ^ j)) = some (m * (256 / 2 ^ j)) := by
  have hpow : 2 ^ j ≤ 256 := Nat.pow_le_pow_right (by omega) hj
  have hone : 1 ≤ j := Nat.one_le_iff_ne_zero.2 fun h0 => by
    rw [h0] at hlt
    omega
  have hmem : 2 ^ j ∈ [2, 4, 8, 16, 32, 64, 128, 256] := by
    interval_cases j <;> decide
  unfold readFraction
  rw [cutAt_append (not_mem_digits (by decide) m)]
  dsimp only
  rw [readDigits_digits (length_digits (m := 2) (by omega)), readDigits_digits (length_digits (m := 2) (by omega))]
  exact if_pos ⟨hmem, hm, hlt⟩

theorem blank_not_mem_fraction (m j : Nat) : blank ∉ digits m ++ ch '/' :: digits (2 ^ j) := by
  rw [List.mem_append, List.mem_cons]
  rintro (h | h | h)
  · exact not_mem_digits (by decide) _ h
  · exact absurd h (by decide)
  · exact not_mem_digits (by decide) _ h

/-- Each of the three forms of a price reads back (R33, R47). -/
theorem readPrice_fractionForm {w m j : Nat} (hw : w ≤ 65535) (hlt : m < 2 ^ j) (hj : j ≤ 8) :
    readPrice (fractionForm w m j) = some (w * 256 + m * (256 / 2 ^ j)) := by
  unfold readPrice fractionForm
  by_cases hm : m = 0
  · rw [if_pos hm, cutAt_of_not_mem (not_mem_digits (by decide) w)]
    dsimp only
    rw [if_neg (not_mem_digits (by decide) w), readWhole_digits hw, hm]
    simp
  · rw [if_neg hm]
    by_cases h0 : w = 0
    · rw [if_pos h0, cutAt_of_not_mem (blank_not_mem_fraction m j)]
      dsimp only
      rw [if_pos (by simp), readFraction_written (by omega) hlt hj, h0]
      simp
    · rw [if_neg h0, cutAt_append (not_mem_digits (by decide) w)]
      dsimp only
      rw [readWhole_digits hw, readFraction_written (by omega) hlt hj]

/-! ## Exact prices (R31, R32) -/

/-- At a denominator that shows the price exactly the fraction is written in lowest terms without rounding. -/
theorem fractionText_of_exact {p k : Nat} (hk : k ≤ 8) (h : 256 / 2 ^ k ∣ p) :
    ∃ m j, fractionText p k = fractionForm (p / 256) m j ∧ j ≤ 8 ∧ m < 2 ^ j ∧ p = p / 256 * 256 + m * (256 / 2 ^ j) := by
  have hq : 256 / 2 ^ k = 2 ^ (8 - k) := Nat.pow_div (x := 2) (m := 8) hk (by decide)
  have hpos : 0 < 2 ^ (8 - k) := Nat.two_pow_pos _
  have hsplit : 2 ^ k * 2 ^ (8 - k) = 256 := by
    rw [← pow_add, Nat.add_sub_cancel' hk]
    rfl
  rw [hq] at h
  have hdvd : 2 ^ (8 - k) ∣ p % 256 := (Nat.dvd_mod_iff ⟨2 ^ k, by rw [mul_comm, hsplit]⟩).2 h
  have hnum : numerator (p % 256) k = p % 256 / 2 ^ (8 - k) := by
    rw [numerator_of_below_half] <;> rw [hq]
    rw [Nat.mod_eq_zero_of_dvd hdvd]
    omega
  have hback : numerator (p % 256) k * 2 ^ (8 - k) = p % 256 := by
    rw [hnum, Nat.div_mul_cancel hdvd]
  have hlt : numerator (p % 256) k < 2 ^ k := by
    rw [hnum, Nat.div_lt_iff_lt_mul hpos, hsplit]
    omega
  obtain ⟨hj, hn, -⟩ := reduce_lowest_terms hlt
  refine ⟨_, _, fractionText_of_no_carry (by omega), hj.trans hk, ?_, ?_⟩
  all_goals
    generalize (reduce (numerator (p % 256) k) k).1 = m at hn ⊢
    generalize (reduce (numerator (p % 256) k) k).2 = j at hj hn ⊢
  · rw [hn, ← Nat.sub_add_cancel hj, pow_add, mul_comm m] at hlt
    rw [Nat.add_sub_cancel] at hlt
    exact Nat.lt_of_mul_lt_mul_left hlt
  · have hshare : 256 / 2 ^ j = 2 ^ (k - j) * 2 ^ (8 - k) := by
      rw [show 256 / 2 ^ j = 2 ^ (8 - j) from Nat.pow_div (x := 2) (m := 8) (hj.trans hk) (by decide), ← pow_add]
      congr 1
      omega
    rw [hshare, ← mul_assoc, ← hn, hback]
    omega

/-- Settles O24: the digits read as the number, and each of the three forms as its points and its fraction. -/
theorem writtenPriceReadsBack : Obligations.WrittenPriceReadsBack := by
  refine ⟨fun n => ⟨digits_value n, fun c => mem_digits n, head?_digits n, rfl⟩, fun p k hp _ hk hexact => ?_⟩
  obtain ⟨m, j, htext, hj, hlt, hvalue⟩ := fractionText_of_exact hk hexact
  rw [htext, readPrice_fractionForm (by omega) hlt hj, ← hvalue]

end Sys2Proof.Machine
end


section
/-! PROOFS. Field by field, which bytes a reader answers a value for (R181): the facts behind O60. -/

namespace Sys2Proof.Machine

variable {b w : List Byte} {k n : Nat} {un : List Nat}

/-! ## Cells of a body -/

/-- From place k on, the body has the cells of `w`, but for the places that no check reads. -/
def CellsFrom (b : List Byte) (un : List Nat) : Nat → List Byte → Prop
  | _, [] => True
  | k, x :: w => (k ∉ un → b.getD k 0 = x) ∧ CellsFrom b un (k + 1) w

theorem cellsFrom_append (u v : List Byte) :
    CellsFrom b un k (u ++ v) ↔ CellsFrom b un k u ∧ CellsFrom b un (k + u.length) v := by
  induction u generalizing k with
  | nil => simp [CellsFrom]
  | cons x u ih =>
    rw [List.cons_append]
    show _ ∧ CellsFrom b un (k + 1) (u ++ v) ↔ _
    rw [ih, List.length_cons, Nat.add_right_comm, Nat.add_assoc, ← and_assoc]
    rfl

theorem cellsFrom_iff : CellsFrom b un k w ↔ ∀ j < w.length, k + j ∉ un → b.getD (k + j) 0 = w.getD j 0 := by
  induction w generalizing k with
  | nil => simp [CellsFrom]
  | cons x w ih =>
    show _ ∧ CellsFrom b un (k + 1) w ↔ _
    rw [ih]
    refine ⟨fun ⟨hx, hw⟩ j hj => ?_, fun h => ⟨h 0 (by simp), fun j hj => ?_⟩⟩
    · cases j with
      | zero => exact hx
      | succ j =>
        rw [← Nat.add_assoc, Nat.add_right_comm]
        exact hw j (by simpa using hj)
    · have hnext := h (j + 1) (by simpa using hj)
      rwa [← Nat.add_assoc, Nat.add_right_comm] at hnext

/-- Two bodies are alike but for the unread places. -/
theorem alike_iff : (b.length = w.length ∧ ∀ k, k ∉ un → b[k]? = w[k]?) ↔ b.length = w.length ∧ CellsFrom b un 0 w := by
  refine and_congr_right fun hlen => ?_
  rw [cellsFrom_iff]
  simp only [Nat.zero_add, List.getD_eq_getElem?_getD]
  refine ⟨fun h j _ hj => by rw [h j hj], fun h j hj => ?_⟩
  by_cases hin : j < w.length
  · have hcell := h j hin hj
    rw [List.getElem?_eq_getElem hin, List.getElem?_eq_getElem (hlen ▸ hin)] at hcell ⊢
    exact congrArg some hcell
  · rw [List.getElem?_eq_none (by omega), List.getElem?_eq_none (by omega)]

theorem body_iff : b = w ↔ b.length = w.length ∧ CellsFrom b [] 0 w := by
  rw [← alike_iff]
  refine ⟨fun h => by simp [h], fun ⟨_, h⟩ => List.ext_getElem? fun k => h k (List.not_mem_nil)⟩

/-! ## Numbers -/

theorem eq_byte_iff {x : Byte} : x = byte n ↔ x.toNat = n % 256 := by
  rw [← BitVec.toNat_inj, byte, BitVec.toNat_ofNat]

theorem getD_toNat_lt (b : List Byte) (k : Nat) : (b.getD k 0).toNat < 256 := (b.getD k 0).isLt

theorem byteAt_eq_iff : byteAt b k = n ↔ b.getD k 0 = byte n ∧ n ≤ 255 := by
  have hlt := getD_toNat_lt b k
  rw [eq_byte_iff]
  unfold byteAt
  omega

theorem wordAt_eq_iff : wordAt b k = n ↔ (b.getD k 0 = byte (n / 256) ∧ b.getD (k + 1) 0 = byte n) ∧ n ≤ 65535 := by
  have h0 := getD_toNat_lt b k
  have h1 := getD_toNat_lt b (k + 1)
  rw [eq_byte_iff, eq_byte_iff]
  unfold wordAt byteAt
  omega

theorem tripleAt_eq_iff : tripleAt b k = n ↔
    (b.getD k 0 = byte (n / 65536) ∧ b.getD (k + 1) 0 = byte (n / 256) ∧ b.getD (k + 2) 0 = byte n) ∧ n ≤ 16777215 := by
  have h0 := getD_toNat_lt b k
  have h1 := getD_toNat_lt b (k + 1)
  have h2 := getD_toNat_lt b (k + 2)
  rw [eq_byte_iff, eq_byte_iff, eq_byte_iff]
  unfold tripleAt byteAt
  omega

theorem longAt_eq_iff : longAt b k = n ↔
    (b.getD k 0 = byte (n / 16777216) ∧ b.getD (k + 1) 0 = byte (n / 65536) ∧ b.getD (k + 2) 0 = byte (n / 256) ∧
      b.getD (k + 3) 0 = byte n) ∧ n ≤ 4294967295 := by
  have h0 := getD_toNat_lt b k
  have h1 := getD_toNat_lt b (k + 1)
  have h2 := getD_toNat_lt b (k + 2)
  have h3 := getD_toNat_lt b (k + 3)
  rw [eq_byte_iff, eq_byte_iff, eq_byte_iff, eq_byte_iff]
  unfold longAt tripleAt byteAt
  simp only [Nat.add_assoc, Nat.reduceAdd]
  omega

/-! ## Identifiers, flags and prices -/

theorem idOf_eq_some {v : Nat} {i : Fin n} : idOf n v = some i ↔ v = i.val := by
  unfold idOf
  split
  · rw [Option.some_inj, Fin.ext_iff]
  · next h => exact ⟨fun h' => (nomatch h'), fun h' => absurd (h' ▸ i.isLt) h⟩

theorem idAt_eq_some (hn : n ≤ 256) {i : Fin n} : idAt n b k = some i ↔ CellsFrom b [] k [byte i.val] := by
  have hi := i.isLt
  rw [idAt, idOf_eq_some, byteAt_eq_iff, and_iff_left (by omega)]
  simp [CellsFrom]

theorem slotAt_eq_some {i : Slot} : slotAt b k = some i ↔ CellsFrom b [] k (wordBytes i.val) := by
  have hi := i.isLt
  rw [slotAt, idOf_eq_some, wordAt_eq_iff, and_iff_left (by omega)]
  simp [CellsFrom, wordBytes]

theorem flagAt_eq_some {f : Bool} : flagAt b k = some f ↔ CellsFrom b [] k [flagByte f] := by
  have h0 : byteAt b k = 0 ↔ b.getD k 0 = 0 := by rw [byteAt_eq_iff]; simp [byte]
  have h1 : byteAt b k = 1 ↔ b.getD k 0 = 1 := by rw [byteAt_eq_iff]; simp [byte]
  unfold flagAt
  simp only [h0, h1, CellsFrom, List.not_mem_nil, not_false_eq_true, true_imp_iff, and_true]
  generalize b.getD k 0 = c
  by_cases hc : c = 0
  · subst hc
    cases f <;> decide
  · by_cases hc' : c = 1
    · subst hc'
      cases f <;> decide
    · rw [if_neg hc, if_neg hc']
      cases f with
      | false => exact ⟨nofun, fun h => absurd h hc⟩
      | true => exact ⟨nofun, fun h => absurd h hc'⟩

/-- The places of an absent price that no check reads. -/
def unreadPrice (p : Price) (k : Nat) : List Nat := if p = none then [k + 1, k + 2, k + 3] else []

theorem priceAt_eq_some {p : Price} : priceAt b k = some p ↔
    CellsFrom b (unreadPrice p k) k (priceBytes p) ∧ ∀ n, p = some n → n ≤ 16777215 := by
  have h0 : byteAt b k = 0 ↔ b.getD k 0 = 0 := by rw [byteAt_eq_iff]; simp [byte]
  have h1 : byteAt b k = 1 ↔ b.getD k 0 = 1 := by rw [byteAt_eq_iff]; simp [byte]
  unfold priceAt
  simp only [h0, h1]
  cases p with
  | none =>
    simp only [CellsFrom, priceBytes, unreadPrice]
    generalize b.getD k 0 = c
    by_cases hc : c = 0
    · subst hc
      simp
    · rw [if_neg hc]
      by_cases hc' : c = 1
      · subst hc'
        simp
      · rw [if_neg hc']
        exact ⟨nofun, fun ⟨⟨h, _⟩, _⟩ => absurd (h (by simp)) hc'⟩
  | some n =>
    have hcells : CellsFrom b (unreadPrice (some n) k) k (priceBytes (some n)) ↔ b.getD k 0 = 0 ∧
        b.getD (k + 1) 0 = byte (n / 65536) ∧ b.getD (k + 1 + 1) 0 = byte (n / 256) ∧ b.getD (k + 1 + 2) 0 = byte n := by
      simp [CellsFrom, priceBytes, tripleBytes, unreadPrice]
    rw [hcells]
    generalize b.getD k 0 = c
    by_cases hc : c = 0
    · simp only [hc, if_true, Option.some_inj, tripleAt_eq_iff, true_and, forall_eq']
    · rw [if_neg hc]
      refine ⟨fun h => ?_, fun ⟨⟨h, _⟩, _⟩ => absurd h hc⟩
      split at h <;> cases h

theorem presentPriceAt_eq_some : presentPriceAt b k = some n ↔
    CellsFrom b [] k (priceBytes (some n)) ∧ n ≤ 16777215 := by
  have hprice := priceAt_eq_some (b := b) (k := k) (p := some n)
  rw [presentPriceAt, Option.join_eq_some_iff, hprice]
  simp [unreadPrice]

theorem sharesAt_eq_some : sharesAt b k = some n ↔ CellsFrom b [] k (tripleBytes n) ∧ 1 ≤ n ∧ n ≤ 9999999 := by
  have hmax : Config.maxShares = 9999999 := rfl
  unfold sharesAt
  rw [Option.ite_none_right_eq_some, Option.some_inj, hmax]
  have hcells : CellsFrom b [] k (tripleBytes n) ↔
      b.getD k 0 = byte (n / 65536) ∧ b.getD (k + 1) 0 = byte (n / 256) ∧ b.getD (k + 2) 0 = byte n := by
    simp [CellsFrom, tripleBytes]
  rw [hcells]
  refine ⟨fun ⟨hrange, hn⟩ => ?_, fun ⟨hbytes, hrange⟩ => ?_⟩
  · subst hn
    exact ⟨(tripleAt_eq_iff.1 rfl).1, hrange⟩
  · have hn := tripleAt_eq_iff.2 ⟨hbytes, by omega⟩
    exact ⟨by omega, hn⟩

/-! ## Symbols and texts -/

theorem of_cutAt {c : Byte} {t l r : Text} (h : cutAt c t = some (l, r)) : t = l ++ c :: r := by
  induction t generalizing l with
  | nil => cases h
  | cons a t ih =>
    rw [cutAt] at h
    split at h
    · next ha =>
      cases h
      rw [ha]
      rfl
    · cases hcut : cutAt c t with
      | none =>
        rw [hcut] at h
        cases h
      | some p =>
        rw [hcut] at h
        cases h
        rw [ih hcut]
        rfl

theorem isLetter_ne_blank {c : Byte} (h : isLetter c = true) : c ≠ blank := by
  rintro rfl
  exact absurd h (by decide)

/-- A symbol fits its field and has no blank (R11). -/
theorem of_symbolOk {t : Text} (h : symbolOk t = true) : t.length ≤ 7 ∧ ∀ c ∈ t, c ≠ blank := by
  unfold symbolOk at h
  cases hcut : cutAt (ch '.') t with
  | none =>
    rw [hcut] at h
    simp only [Bool.and_eq_true, decide_eq_true_iff, List.all_eq_true] at h
    obtain ⟨⟨-, hlen⟩, hletters⟩ := h
    exact ⟨by omega, fun c hc => isLetter_ne_blank (hletters c hc)⟩
  | some p =>
    obtain ⟨l, r⟩ := p
    rw [hcut] at h
    simp only [Bool.and_eq_true, decide_eq_true_iff, List.all_eq_true, beq_iff_eq] at h
    obtain ⟨⟨⟨⟨-, hlen⟩, hl⟩, hone⟩, hr⟩ := h
    rw [of_cutAt hcut]
    refine ⟨by simp only [List.length_append, List.length_cons]; omega, fun c hc => ?_⟩
    rcases List.mem_append.1 hc with hc | hc
    · exact isLetter_ne_blank (hl c hc)
    · rcases List.mem_cons.1 hc with rfl | hc
      · decide
      · exact isLetter_ne_blank (hr c hc)

theorem cellsFrom_take (h : k + w.length ≤ b.length) : CellsFrom b [] k w ↔ (b.drop k).take w.length = w := by
  rw [cellsFrom_iff]
  refine ⟨fun hcells => List.ext_getElem (by simp; omega) fun j hj hj' => ?_, fun htake j hj _ => ?_⟩
  · have hcell := hcells j hj' (List.not_mem_nil)
    rw [List.getD_eq_getElem _ _ (by omega), List.getD_eq_getElem _ _ hj'] at hcell
    rw [List.getElem_take, List.getElem_drop]
    exact hcell
  · have hj' : j < ((b.drop k).take w.length).length := by rw [htake]; exact hj
    rw [List.getD_eq_getElem _ _ (by omega), List.getD_eq_getElem _ _ hj]
    have hsame : ((b.drop k).take w.length)[j] = w[j] := by simp only [htake]
    rw [List.getElem_take, List.getElem_drop] at hsame
    exact hsame

theorem length_symbolBytes {s : Text} (h : s.length ≤ 7) : (symbolBytes s).length = 7 := length_leftJustify h

theorem symbolAt_eq_some {s : Text} (hb : k + 7 ≤ b.length) :
    symbolAt b k = some s ↔ CellsFrom b [] k (symbolBytes s) ∧ symbolOk s = true := by
  unfold symbolAt
  dsimp only
  rw [Option.ite_none_right_eq_some, Option.some_inj]
  have hlen : ((b.drop k).take 7).length = 7 := by simp; omega
  refine ⟨fun ⟨⟨hok, hblank⟩, hs⟩ => ?_, fun ⟨hcells, hok⟩ => ?_⟩
  · subst hs
    obtain ⟨hfit, -⟩ := of_symbolOk hok
    refine ⟨(cellsFrom_take (by rw [length_symbolBytes hfit]; exact hb)).2 ?_, hok⟩
    rw [length_symbolBytes hfit]
    generalize (b.drop k).take 7 = f at hlen hblank hok
    have hboth := List.takeWhile_append_dropWhile (p := (· ≠ blank)) (l := f)
    have hrest : f.dropWhile (· ≠ blank) = blanks (7 - (f.takeWhile (· ≠ blank)).length) := by
      refine List.eq_replicate_iff.2 ⟨?_, fun c hc => by simpa using List.all_eq_true.1 hblank c hc⟩
      have hsum := congrArg List.length hboth
      rw [List.length_append, hlen] at hsum
      omega
    conv_lhs => rw [← hboth, hrest]
    rfl
  · obtain ⟨hfit, hnone⟩ := of_symbolOk hok
    have htake := (cellsFrom_take (by rw [length_symbolBytes hfit]; exact hb)).1 hcells
    rw [length_symbolBytes hfit] at htake
    rw [htake]
    have hwhole : (symbolBytes s).takeWhile (· ≠ blank) = s ∧ ((symbolBytes s).dropWhile (· ≠ blank)).all (· = blank) := by
      unfold symbolBytes leftJustify
      rw [List.takeWhile_append_of_pos (by simpa using hnone), List.dropWhile_append_of_pos (by simpa using hnone)]
      cases 7 - s.length with
      | zero => simp [blanks]
      | succ m => simp [blanks, List.replicate_succ]
    exact ⟨⟨hwhole.1.symm ▸ hok, hwhole.2⟩, hwhole.1⟩

theorem textFrom_eq_some {t : Text} :
    textFrom b k = some t ↔ b.drop k = t ∧ ∀ c ∈ t, 0x20 ≤ c.toNat ∧ c.toNat ≤ 0x7E := by
  unfold textFrom
  rw [Option.ite_none_right_eq_some, Option.some_inj, and_comm]
  refine and_congr_right fun h => ?_
  rw [h, List.all_eq_true]
  simp [printable]

/-! ## Optional items and the presence byte -/

theorem optionalItem_eq_some {α : Type} {bit : Nat} {value : Option α} {o : Option α} :
    optionalItem b k bit value = some o ↔ (b.getD k 0).getLsbD bit = o.isSome ∧ ∀ a, o = some a → value = some a := by
  unfold optionalItem
  generalize (b.getD k 0).getLsbD bit = given
  cases given with
  | true =>
    cases o with
    | none => cases value <;> simp
    | some a => cases value <;> simp
  | false => cases o <;> simp

theorem testBit_bitsValue (l : List Bool) (i : Nat) : (bitsValue l).testBit i = l.getD i false := by
  induction l generalizing i with
  | nil => simp [bitsValue]
  | cons a l ih =>
    have hbit : bitsValue (a :: l) = Nat.bit a (bitsValue l) := by
      cases a <;> (simp [bitsValue, Nat.bit]; try omega)
    rw [hbit]
    cases i with
    | zero => rw [Nat.testBit_bit_zero]; rfl
    | succ i => rw [Nat.testBit_bit_succ, ih]; rfl

theorem bitsValue_lt (l : List Bool) : bitsValue l < 2 ^ l.length := by
  induction l with
  | nil => simp [bitsValue]
  | cons a l ih =>
    rw [List.length_cons, pow_succ, bitsValue]
    split <;> omega

/-- The presence byte of at most eight items: their bits, and none above them. -/
theorem eq_presence_iff {x : Byte} {items : List Bool} (h : items.length ≤ 8) :
    x = presence items false ↔ (∀ i < items.length, x.getLsbD i = items.getD i false) ∧ x.toNat < 2 ^ items.length := by
  have hvalue : (presence items false).toNat = bitsValue items := by
    have hlt := bitsValue_lt items
    have hpow : 2 ^ items.length ≤ 2 ^ 8 := Nat.pow_le_pow_right (by omega) h
    rw [presence, byte, BitVec.toNat_ofNat, if_neg (by decide), Nat.add_zero, Nat.mod_eq_of_lt (by omega)]
  have hbits (i : Nat) : (presence items false).getLsbD i = items.getD i false := by
    rw [← BitVec.testBit_toNat, hvalue, testBit_bitsValue]
  refine ⟨?_, fun ⟨hlow, hx⟩ => BitVec.eq_of_getLsbD_eq fun i _ => ?_⟩
  · rintro rfl
    exact ⟨fun i _ => hbits i, hvalue ▸ bitsValue_lt items⟩
  · rw [hbits]
    by_cases hi : i < items.length
    · exact hlow i hi
    · have hhigh : x.toNat < 2 ^ i := lt_of_lt_of_le hx (Nat.pow_le_pow_right (by omega) (by omega))
      rw [← BitVec.testBit_toNat, Nat.testBit_eq_false_of_lt hhigh, List.getD_eq_default _ _ (by omega)]

/-- The presence byte of an AMEND: five items, two bits that are clear, and the correction-print flag. -/
theorem eq_presence_top_iff {x : Byte} {a0 a1 a2 a3 a4 top : Bool} : x = presence [a0, a1, a2, a3, a4] top ↔
    x.getLsbD 0 = a0 ∧ x.getLsbD 1 = a1 ∧ x.getLsbD 2 = a2 ∧ x.getLsbD 3 = a3 ∧ x.getLsbD 4 = a4 ∧
      x.getLsbD 5 = false ∧ x.getLsbD 6 = false ∧ x.getLsbD 7 = top := by
  have hbits : ∀ a0 a1 a2 a3 a4 top : Bool,
      (presence [a0, a1, a2, a3, a4] top).getLsbD 0 = a0 ∧ (presence [a0, a1, a2, a3, a4] top).getLsbD 1 = a1 ∧
      (presence [a0, a1, a2, a3, a4] top).getLsbD 2 = a2 ∧ (presence [a0, a1, a2, a3, a4] top).getLsbD 3 = a3 ∧
      (presence [a0, a1, a2, a3, a4] top).getLsbD 4 = a4 ∧ (presence [a0, a1, a2, a3, a4] top).getLsbD 5 = false ∧
      (presence [a0, a1, a2, a3, a4] top).getLsbD 6 = false ∧ (presence [a0, a1, a2, a3, a4] top).getLsbD 7 = top := by
    decide
  obtain ⟨h0, h1, h2, h3, h4, h5, h6, h7⟩ := hbits a0 a1 a2 a3 a4 top
  refine ⟨fun h => by subst h; exact ⟨h0, h1, h2, h3, h4, h5, h6, h7⟩, fun ⟨k0, k1, k2, k3, k4, k5, k6, k7⟩ => ?_⟩
  refine BitVec.eq_of_getLsbD_eq fun i hi => ?_
  interval_cases i
  · rw [k0, h0]
  · rw [k1, h1]
  · rw [k2, h2]
  · rw [k3, h3]
  · rw [k4, h4]
  · rw [k5, h5]
  · rw [k6, h6]
  · rw [k7, h7]

/-! ## The order of the common checks (R168) -/

theorem checked_eq_ok {α : Type} {ok : Bool} {fields : Option α} {f : α} :
    checked ok fields = .ok f ↔ ok = true ∧ fields = some f := by
  unfold checked
  cases ok <;> cases fields <;> simp

end Sys2Proof.Machine
end


section
/-! PROOFS. Which bodies each reader accepts, and as which fields (O60). -/

namespace Sys2Proof.Machine

variable {b w : List Byte} {k n : Nat} {un un' : List Nat}

/-! ## Places that no check reads -/

theorem cellsFrom_congr (h : ∀ j < w.length, k + j ∈ un ↔ k + j ∈ un') : CellsFrom b un k w ↔ CellsFrom b un' k w := by
  rw [cellsFrom_iff, cellsFrom_iff]
  exact forall_congr' fun j => forall_congr' fun hj => by rw [h j hj]

theorem cellsFrom_of_unread (h : ∀ j < w.length, k + j ∈ un) : CellsFrom b un k w :=
  cellsFrom_iff.2 fun j hj hread => absurd (h j hj) hread

theorem cellsFrom_of_read (h : ∀ j < w.length, k + j ∉ un) : CellsFrom b un k w ↔ CellsFrom b [] k w :=
  cellsFrom_congr fun j hj => by simp [h j hj]

/-- The unread places of an optional item and of an optional price. -/
def unreadUnless {α : Type} (x : Option α) (l : List Nat) : List Nat := if x.isNone then l else []

def unreadOptional (p : Option Price) (k : Nat) : List Nat :=
  match p with
  | none => [k, k + 1, k + 2, k + 3]
  | some p => unreadPrice p k

theorem mem_unreadUnless {α : Type} {x : Option α} {l : List Nat} : k ∈ unreadUnless x l ↔ x = none ∧ k ∈ l := by
  unfold unreadUnless
  cases x <;> simp

theorem mem_unreadPrice {p : Price} : n ∈ unreadPrice p k ↔ p = none ∧ k + 1 ≤ n ∧ n ≤ k + 3 := by
  unfold unreadPrice
  split
  · next h =>
    simp only [h, List.mem_cons, List.not_mem_nil, or_false, true_and]
    omega
  · next h => simp [h]

theorem mem_unreadOptional {p : Option Price} (h : n ∈ unreadOptional p k) : k ≤ n ∧ n ≤ k + 3 := by
  cases p with
  | none =>
    simp only [unreadOptional, List.mem_cons, List.not_mem_nil, or_false] at h
    omega
  | some p =>
    obtain ⟨-, hlow, hhigh⟩ := mem_unreadPrice.1 h
    omega

/-- An optional item of fields: its bit tells whether it is given, and its cells are read when it is. -/
theorem optionalItem_iff {α : Type} {bit : Nat} {value : Option α} {o : Option α} {written : Option α → List Byte}
    {unread : Option α → List Nat} {inRange : α → Prop} (hnone : ∀ j < (written none).length, k + j ∈ unread none)
    (hsome : ∀ a, value = some a ↔ CellsFrom b (unread (some a)) k (written (some a)) ∧ inRange a) :
    optionalItem b n bit value = some o ↔ (b.getD n 0).getLsbD bit = o.isSome ∧ CellsFrom b (unread o) k (written o) ∧
      ∀ a, o = some a → inRange a := by
  rw [optionalItem_eq_some]
  refine and_congr_right fun _ => ?_
  cases o with
  | none => simp [cellsFrom_of_unread hnone]
  | some a => simp [hsome]

/-! ## LIST, DELIST, TRADE and TRADE-BLOCK -/

theorem readSlot_iff {i : Slot} : readSlot b = .ok i ↔ b = slotBody i := by
  rw [readSlot, checked_eq_ok, decide_eq_true_iff, slotAt_eq_some, body_iff]
  rfl

theorem readList_fields {f : ListFields} : readList b = .ok f ↔ b.length = 15 ∧ slotAt b 0 = some f.slot ∧
    symbolAt b 2 = some f.symbol ∧ idAt 16 b 10 = some f.group ∧ presentPriceAt b 11 = some f.close ∧
    byteAt b 9 = f.e ∧ 1 ≤ f.e ∧ f.e ≤ 8 := by
  obtain ⟨slot, symbol, e, group, close⟩ := f
  rw [readList, checked_eq_ok, decide_eq_true_iff]
  grind

theorem listBody_cells {f : ListFields} (h : symbolOk f.symbol = true) : b = listBody f ↔
    b.length = 15 ∧ CellsFrom b [] 0 (wordBytes f.slot.val) ∧ CellsFrom b [] 2 (symbolBytes f.symbol) ∧
      b.getD 9 0 = byte f.e ∧ CellsFrom b [] 10 [byte f.group.val] ∧ CellsFrom b [] 11 (priceBytes (some f.close)) := by
  have hlen := length_symbolBytes (of_symbolOk h).1
  rw [body_iff, listBody]
  simp only [cellsFrom_append, List.length_append, hlen]
  simp [CellsFrom, wordBytes, priceBytes, tripleBytes, and_assoc]

theorem readList_iff {f : ListFields} : readList b = .ok f ↔
    b = listBody f ∧ symbolOk f.symbol = true ∧ 1 ≤ f.e ∧ f.e ≤ 8 ∧ f.close ≤ 16777215 := by
  rw [readList_fields, slotAt_eq_some, idAt_eq_some (by decide), presentPriceAt_eq_some, byteAt_eq_iff]
  constructor
  · rintro ⟨hlen, hslot, hsymbol, hgroup, ⟨hclose, hrange⟩, ⟨he, -⟩, hlow, hhigh⟩
    obtain ⟨hcells, hok⟩ := (symbolAt_eq_some (by omega)).1 hsymbol
    exact ⟨(listBody_cells hok).2 ⟨hlen, hslot, hcells, he, hgroup, hclose⟩, hok, hlow, hhigh, hrange⟩
  · rintro ⟨hb, hok, hlow, hhigh, hrange⟩
    obtain ⟨hlen, hslot, hcells, he, hgroup, hclose⟩ := (listBody_cells hok).1 hb
    exact ⟨hlen, hslot, (symbolAt_eq_some (by omega)).2 ⟨hcells, hok⟩, hgroup, ⟨hclose, hrange⟩, ⟨he, by omega⟩, hlow,
      hhigh⟩

theorem tradeItemAt_fields {f : TradeItem} : tradeItemAt b k = some f ↔ slotAt b k = some f.slot ∧
    presentPriceAt b (k + 2) = some f.price ∧ sharesAt b (k + 6) = some f.shares ∧ byteAt b (k + 9) ≤ 3 ∧
    (b.getD (k + 9) 0).getLsbD 0 = f.onTape ∧ (b.getD (k + 9) 0).getLsbD 1 = f.late := by
  obtain ⟨slot, price, shares, onTape, late⟩ := f
  rw [tradeItemAt]
  grind

/-- The flags byte of a trade item is the presence byte of its two flags. -/
theorem eq_tradeFlags_iff {x : Byte} {onTape late : Bool} :
    x = byte ((if onTape then 1 else 0) + (if late then 2 else 0)) ↔
      x.toNat ≤ 3 ∧ x.getLsbD 0 = onTape ∧ x.getLsbD 1 = late := by
  have hsame : byte ((if onTape then 1 else 0) + (if late then 2 else 0)) = presence [onTape, late] false := by
    cases onTape <;> cases late <;> rfl
  rw [hsame, eq_presence_iff (by simp)]
  simp only [List.length_cons, List.length_nil]
  constructor
  · rintro ⟨hbits, hlt⟩
    exact ⟨by omega, hbits 0 (by omega), hbits 1 (by omega)⟩
  · rintro ⟨hle, h0, h1⟩
    refine ⟨fun i hi => ?_, by omega⟩
    interval_cases i
    · exact h0
    · exact h1

theorem tradeItemAt_iff {f : TradeItem} : tradeItemAt b k = some f ↔
    CellsFrom b [] k (tradeItemBody f) ∧ f.price ≤ 16777215 ∧ 1 ≤ f.shares ∧ f.shares ≤ 9999999 := by
  have hcells : CellsFrom b [] k (tradeItemBody f) ↔ CellsFrom b [] k (wordBytes f.slot.val) ∧
      CellsFrom b [] (k + 2) (priceBytes (some f.price)) ∧ CellsFrom b [] (k + 6) (tripleBytes f.shares) ∧
      b.getD (k + 9) 0 = byte ((if f.onTape then 1 else 0) + (if f.late then 2 else 0)) := by
    rw [tradeItemBody]
    simp only [cellsFrom_append]
    simp [CellsFrom, wordBytes, priceBytes, tripleBytes, and_assoc, Nat.add_assoc]
  rw [tradeItemAt_fields, hcells, slotAt_eq_some, presentPriceAt_eq_some, sharesAt_eq_some, eq_tradeFlags_iff]
  unfold byteAt
  tauto

theorem readTrade_iff {f : TradeItem} : readTrade b = .ok f ↔
    b = tradeItemBody f ∧ f.price ≤ 16777215 ∧ 1 ≤ f.shares ∧ f.shares ≤ 9999999 := by
  rw [readTrade, checked_eq_ok, decide_eq_true_iff, tradeItemAt_iff, body_iff, and_assoc]
  rfl

theorem length_tradeBlockBody (l : List TradeItem) : (tradeBlockBody l).length = 10 * l.length := by
  induction l with
  | nil => rfl
  | cons f l ih =>
    rw [tradeBlockBody, List.flatMap_cons, List.length_append]
    rw [tradeBlockBody] at ih
    rw [ih, List.length_cons]
    show 10 + _ = _
    omega

theorem tradeItems_succ {l : List TradeItem} : tradeItems b (n + 1) = some l ↔
    ∃ l0 f, l = l0 ++ [f] ∧ tradeItems b n = some l0 ∧ tradeItemAt b (10 * n) = some f := by
  rw [tradeItems]
  cases hl : tradeItems b n with
  | none => simp
  | some l0 =>
    cases hf : tradeItemAt b (10 * n) with
    | none => simp
    | some f => simp [eq_comm]

theorem tradeItems_iff {l : List TradeItem} : tradeItems b n = some l ↔ l.length = n ∧
    CellsFrom b [] 0 (tradeBlockBody l) ∧ ∀ f ∈ l, f.price ≤ 16777215 ∧ 1 ≤ f.shares ∧ f.shares ≤ 9999999 := by
  induction n generalizing l with
  | zero =>
    rw [tradeItems, Option.some_inj, List.length_eq_zero_iff]
    refine ⟨fun h => ?_, fun ⟨h, _⟩ => h.symm⟩
    subst h
    exact ⟨rfl, trivial, nofun⟩
  | succ n ih =>
    have hblock (l0 : List TradeItem) (f : TradeItem) : CellsFrom b [] 0 (tradeBlockBody (l0 ++ [f])) ↔
        CellsFrom b [] 0 (tradeBlockBody l0) ∧ CellsFrom b [] (10 * l0.length) (tradeItemBody f) := by
      rw [tradeBlockBody, List.flatMap_append, cellsFrom_append, ← tradeBlockBody, length_tradeBlockBody]
      simp
    rw [tradeItems_succ]
    constructor
    · rintro ⟨l0, f, rfl, hl, hf⟩
      obtain ⟨hlen, hcells, hrange⟩ := ih.1 hl
      obtain ⟨hitem, hf⟩ := tradeItemAt_iff.1 hf
      refine ⟨by simp [hlen], (hblock l0 f).2 ⟨hcells, hlen ▸ hitem⟩, fun g hg => ?_⟩
      rcases List.mem_append.1 hg with hg | hg
      · exact hrange g hg
      · exact List.mem_singleton.1 hg ▸ hf
    · rintro ⟨hlen, hcells, hrange⟩
      obtain ⟨l0, f, rfl⟩ := List.eq_nil_or_concat' l |>.resolve_left (by rintro rfl; simp at hlen)
      have hlen0 : l0.length = n := by simpa using hlen
      obtain ⟨hcells, hitem⟩ := (hblock l0 f).1 hcells
      exact ⟨l0, f, rfl, ih.2 ⟨hlen0, hcells, fun g hg => hrange g (by simp [hg])⟩,
        tradeItemAt_iff.2 ⟨hlen0 ▸ hitem, hrange f (by simp)⟩⟩

theorem readTradeBlock_iff {l : List TradeItem} : readTradeBlock b = .ok l ↔ b = tradeBlockBody l ∧ 1 ≤ l.length ∧
    l.length ≤ 16 ∧ ∀ f ∈ l, f.price ≤ 16777215 ∧ 1 ≤ f.shares ∧ f.shares ≤ 9999999 := by
  have hmax : Config.maxBlockItems = 16 := rfl
  rw [readTradeBlock, checked_eq_ok, tradeItems_iff, body_iff, length_tradeBlockBody, hmax]
  simp only [Bool.and_eq_true, decide_eq_true_iff]
  constructor
  · rintro ⟨⟨⟨hmod, hlow⟩, hhigh⟩, hlen, hcells, hrange⟩
    exact ⟨⟨by omega, hcells⟩, by omega, by omega, hrange⟩
  · rintro ⟨⟨hlen, hcells⟩, hlow, hhigh, hrange⟩
    exact ⟨⟨⟨by omega, by omega⟩, by omega⟩, by omega, hcells, hrange⟩

/-! ## QUOTE, SET-STATE, FETCH and AMEND -/

theorem readQuote_fields {f : QuoteFields} : readQuote b = .ok f ↔ b.length = 10 ∧ slotAt b 0 = some f.slot ∧
    priceAt b 2 = some f.bid ∧ priceAt b 6 = some f.ask := by
  obtain ⟨slot, bid, ask⟩ := f
  rw [readQuote, checked_eq_ok, decide_eq_true_iff]
  grind

theorem length_priceBytes (p : Price) : (priceBytes p).length = 4 := by cases p <;> rfl

theorem readQuote_iff {f : QuoteFields} : readQuote b = .ok f ↔
    (b.length = (quoteBody f).length ∧ ∀ k, k ∉ unreadPrice f.bid 2 ++ unreadPrice f.ask 6 → b[k]? = (quoteBody f)[k]?) ∧
      (∀ n, f.bid = some n → n ≤ 16777215) ∧ ∀ n, f.ask = some n → n ≤ 16777215 := by
  have hcells : (b.length = (quoteBody f).length ∧ CellsFrom b (unreadPrice f.bid 2 ++ unreadPrice f.ask 6) 0 (quoteBody f)) ↔
      b.length = 10 ∧ CellsFrom b [] 0 (wordBytes f.slot.val) ∧ CellsFrom b (unreadPrice f.bid 2) 2 (priceBytes f.bid) ∧
        CellsFrom b (unreadPrice f.ask 6) 6 (priceBytes f.ask) := by
    rw [quoteBody]
    simp only [cellsFrom_append, List.length_append, length_priceBytes, and_assoc]
    refine and_congr Iff.rfl (and_congr (cellsFrom_of_read fun j hj => ?_) (and_congr (cellsFrom_congr fun j hj => ?_)
      (cellsFrom_congr fun j hj => ?_)))
    all_goals
      simp only [wordBytes, length_priceBytes, List.length_cons, List.length_nil] at hj
      simp only [wordBytes, List.mem_append, mem_unreadPrice, List.length_cons, List.length_nil]
      grind
  rw [alike_iff, hcells, readQuote_fields, slotAt_eq_some, priceAt_eq_some, priceAt_eq_some]
  tauto

theorem readSetState_iff {f : Slot × StateWord} : readSetState b = .ok f ↔ b = setStateBody f := by
  have haction : readSetState b = .ok f ↔ b.length = 3 ∧ slotAt b 0 = some f.1 ∧ b.getD 2 0 = actionCode f.2 := by
    obtain ⟨slot, word⟩ := f
    have h1 : byteAt b 2 = 1 ↔ b.getD 2 0 = 1 := by rw [byteAt_eq_iff]; simp [byte]
    have h2 : byteAt b 2 = 2 ↔ b.getD 2 0 = 2 := by rw [byteAt_eq_iff]; simp [byte]
    rw [readSetState, checked_eq_ok, decide_eq_true_iff]
    simp only [h1, h2]
    generalize b.getD 2 0 = c
    cases word <;> simp only [actionCode] <;> grind
  rw [haction, slotAt_eq_some, body_iff, setStateBody, cellsFrom_append]
  simp [CellsFrom, wordBytes]

theorem readFetch_slot {i : Slot} {reserve : Bool} : readFetch b = .ok (.slot i, reserve) ↔
    b.length = 3 ∧ slotAt b 0 = some i ∧ flagAt b 2 = some reserve := by
  unfold readFetch
  split <;> rw [checked_eq_ok] <;> grind

theorem readFetch_symbol {s : Text} {reserve : Bool} : readFetch b = .ok (.symbol s, reserve) ↔
    b.length = 8 ∧ symbolAt b 0 = some s ∧ flagAt b 7 = some reserve := by
  unfold readFetch
  split <;> rw [checked_eq_ok] <;> grind

theorem readFetch_iff {f : FetchTarget × Bool} : readFetch b = .ok f ↔
    b = fetchBody f ∧ ∀ y, f.1 = .symbol y → symbolOk y = true := by
  obtain ⟨target, reserve⟩ := f
  cases target with
  | slot i =>
    rw [readFetch_slot, slotAt_eq_some, flagAt_eq_some, body_iff, fetchBody, cellsFrom_append]
    simp [wordBytes]
  | symbol s =>
    have hbody (h : symbolOk s = true) : b = fetchBody (.symbol s, reserve) ↔
        b.length = 8 ∧ CellsFrom b [] 0 (symbolBytes s) ∧ CellsFrom b [] 7 [flagByte reserve] := by
      rw [body_iff, fetchBody, cellsFrom_append, List.length_append, length_symbolBytes (of_symbolOk h).1]
      simp
    rw [readFetch_symbol, flagAt_eq_some]
    constructor
    · rintro ⟨hlen, hsymbol, hflag⟩
      obtain ⟨hcells, hok⟩ := (symbolAt_eq_some (by omega)).1 hsymbol
      exact ⟨(hbody hok).2 ⟨hlen, hcells, hflag⟩, fun y hy => by cases hy; exact hok⟩
    · rintro ⟨hb, hok⟩
      obtain ⟨hlen, hcells, hflag⟩ := (hbody (hok s rfl)).1 hb
      exact ⟨hlen, (symbolAt_eq_some (by omega)).2 ⟨hcells, hok s rfl⟩, hflag⟩

/-- The volume of an AMEND, where it is given. -/
def volumeAt (b : List Byte) (k : Nat) : Option Nat := if longAt b k ≤ Config.maxVolume then some (longAt b k) else none

theorem volumeAt_eq_some : volumeAt b k = some n ↔ CellsFrom b [] k (longBytes n) ∧ n ≤ 999999999 := by
  have hmax : Config.maxVolume = 999999999 := rfl
  have hcells : CellsFrom b [] k (longBytes n) ↔ b.getD k 0 = byte (n / 16777216) ∧ b.getD (k + 1) 0 = byte (n / 65536) ∧
      b.getD (k + 2) 0 = byte (n / 256) ∧ b.getD (k + 3) 0 = byte n := by
    simp [CellsFrom, longBytes]
  unfold volumeAt
  rw [Option.ite_none_right_eq_some, Option.some_inj, hmax, hcells]
  refine ⟨fun ⟨hrange, hn⟩ => ?_, fun ⟨hbytes, hrange⟩ => ?_⟩
  · subst hn
    exact ⟨(longAt_eq_iff.1 rfl).1, hrange⟩
  · have hn := longAt_eq_iff.2 ⟨hbytes, by omega⟩
    exact ⟨by omega, hn⟩

theorem readAmend_fields {f : AmendFields} : readAmend b = .ok f ↔ b.length = 23 ∧ slotAt b 0 = some f.slot ∧
    optionalItem b 2 0 (priceAt b 3) = some f.last ∧ optionalItem b 2 1 (priceAt b 7) = some f.high ∧
    optionalItem b 2 2 (priceAt b 11) = some f.low ∧ optionalItem b 2 3 (volumeAt b 15) = some f.volume ∧
    optionalItem b 2 4 (presentPriceAt b 19) = some f.close ∧ (b.getD 2 0).getLsbD 5 = false ∧
    (b.getD 2 0).getLsbD 6 = false ∧ (b.getD 2 0).getLsbD 7 = f.print := by
  obtain ⟨slot, print, last, high, low, volume, close⟩ := f
  rw [readAmend, checked_eq_ok, decide_eq_true_iff, ← volumeAt]
  generalize optionalItem b 2 3 (volumeAt b 15) = volumeItem
  grind

theorem length_optionalPrice (p : Option Price) : (optionalPrice p).length = 4 := by
  cases p with
  | none => rfl
  | some p => exact length_priceBytes p

theorem optionalPrice_iff {bit : Nat} {o : Option Price} : optionalItem b n bit (priceAt b k) = some o ↔
    (b.getD n 0).getLsbD bit = o.isSome ∧ CellsFrom b (unreadOptional o k) k (optionalPrice o) ∧
      ∀ p, o = some p → ∀ m, p = some m → m ≤ 16777215 := by
  refine optionalItem_iff (written := optionalPrice) (unread := fun o => unreadOptional o k) (fun j hj => ?_)
    fun p => priceAt_eq_some
  have hlen : j < 4 := by rwa [length_optionalPrice] at hj
  simp only [unreadOptional, List.mem_cons, List.not_mem_nil, or_false]
  omega

theorem amendVolume_iff {bit : Nat} {o : Option Nat} : optionalItem b n bit (volumeAt b 15) = some o ↔
    (b.getD n 0).getLsbD bit = o.isSome ∧ CellsFrom b (unreadUnless o [15, 16, 17, 18]) 15 (longBytes (o.getD 0)) ∧
      ∀ m, o = some m → m ≤ 999999999 := by
  refine optionalItem_iff (written := fun o => longBytes (o.getD 0)) (unread := fun o => unreadUnless o [15, 16, 17, 18])
    (fun j hj => ?_) fun m => volumeAt_eq_some
  have hlen : j < 4 := hj
  simp only [mem_unreadUnless, List.mem_cons, List.not_mem_nil, or_false, true_and]
  omega

theorem amendClose_iff {bit : Nat} {o : Option Nat} : optionalItem b n bit (presentPriceAt b 19) = some o ↔
    (b.getD n 0).getLsbD bit = o.isSome ∧
      CellsFrom b (unreadUnless o [19, 20, 21, 22]) 19 (optionalPrice (o.map some)) ∧ ∀ m, o = some m → m ≤ 16777215 := by
  refine optionalItem_iff (written := fun o => optionalPrice (o.map some))
    (unread := fun o => unreadUnless o [19, 20, 21, 22]) (fun j hj => ?_) fun m => presentPriceAt_eq_some
  have hlen : j < 4 := hj
  simp only [mem_unreadUnless, List.mem_cons, List.not_mem_nil, or_false, true_and]
  omega

/-- The places of an AMEND that no check reads. -/
def amendUnread (f : AmendFields) : List Nat :=
  unreadOptional f.last 3 ++ unreadOptional f.high 7 ++ unreadOptional f.low 11 ++
    unreadUnless f.volume [15, 16, 17, 18] ++ unreadUnless f.close [19, 20, 21, 22]

theorem amendBody_cells {f : AmendFields} :
    (b.length = (amendBody f).length ∧ CellsFrom b (amendUnread f) 0 (amendBody f)) ↔
      b.length = 23 ∧ CellsFrom b [] 0 (wordBytes f.slot.val) ∧
      b.getD 2 0 = presence [f.last.isSome, f.high.isSome, f.low.isSome, f.volume.isSome, f.close.isSome] f.print ∧
      CellsFrom b (unreadOptional f.last 3) 3 (optionalPrice f.last) ∧
      CellsFrom b (unreadOptional f.high 7) 7 (optionalPrice f.high) ∧
      CellsFrom b (unreadOptional f.low 11) 11 (optionalPrice f.low) ∧
      CellsFrom b (unreadUnless f.volume [15, 16, 17, 18]) 15 (longBytes (f.volume.getD 0)) ∧
      CellsFrom b (unreadUnless f.close [19, 20, 21, 22]) 19 (optionalPrice (f.close.map some)) := by
  have hunread (x : Nat) : x ∈ amendUnread f ↔
      (x ∈ unreadOptional f.last 3 ∧ 3 ≤ x ∧ x ≤ 6) ∨ (x ∈ unreadOptional f.high 7 ∧ 7 ≤ x ∧ x ≤ 10) ∨
      (x ∈ unreadOptional f.low 11 ∧ 11 ≤ x ∧ x ≤ 14) ∨ (x ∈ unreadUnless f.volume [15, 16, 17, 18] ∧ 15 ≤ x ∧ x ≤ 18) ∨
      (x ∈ unreadUnless f.close [19, 20, 21, 22] ∧ 19 ≤ x ∧ x ≤ 22) := by
    have hvolume (h : x ∈ unreadUnless f.volume [15, 16, 17, 18]) : 15 ≤ x ∧ x ≤ 18 := by
      simp only [mem_unreadUnless, List.mem_cons, List.not_mem_nil, or_false] at h
      omega
    have hclose (h : x ∈ unreadUnless f.close [19, 20, 21, 22]) : 19 ≤ x ∧ x ≤ 22 := by
      simp only [mem_unreadUnless, List.mem_cons, List.not_mem_nil, or_false] at h
      omega
    rw [and_iff_left_of_imp mem_unreadOptional, and_iff_left_of_imp mem_unreadOptional,
      and_iff_left_of_imp mem_unreadOptional, and_iff_left_of_imp hvolume, and_iff_left_of_imp hclose]
    simp only [amendUnread, List.mem_append, or_assoc]
  have hone (x : Byte) : CellsFrom b [] 2 [x] ↔ b.getD 2 0 = x := by simp [CellsFrom]
  rw [amendBody]
  simp only [cellsFrom_append, List.length_append, length_optionalPrice, and_assoc, ← hone]
  refine and_congr Iff.rfl (and_congr (cellsFrom_of_read fun j hj => ?_) (and_congr (cellsFrom_of_read fun j hj => ?_)
    (and_congr (cellsFrom_congr fun j hj => ?_) (and_congr (cellsFrom_congr fun j hj => ?_)
    (and_congr (cellsFrom_congr fun j hj => ?_) (and_congr (cellsFrom_congr fun j hj => ?_)
    (cellsFrom_congr fun j hj => ?_)))))))
  all_goals
    simp only [wordBytes, longBytes, length_optionalPrice, List.length_cons, List.length_nil] at hj
    simp only [wordBytes, longBytes, List.length_cons, List.length_nil, hunread]
    grind

theorem readAmend_iff {f : AmendFields} : readAmend b = .ok f ↔
    (b.length = (amendBody f).length ∧ ∀ k, k ∉ amendUnread f → b[k]? = (amendBody f)[k]?) ∧
      (∀ p, f.last = some p ∨ f.high = some p ∨ f.low = some p → ∀ n, p = some n → n ≤ 16777215) ∧
      (∀ n, f.close = some n → n ≤ 16777215) ∧ ∀ n, f.volume = some n → n ≤ 999999999 := by
  rw [alike_iff, amendBody_cells, readAmend_fields, slotAt_eq_some, optionalPrice_iff, optionalPrice_iff,
    optionalPrice_iff, amendVolume_iff, amendClose_iff, eq_presence_top_iff]
  constructor
  · rintro ⟨hlen, hslot, ⟨h0, hlast, hlast'⟩, ⟨h1, hhigh, hhigh'⟩, ⟨h2, hlow, hlow'⟩, ⟨h3, hvolume, hvolume'⟩,
      ⟨h4, hclose, hclose'⟩, h5, h6, h7⟩
    refine ⟨⟨hlen, hslot, ⟨h0, h1, h2, h3, h4, h5, h6, h7⟩, hlast, hhigh, hlow, hvolume, hclose⟩, fun p hp => ?_, hclose',
      hvolume'⟩
    rcases hp with hp | hp | hp
    · exact hlast' p hp
    · exact hhigh' p hp
    · exact hlow' p hp
  · rintro ⟨⟨hlen, hslot, ⟨h0, h1, h2, h3, h4, h5, h6, h7⟩, hlast, hhigh, hlow, hvolume, hclose⟩, hprice, hclose', hvolume'⟩
    exact ⟨hlen, hslot, ⟨h0, hlast, fun p hp => hprice p (.inl hp)⟩, ⟨h1, hhigh, fun p hp => hprice p (.inr (.inl hp))⟩,
      ⟨h2, hlow, fun p hp => hprice p (.inr (.inr hp))⟩, ⟨h3, hvolume, hvolume'⟩, ⟨h4, hclose, hclose'⟩, h5, h6, h7⟩

end Sys2Proof.Machine
end


section
/-! PROOFS. The readers of the ribbon, board and terminal requests, and O60. -/

namespace Sys2Proof.Machine

variable {b w : List Byte} {k n : Nat}

/-- A cell behind others, alone. -/
theorem cellsFrom_one {x : Byte} : CellsFrom b [] k [x] ↔ b.getD k 0 = x := by simp [CellsFrom]

/-! ## The tape and the ribbons -/

theorem readNothing_iff : readNothing b = .ok () ↔ b = [] := by
  rw [readNothing, checked_eq_ok, decide_eq_true_iff, List.length_eq_zero_iff]
  exact and_iff_left rfl

theorem readBulletin_iff {f : Byte × Text} : readBulletin b = .ok f ↔ b = bulletinBody f ∧ 1 ≤ f.1.toNat ∧ f.1.toNat ≤ 15 ∧
    1 ≤ f.2.length ∧ f.2.length ≤ 60 ∧ ∀ c ∈ f.2, 0x20 ≤ c.toNat ∧ c.toNat ≤ 0x7E := by
  obtain ⟨mask, text⟩ := f
  have hfields : readBulletin b = .ok (mask, text) ↔ (2 ≤ b.length ∧ b.length ≤ 61) ∧ textFrom b 1 = some text ∧
      b.getD 0 0 = mask ∧ 1 ≤ mask.toNat ∧ mask.toNat ≤ 15 := by
    rw [readBulletin, checked_eq_ok, Bool.and_eq_true, decide_eq_true_iff, decide_eq_true_iff]
    unfold byteAt
    grind
  rw [hfields, textFrom_eq_some, bulletinBody]
  cases b with
  | nil => simp
  | cons x b =>
    simp only [List.length_cons, List.drop_succ_cons, List.drop_zero, List.getD_cons_zero, List.cons.injEq]
    grind

theorem readRibbonSetup_fields {f : RibbonFields} : readRibbonSetup b = .ok f ↔ b.length = 9 ∧ idAt 4 b 0 = some f.ribbon ∧
    optionalItem b 1 0 (some (BitVec.ofNat 16 (wordAt b 2))) = some f.groupMask ∧
    optionalItem b 1 1 (idAt 4 b 4) = some f.lockGroup ∧ optionalItem b 1 2 (some (wordAt b 5)) = some f.normalRate ∧
    optionalItem b 1 3 (some (wordAt b 7)) = some f.fastRate ∧ byteAt b 1 ≤ 15 := by
  obtain ⟨ribbon, mask, lock, normal, fast⟩ := f
  rw [readRibbonSetup, checked_eq_ok, decide_eq_true_iff]
  grind

theorem wordAt_eq_toNat_iff {x : Word} : BitVec.ofNat 16 (wordAt b k) = x ↔ CellsFrom b [] k (wordBytes x.toNat) := by
  have hword : wordAt b k < 65536 := by
    have h0 := getD_toNat_lt b k
    have h1 := getD_toNat_lt b (k + 1)
    unfold wordAt byteAt
    omega
  rw [← BitVec.toNat_inj, BitVec.toNat_ofNat, Nat.mod_eq_of_lt hword, wordAt_eq_iff, and_iff_left (by have := x.isLt; omega)]
  simp [CellsFrom, wordBytes]

theorem wordValue_iff : (some (wordAt b k) : Option Nat) = some n ↔ CellsFrom b [] k (wordBytes n) ∧ n ≤ 65535 := by
  rw [Option.some_inj, wordAt_eq_iff]
  simp [CellsFrom, wordBytes]

theorem rateItem_iff {bit at' : Nat} {o : Option Nat} : optionalItem b n bit (some (wordAt b at')) = some o ↔
    (b.getD n 0).getLsbD bit = o.isSome ∧ CellsFrom b (unreadUnless o [at', at' + 1]) at' (wordBytes (o.getD 0)) ∧
      ∀ m, o = some m → m ≤ 65535 := by
  refine optionalItem_iff (written := fun o => wordBytes (o.getD 0)) (unread := fun o => unreadUnless o [at', at' + 1])
    (fun j hj => ?_) fun m => wordValue_iff
  have hlen : j < 2 := hj
  simp only [mem_unreadUnless, List.mem_cons, List.not_mem_nil, or_false, true_and]
  omega

theorem maskItem_iff {bit at' : Nat} {o : Option Word} :
    optionalItem b n bit (some (BitVec.ofNat 16 (wordAt b at'))) = some o ↔
      (b.getD n 0).getLsbD bit = o.isSome ∧ CellsFrom b (unreadUnless o [at', at' + 1]) at' (wordBytes (o.getD 0).toNat) := by
  have hitem := optionalItem_iff (b := b) (n := n) (k := at') (bit := bit) (o := o)
    (value := some (BitVec.ofNat 16 (wordAt b at'))) (written := fun o => wordBytes (o.getD 0).toNat)
    (unread := fun o => unreadUnless o [at', at' + 1]) (inRange := fun _ => True) (fun j hj => ?_) fun m => ?_
  · simpa using hitem
  · have hlen : j < 2 := hj
    simp only [mem_unreadUnless, List.mem_cons, List.not_mem_nil, or_false, true_and]
    omega
  · rw [Option.some_inj, wordAt_eq_toNat_iff]
    exact (and_iff_left trivial).symm

/-- An item of one cell. -/
theorem cellItem_iff {α : Type} {bit at' : Nat} {value : Option α} {o : Option α} {written : Option α → Byte}
    {inRange : α → Prop} (hsome : ∀ a, value = some a ↔ b.getD at' 0 = written (some a) ∧ inRange a) :
    optionalItem b n bit value = some o ↔ (b.getD n 0).getLsbD bit = o.isSome ∧
      CellsFrom b (unreadUnless o [at']) at' [written o] ∧ ∀ a, o = some a → inRange a := by
  refine optionalItem_iff (written := fun o => [written o]) (unread := fun o => unreadUnless o [at']) (fun j hj => ?_)
    fun a => ?_
  · have hlen : j < 1 := hj
    simp only [mem_unreadUnless, List.mem_cons, List.not_mem_nil, or_false, true_and]
    omega
  · rw [hsome]
    exact and_congr_left' cellsFrom_one.symm

theorem eq_presence_three {x : Byte} {a0 a1 a2 : Bool} : x = presence [a0, a1, a2] false ↔
    (x.getLsbD 0 = a0 ∧ x.getLsbD 1 = a1 ∧ x.getLsbD 2 = a2) ∧ x.toNat ≤ 7 := by
  rw [eq_presence_iff (by simp)]
  refine and_congr ⟨fun h => ⟨h 0 (by simp), h 1 (by simp), h 2 (by simp)⟩, fun ⟨h0, h1, h2⟩ i hi => ?_⟩
    (by simp only [List.length_cons, List.length_nil]; omega)
  have hlt : i < 3 := hi
  interval_cases i
  · exact h0
  · exact h1
  · exact h2

theorem eq_presence_four {x : Byte} {a0 a1 a2 a3 : Bool} : x = presence [a0, a1, a2, a3] false ↔
    (x.getLsbD 0 = a0 ∧ x.getLsbD 1 = a1 ∧ x.getLsbD 2 = a2 ∧ x.getLsbD 3 = a3) ∧ x.toNat ≤ 15 := by
  rw [eq_presence_iff (by simp)]
  refine and_congr ⟨fun h => ⟨h 0 (by simp), h 1 (by simp), h 2 (by simp), h 3 (by simp)⟩,
    fun ⟨h0, h1, h2, h3⟩ i hi => ?_⟩ (by simp only [List.length_cons, List.length_nil]; omega)
  have hlt : i < 4 := hi
  interval_cases i
  · exact h0
  · exact h1
  · exact h2
  · exact h3

theorem eq_presence_five {x : Byte} {a0 a1 a2 a3 a4 : Bool} : x = presence [a0, a1, a2, a3, a4] false ↔
    (x.getLsbD 0 = a0 ∧ x.getLsbD 1 = a1 ∧ x.getLsbD 2 = a2 ∧ x.getLsbD 3 = a3 ∧ x.getLsbD 4 = a4) ∧ x.toNat ≤ 31 := by
  rw [eq_presence_iff (by simp)]
  refine and_congr ⟨fun h => ⟨h 0 (by simp), h 1 (by simp), h 2 (by simp), h 3 (by simp), h 4 (by simp)⟩,
    fun ⟨h0, h1, h2, h3, h4⟩ i hi => ?_⟩ (by simp only [List.length_cons, List.length_nil]; omega)
  have hlt : i < 5 := hi
  interval_cases i
  · exact h0
  · exact h1
  · exact h2
  · exact h3
  · exact h4

/-- The places of a RIBBON-SETUP that no check reads. -/
def ribbonUnread (f : RibbonFields) : List Nat :=
  unreadUnless f.groupMask [2, 3] ++ unreadUnless f.lockGroup [4] ++ unreadUnless f.normalRate [5, 6] ++
    unreadUnless f.fastRate [7, 8]

theorem ribbonSetupBody_cells {f : RibbonFields} :
    (b.length = (ribbonSetupBody f).length ∧ CellsFrom b (ribbonUnread f) 0 (ribbonSetupBody f)) ↔
      b.length = 9 ∧ b.getD 0 0 = byte f.ribbon.val ∧
      b.getD 1 0 = presence [f.groupMask.isSome, f.lockGroup.isSome, f.normalRate.isSome, f.fastRate.isSome] false ∧
      CellsFrom b (unreadUnless f.groupMask [2, 3]) 2 (wordBytes (f.groupMask.getD 0).toNat) ∧
      CellsFrom b (unreadUnless f.lockGroup [4]) 4 [byte (f.lockGroup.getD 0).val] ∧
      CellsFrom b (unreadUnless f.normalRate [5, 6]) 5 (wordBytes (f.normalRate.getD 0)) ∧
      CellsFrom b (unreadUnless f.fastRate [7, 8]) 7 (wordBytes (f.fastRate.getD 0)) := by
  rw [ribbonSetupBody, ← List.singleton_append, ← cellsFrom_one, ← cellsFrom_one]
  simp only [cellsFrom_append, List.length_append, and_assoc]
  refine and_congr Iff.rfl (and_congr (cellsFrom_of_read fun j hj => ?_) (and_congr (cellsFrom_of_read fun j hj => ?_)
    (and_congr (cellsFrom_congr fun j hj => ?_) (and_congr (cellsFrom_congr fun j hj => ?_)
    (and_congr (cellsFrom_congr fun j hj => ?_) (cellsFrom_congr fun j hj => ?_))))))
  all_goals
    simp only [wordBytes, List.length_cons, List.length_nil] at hj
    simp only [wordBytes, List.length_cons, List.length_nil, ribbonUnread, List.mem_append, mem_unreadUnless, List.mem_cons,
      List.not_mem_nil, or_false]
    grind

theorem readRibbonSetup_iff {f : RibbonFields} : readRibbonSetup b = .ok f ↔
    (b.length = (ribbonSetupBody f).length ∧ ∀ k, k ∉ ribbonUnread f → b[k]? = (ribbonSetupBody f)[k]?) ∧
      ∀ n, f.normalRate = some n ∨ f.fastRate = some n → n ≤ 65535 := by
  have hlock := cellItem_iff (b := b) (n := 1) (bit := 1) (at' := 4) (value := idAt 4 b 4) (o := f.lockGroup)
    (written := fun o => byte (o.getD 0).val) (inRange := fun _ => True)
    fun a => by rw [idAt_eq_some (by decide), cellsFrom_one]; exact (and_iff_left trivial).symm
  rw [alike_iff, ribbonSetupBody_cells, readRibbonSetup_fields, idAt_eq_some (by decide), cellsFrom_one, maskItem_iff, hlock,
    rateItem_iff, rateItem_iff, eq_presence_four]
  unfold byteAt
  constructor
  · rintro ⟨hlen, hribbon, ⟨h0, hmask⟩, ⟨h1, hcell, -⟩, ⟨h2, hnormal, hnormal'⟩, ⟨h3, hfast, hfast'⟩, htop⟩
    exact ⟨⟨hlen, hribbon, ⟨⟨h0, h1, h2, h3⟩, htop⟩, hmask, hcell, hnormal, hfast⟩,
      fun n hn => hn.elim (hnormal' n) (hfast' n)⟩
  · rintro ⟨⟨hlen, hribbon, ⟨⟨h0, h1, h2, h3⟩, htop⟩, hmask, hcell, hnormal, hfast⟩, hrates⟩
    exact ⟨hlen, hribbon, ⟨h0, hmask⟩, ⟨h1, hcell, fun _ _ => trivial⟩, ⟨h2, hnormal, fun n hn => hrates n (.inl hn)⟩,
      ⟨h3, hfast, fun n hn => hrates n (.inr hn)⟩, htop⟩

theorem readRibbon_iff {r : RibbonNo} : readRibbon b = .ok r ↔ b = [byte r.val] := by
  rw [readRibbon, checked_eq_ok, decide_eq_true_iff, idAt_eq_some (by decide), body_iff]
  rfl

theorem readRibbonStop_iff {f : RibbonNo × StopMode} : readRibbonStop b = .ok f ↔ b = ribbonStopBody f := by
  have hmode : readRibbonStop b = .ok f ↔ b.length = 2 ∧ idAt 4 b 0 = some f.1 ∧ b.getD 1 0 = modeCode f.2 := by
    obtain ⟨r, m⟩ := f
    have h1 : byteAt b 1 = 1 ↔ b.getD 1 0 = 1 := by rw [byteAt_eq_iff]; simp [byte]
    have h2 : byteAt b 1 = 2 ↔ b.getD 1 0 = 2 := by rw [byteAt_eq_iff]; simp [byte]
    rw [readRibbonStop, checked_eq_ok, decide_eq_true_iff]
    simp only [h1, h2]
    generalize b.getD 1 0 = c
    cases m <;> simp only [modeCode] <;> grind
  rw [hmode, idAt_eq_some (by decide), body_iff, ribbonStopBody]
  simp [CellsFrom]

theorem readAlign_iff {g : Fin 4} : readAlign b = .ok g ↔ b = [byte g.val] ∧ g ≠ 0 := by
  have hfields : readAlign b = .ok g ↔ b.length = 1 ∧ idAt 4 b 0 = some g ∧ g ≠ 0 := by
    rw [readAlign, checked_eq_ok, decide_eq_true_iff]
    grind
  rw [hfields, idAt_eq_some (by decide), body_iff, and_assoc]
  rfl

/-! ## The board -/

theorem readSegmentSetup_fields {f : SegmentFields} : readSegmentSetup b = .ok f ↔ b.length = 7 ∧
    idAt 8 b 0 = some f.segment ∧ optionalItem b 1 0 (some (byteAt b 2)) = some f.stepPeriod ∧
    optionalItem b 1 1 (some (byteAt b 3)) = some f.settleTime ∧ optionalItem b 1 2 (some (byteAt b 4)) = some f.motionLimit ∧
    optionalItem b 1 3 (some (byteAt b 5)) = some f.hold ∧ optionalItem b 1 4 (flagAt b 6) = some f.enable ∧
    byteAt b 1 ≤ 31 := by
  obtain ⟨g, step, settle, limit, hold, enable⟩ := f
  rw [readSegmentSetup, checked_eq_ok, decide_eq_true_iff]
  grind

theorem byteItem_iff {bit at' : Nat} {o : Option Nat} : optionalItem b n bit (some (byteAt b at')) = some o ↔
    (b.getD n 0).getLsbD bit = o.isSome ∧ CellsFrom b (unreadUnless o [at']) at' [byte (o.getD 0)] ∧
      ∀ m, o = some m → m ≤ 255 :=
  cellItem_iff (written := fun o => byte (o.getD 0)) fun m => by rw [Option.some_inj, byteAt_eq_iff]; rfl

theorem flagItem_iff {bit at' : Nat} {o : Option Bool} : optionalItem b n bit (flagAt b at') = some o ↔
    (b.getD n 0).getLsbD bit = o.isSome ∧ CellsFrom b (unreadUnless o [at']) at' [flagByte (o.getD false)] := by
  have hitem := cellItem_iff (b := b) (n := n) (bit := bit) (at' := at') (value := flagAt b at') (o := o)
    (written := fun o => flagByte (o.getD false)) (inRange := fun _ => True)
    fun a => by rw [flagAt_eq_some, cellsFrom_one]; exact (and_iff_left trivial).symm
  simpa using hitem

/-- The places of a SEGMENT-SETUP that no check reads. -/
def segmentUnread (f : SegmentFields) : List Nat :=
  unreadUnless f.stepPeriod [2] ++ unreadUnless f.settleTime [3] ++ unreadUnless f.motionLimit [4] ++
    unreadUnless f.hold [5] ++ unreadUnless f.enable [6]

theorem segmentSetupBody_cells {f : SegmentFields} :
    (b.length = (segmentSetupBody f).length ∧ CellsFrom b (segmentUnread f) 0 (segmentSetupBody f)) ↔
      b.length = 7 ∧ b.getD 0 0 = byte f.segment.val ∧
      b.getD 1 0 = presence [f.stepPeriod.isSome, f.settleTime.isSome, f.motionLimit.isSome, f.hold.isSome,
        f.enable.isSome] false ∧
      CellsFrom b (unreadUnless f.stepPeriod [2]) 2 [byte (f.stepPeriod.getD 0)] ∧
      CellsFrom b (unreadUnless f.settleTime [3]) 3 [byte (f.settleTime.getD 0)] ∧
      CellsFrom b (unreadUnless f.motionLimit [4]) 4 [byte (f.motionLimit.getD 0)] ∧
      CellsFrom b (unreadUnless f.hold [5]) 5 [byte (f.hold.getD 0)] ∧
      CellsFrom b (unreadUnless f.enable [6]) 6 [flagByte (f.enable.getD false)] := by
  have hunread (x : Nat) : x ∈ segmentUnread f ↔ (f.stepPeriod = none ∧ x = 2) ∨ (f.settleTime = none ∧ x = 3) ∨
      (f.motionLimit = none ∧ x = 4) ∨ (f.hold = none ∧ x = 5) ∨ (f.enable = none ∧ x = 6) := by
    simp only [segmentUnread, List.mem_append, mem_unreadUnless, List.mem_cons, List.not_mem_nil, or_false, or_assoc]
  rw [segmentSetupBody]
  simp only [CellsFrom, hunread, mem_unreadUnless, List.mem_cons, List.not_mem_nil, or_false]
  simp

theorem readSegmentSetup_iff {f : SegmentFields} : readSegmentSetup b = .ok f ↔
    (b.length = (segmentSetupBody f).length ∧ ∀ k, k ∉ segmentUnread f → b[k]? = (segmentSetupBody f)[k]?) ∧
      ∀ n, f.stepPeriod = some n ∨ f.settleTime = some n ∨ f.motionLimit = some n ∨ f.hold = some n → n ≤ 255 := by
  rw [alike_iff, segmentSetupBody_cells, readSegmentSetup_fields, idAt_eq_some (by decide), cellsFrom_one, byteItem_iff,
    byteItem_iff, byteItem_iff, byteItem_iff, flagItem_iff, eq_presence_five]
  unfold byteAt
  constructor
  · rintro ⟨hlen, hsegment, ⟨h0, hstep, hstep'⟩, ⟨h1, hsettle, hsettle'⟩, ⟨h2, hlimit, hlimit'⟩, ⟨h3, hhold, hhold'⟩,
      ⟨h4, henable⟩, htop⟩
    exact ⟨⟨hlen, hsegment, ⟨⟨h0, h1, h2, h3, h4⟩, htop⟩, hstep, hsettle, hlimit, hhold, henable⟩, fun n hn =>
      hn.elim (hstep' n) fun hn => hn.elim (hsettle' n) fun hn => hn.elim (hlimit' n) (hhold' n)⟩
  · rintro ⟨⟨hlen, hsegment, ⟨⟨h0, h1, h2, h3, h4⟩, htop⟩, hstep, hsettle, hlimit, hhold, henable⟩, hrange⟩
    exact ⟨hlen, hsegment, ⟨h0, hstep, fun n hn => hrange n (.inl hn)⟩, ⟨h1, hsettle, fun n hn => hrange n (.inr (.inl hn))⟩,
      ⟨h2, hlimit, fun n hn => hrange n (.inr (.inr (.inl hn)))⟩,
      ⟨h3, hhold, fun n hn => hrange n (.inr (.inr (.inr hn)))⟩, ⟨h4, henable⟩, htop⟩

theorem readBind_iff {f : RowNo × Slot × LayoutNo} : readBind b = .ok f ↔ b = bindBody f := by
  have hfields : readBind b = .ok f ↔
      b.length = 4 ∧ idAt 256 b 0 = some f.1 ∧ slotAt b 1 = some f.2.1 ∧ idAt 8 b 3 = some f.2.2 := by
    obtain ⟨r, i, l⟩ := f
    rw [readBind, checked_eq_ok, decide_eq_true_iff]
    grind
  rw [hfields, idAt_eq_some le_rfl, slotAt_eq_some, idAt_eq_some (by decide), body_iff, bindBody]
  simp [CellsFrom, wordBytes, and_assoc]

theorem readRow_iff {r : RowNo} : readRow b = .ok r ↔ b = [byte r.val] := by
  rw [readRow, checked_eq_ok, decide_eq_true_iff, idAt_eq_some le_rfl, body_iff]
  rfl

theorem readExercise_iff {f : SegNo × Word} : readExercise b = .ok f ↔ b = exerciseBody f := by
  have hfields : readExercise b = .ok f ↔ b.length = 3 ∧ idAt 8 b 0 = some f.1 ∧ BitVec.ofNat 16 (wordAt b 1) = f.2 := by
    obtain ⟨g, seed⟩ := f
    rw [readExercise, checked_eq_ok, decide_eq_true_iff]
    grind
  rw [hfields, idAt_eq_some (by decide), wordAt_eq_toNat_iff, body_iff, exerciseBody]
  simp [CellsFrom, wordBytes]

end Sys2Proof.Machine
end


section
/-! PROOFS. The readers of LAYOUT, ROW-SETUP and the terminal requests, and O60. -/

namespace Sys2Proof.Machine

variable {b w : List Byte} {k n : Nat}

/-! ## LAYOUT and ROW-SETUP -/

theorem fieldKindOf_eq_some {kind : FieldKind} : fieldKindOf (byteAt b k) = some kind ↔ b.getD k 0 = fieldKindCode kind := by
  unfold byteAt
  generalize b.getD k 0 = c
  have hcode : ∀ c : Byte, ∀ kind, fieldKindOf c.toNat = some kind ↔ c = fieldKindCode kind := by
    intro c kind
    constructor
    · intro h
      unfold fieldKindOf at h
      refine BitVec.eq_of_toNat_eq ?_
      split at h <;> cases h <;> assumption
    · rintro rfl
      cases kind <;> rfl
  exact hcode c kind

/-- The cells of one field of a LAYOUT. -/
def fieldBytes (x : Field) : List Byte := [fieldKindCode x.kind, byte x.start, byte x.width]

theorem layoutFieldAt_iff {x : Field} : layoutFieldAt b k = some x ↔
    CellsFrom b [] k (fieldBytes x) ∧ 1 ≤ x.width ∧ x.start + x.width ≤ 32 := by
  obtain ⟨kind, start, width⟩ := x
  have hcells : Config.rowCells = 32 := rfl
  have hfields : layoutFieldAt b k = some ⟨kind, start, width⟩ ↔ fieldKindOf (byteAt b k) = some kind ∧
      byteAt b (k + 1) = start ∧ byteAt b (k + 2) = width ∧ start ≤ 31 ∧ 1 ≤ width ∧ width ≤ 32 ∧ start + width ≤ 32 := by
    rw [layoutFieldAt, hcells]
    grind
  rw [hfields, fieldKindOf_eq_some, byteAt_eq_iff, byteAt_eq_iff]
  simp only [CellsFrom, fieldBytes, List.not_mem_nil, not_false_eq_true, true_imp_iff, and_true, Nat.add_assoc,
    Nat.reduceAdd]
  constructor
  · rintro ⟨hkind, ⟨hstart, -⟩, ⟨hwidth, -⟩, -, hlow, -, hsum⟩
    exact ⟨⟨hkind, hstart, hwidth⟩, hlow, hsum⟩
  · rintro ⟨⟨hkind, hstart, hwidth⟩, hlow, hsum⟩
    exact ⟨hkind, ⟨hstart, by omega⟩, ⟨hwidth, by omega⟩, by omega, hlow, by omega, hsum⟩

theorem length_flatMap_fieldBytes (l : List Field) : (l.flatMap fieldBytes).length = 3 * l.length := by
  induction l with
  | nil => rfl
  | cons x l ih =>
    rw [List.flatMap_cons, List.length_append, ih, List.length_cons]
    show 3 + _ = _
    omega

theorem layoutFields_succ {l : List Field} : layoutFields b (n + 1) = some l ↔
    ∃ l0 x, l = l0 ++ [x] ∧ layoutFields b n = some l0 ∧ layoutFieldAt b (1 + 3 * n) = some x := by
  rw [layoutFields]
  cases hl : layoutFields b n with
  | none => simp
  | some l0 =>
    cases hx : layoutFieldAt b (1 + 3 * n) with
    | none => simp
    | some x => simp [eq_comm]

theorem layoutFields_iff {l : List Field} : layoutFields b n = some l ↔ l.length = n ∧
    CellsFrom b [] 1 (l.flatMap fieldBytes) ∧ ∀ x ∈ l, 1 ≤ x.width ∧ x.start + x.width ≤ 32 := by
  induction n generalizing l with
  | zero =>
    rw [layoutFields, Option.some_inj, List.length_eq_zero_iff]
    refine ⟨fun h => ?_, fun ⟨h, _⟩ => h.symm⟩
    subst h
    exact ⟨rfl, trivial, nofun⟩
  | succ n ih =>
    have hlast (l0 : List Field) (x : Field) : CellsFrom b [] 1 ((l0 ++ [x]).flatMap fieldBytes) ↔
        CellsFrom b [] 1 (l0.flatMap fieldBytes) ∧ CellsFrom b [] (1 + 3 * l0.length) (fieldBytes x) := by
      rw [List.flatMap_append, cellsFrom_append, length_flatMap_fieldBytes]
      simp
    rw [layoutFields_succ]
    constructor
    · rintro ⟨l0, x, rfl, hl, hx⟩
      obtain ⟨hlen, hcells, hrange⟩ := ih.1 hl
      obtain ⟨hfield, hx⟩ := layoutFieldAt_iff.1 hx
      refine ⟨by simp [hlen], (hlast l0 x).2 ⟨hcells, hlen ▸ hfield⟩, fun y hy => ?_⟩
      rcases List.mem_append.1 hy with hy | hy
      · exact hrange y hy
      · exact List.mem_singleton.1 hy ▸ hx
    · rintro ⟨hlen, hcells, hrange⟩
      obtain ⟨l0, x, rfl⟩ := List.eq_nil_or_concat' l |>.resolve_left (by rintro rfl; simp at hlen)
      have hlen0 : l0.length = n := by simpa using hlen
      obtain ⟨hcells, hfield⟩ := (hlast l0 x).1 hcells
      exact ⟨l0, x, rfl, ih.2 ⟨hlen0, hcells, fun y hy => hrange y (by simp [hy])⟩,
        layoutFieldAt_iff.2 ⟨hlen0 ▸ hfield, hrange x (by simp)⟩⟩

theorem readLayout_iff {f : LayoutNo × List Field} : readLayout b = .ok f ↔ b = layoutBody f ∧ 1 ≤ f.2.length ∧
    f.2.length ≤ 8 ∧ fieldsDisjoint f.2 = true ∧ ∀ x ∈ f.2, 1 ≤ x.width ∧ x.start + x.width ≤ 32 := by
  obtain ⟨layout, fields⟩ := f
  have hfields : readLayout b = .ok (layout, fields) ↔ (1 ≤ b.length ∧ (b.length - 1) % 3 = 0 ∧ 1 ≤ (b.length - 1) / 3 ∧
      (b.length - 1) / 3 ≤ 8) ∧ idAt 8 b 0 = some layout ∧ layoutFields b ((b.length - 1) / 3) = some fields ∧
      fieldsDisjoint fields = true := by
    rw [readLayout, checked_eq_ok]
    simp only [Bool.and_eq_true, decide_eq_true_iff, and_assoc]
    generalize layoutFields b ((b.length - 1) / 3) = read
    grind
  have hbody : b = layoutBody (layout, fields) ↔ b.length = 3 * fields.length + 1 ∧ CellsFrom b [] 0 [byte layout.val] ∧
      CellsFrom b [] 1 (fields.flatMap fieldBytes) := by
    rw [body_iff, layoutBody, ← List.singleton_append, cellsFrom_append, List.length_append, List.length_singleton,
      Nat.add_comm, ← length_flatMap_fieldBytes]
    rfl
  rw [hfields, hbody, idAt_eq_some (by decide), layoutFields_iff]
  dsimp only
  constructor
  · rintro ⟨⟨hone, hmod, hlow, hhigh⟩, hlayout, ⟨hlen, hcells, hrange⟩, hdisjoint⟩
    exact ⟨⟨by omega, hlayout, hcells⟩, by omega, by omega, hdisjoint, hrange⟩
  · rintro ⟨⟨hlen, hlayout, hcells⟩, hlow, hhigh, hdisjoint, hrange⟩
    exact ⟨⟨by omega, by omega, by omega, by omega⟩, hlayout, ⟨by omega, hcells, hrange⟩, hdisjoint⟩

theorem readRowSetup_iff {f : RowNo × Option RowUnit} : readRowSetup b = .ok f ↔
    b = rowSetupBody f ∧ ∀ u, f.2 = some u → u.address ≠ 0 := by
  obtain ⟨r, unit⟩ := f
  cases unit with
  | none =>
    have hfields : readRowSetup b = .ok (r, none) ↔
        b.length = 3 ∧ idAt 256 b 0 = some r ∧ byteAt b 1 = 255 ∧ byteAt b 2 = 0 := by
      rw [readRowSetup, checked_eq_ok, decide_eq_true_iff]
      grind
    rw [hfields, idAt_eq_some le_rfl, byteAt_eq_iff, byteAt_eq_iff, body_iff, rowSetupBody]
    simp [CellsFrom, byte]
  | some u =>
    obtain ⟨segment, address⟩ := u
    have hsegment : idAt 8 b 1 = some segment → byteAt b 1 ≠ 255 := fun h => by
      have hbelow := segment.isLt
      rw [idAt, idOf_eq_some] at h
      omega
    have hfields : readRowSetup b = .ok (r, some ⟨segment, address⟩) ↔
        b.length = 3 ∧ idAt 256 b 0 = some r ∧ idAt 8 b 1 = some segment ∧ idAt 32 b 2 = some address ∧ address ≠ 0 := by
      rw [readRowSetup, checked_eq_ok, decide_eq_true_iff]
      grind
    rw [hfields, idAt_eq_some le_rfl, idAt_eq_some (by decide), idAt_eq_some (by decide), body_iff, rowSetupBody]
    simp [CellsFrom, and_assoc]

/-! ## The terminals -/

theorem readLineSetup_fields {f : LineFields} : readLineSetup b = .ok f ↔ b.length = 6 ∧ idAt 16 b 0 = some f.line ∧
    optionalItem b 1 0 (rateOf (wordAt b 2)) = some f.rate ∧ optionalItem b 1 1 (formatOf (byteAt b 4)) = some f.format ∧
    optionalItem b 1 2 (flagAt b 5) = some f.enable ∧ byteAt b 1 ≤ 7 := by
  obtain ⟨line, rate, format, enable⟩ := f
  rw [readLineSetup, checked_eq_ok, decide_eq_true_iff]
  grind

theorem rateOf_eq_some {m : Nat} {r : Rate} : rateOf m = some r ↔ m = baud r := by
  unfold rateOf
  cases r <;> simp only [baud] <;> grind

theorem formatOf_eq_some {m : Nat} {f : Format} : formatOf m = some f ↔ m = (formatCode f).toNat := by
  unfold formatOf
  cases f <;> simp only [formatCode] <;> grind

theorem baud_lt (r : Rate) : baud r ≤ 65535 := by cases r <;> decide

theorem rateValue_iff {r : Rate} : rateOf (wordAt b k) = some r ↔ CellsFrom b [] k (wordBytes (baud r)) := by
  rw [rateOf_eq_some, wordAt_eq_iff, and_iff_left (baud_lt r)]
  simp [CellsFrom, wordBytes]

theorem lineRate_iff {bit : Nat} {o : Option Rate} : optionalItem b n bit (rateOf (wordAt b 2)) = some o ↔
    (b.getD n 0).getLsbD bit = o.isSome ∧ CellsFrom b (unreadUnless o [2, 3]) 2 (wordBytes ((o.map baud).getD 0)) := by
  have hitem := optionalItem_iff (b := b) (n := n) (k := 2) (bit := bit) (o := o) (value := rateOf (wordAt b 2))
    (written := fun o => wordBytes ((o.map baud).getD 0)) (unread := fun o => unreadUnless o [2, 3])
    (inRange := fun _ => True) (fun j hj => ?_) fun m => ?_
  · simpa using hitem
  · have hlen : j < 2 := hj
    simp only [mem_unreadUnless, List.mem_cons, List.not_mem_nil, or_false, true_and]
    omega
  · rw [rateValue_iff]
    exact (and_iff_left trivial).symm

theorem lineFormat_iff {bit : Nat} {o : Option Format} : optionalItem b n bit (formatOf (byteAt b 4)) = some o ↔
    (b.getD n 0).getLsbD bit = o.isSome ∧ CellsFrom b (unreadUnless o [4]) 4 [(o.map formatCode).getD 0] := by
  have hitem := cellItem_iff (b := b) (n := n) (bit := bit) (at' := 4) (value := formatOf (byteAt b 4)) (o := o)
    (written := fun o => (o.map formatCode).getD 0) (inRange := fun _ => True)
    fun a => by
      rw [formatOf_eq_some]
      unfold byteAt
      rw [BitVec.toNat_inj]
      exact (and_iff_left trivial).symm
  simpa using hitem

/-- The places of a LINE-SETUP that no check reads. -/
def lineUnread (f : LineFields) : List Nat :=
  unreadUnless f.rate [2, 3] ++ unreadUnless f.format [4] ++ unreadUnless f.enable [5]

theorem lineSetupBody_cells {f : LineFields} :
    (b.length = (lineSetupBody f).length ∧ CellsFrom b (lineUnread f) 0 (lineSetupBody f)) ↔
      b.length = 6 ∧ b.getD 0 0 = byte f.line.val ∧
      b.getD 1 0 = presence [f.rate.isSome, f.format.isSome, f.enable.isSome] false ∧
      CellsFrom b (unreadUnless f.rate [2, 3]) 2 (wordBytes ((f.rate.map baud).getD 0)) ∧
      CellsFrom b (unreadUnless f.format [4]) 4 [(f.format.map formatCode).getD 0] ∧
      CellsFrom b (unreadUnless f.enable [5]) 5 [flagByte (f.enable.getD false)] := by
  have hunread (x : Nat) : x ∈ lineUnread f ↔ (f.rate = none ∧ (x = 2 ∨ x = 3)) ∨ (f.format = none ∧ x = 4) ∨
      (f.enable = none ∧ x = 5) := by
    simp only [lineUnread, List.mem_append, mem_unreadUnless, List.mem_cons, List.not_mem_nil, or_false, or_assoc]
  rw [lineSetupBody]
  simp only [wordBytes, List.cons_append, List.nil_append, CellsFrom, hunread, mem_unreadUnless, List.mem_cons,
    List.not_mem_nil, or_false]
  simp [and_assoc]

theorem readLineSetup_iff {f : LineFields} : readLineSetup b = .ok f ↔
    b.length = (lineSetupBody f).length ∧ ∀ k, k ∉ lineUnread f → b[k]? = (lineSetupBody f)[k]? := by
  rw [alike_iff, lineSetupBody_cells, readLineSetup_fields, idAt_eq_some (by decide), cellsFrom_one, lineRate_iff,
    lineFormat_iff, flagItem_iff, eq_presence_three]
  unfold byteAt
  tauto

theorem readTerminalText_iff {f : LineNo × Text} : readTerminalText b = .ok f ↔ b = textBody f ∧ 1 ≤ f.2.length ∧
    f.2.length ≤ 60 ∧ ∀ c ∈ f.2, 0x20 ≤ c.toNat ∧ c.toNat ≤ 0x7E := by
  obtain ⟨line, text⟩ := f
  have hfields : readTerminalText b = .ok (line, text) ↔
      (2 ≤ b.length ∧ b.length ≤ 61) ∧ idAt 16 b 0 = some line ∧ textFrom b 1 = some text := by
    rw [readTerminalText, checked_eq_ok, Bool.and_eq_true, decide_eq_true_iff, decide_eq_true_iff]
    grind
  rw [hfields, idAt_eq_some (by decide), textFrom_eq_some, textBody, cellsFrom_one]
  cases b with
  | nil => simp
  | cons x b =>
    simp only [List.length_cons, List.drop_succ_cons, List.drop_zero, List.getD_cons_zero, List.cons.injEq]
    grind

theorem readLineTest_iff {f : LineNo × Text} : readLineTest b = .ok f ↔ b = textBody f ∧ 1 ≤ f.2.length ∧
    f.2.length ≤ 60 := by
  obtain ⟨line, text⟩ := f
  have hfields : readLineTest b = .ok (line, text) ↔
      (2 ≤ b.length ∧ b.length ≤ 61) ∧ idAt 16 b 0 = some line ∧ b.drop 1 = text := by
    rw [readLineTest, checked_eq_ok, Bool.and_eq_true, decide_eq_true_iff, decide_eq_true_iff]
    grind
  rw [hfields, idAt_eq_some (by decide), textBody, cellsFrom_one]
  cases b with
  | nil => simp
  | cons x b =>
    simp only [List.length_cons, List.drop_succ_cons, List.drop_zero, List.getD_cons_zero, List.cons.injEq]
    grind

/-- Settles O60: reader by reader, the fields it answers are those whose cells stand in the body, at their places. -/
theorem requestBodiesReadBack : Obligations.RequestBodiesReadBack := by
  intro b
  exact ⟨fun _ => readSlot_iff, fun _ => readList_iff, fun _ => readTrade_iff, fun _ => readTradeBlock_iff,
    fun _ => readQuote_iff, fun _ => readSetState_iff, fun _ => readFetch_iff, fun _ => readAmend_iff, readNothing_iff,
    fun _ => readBulletin_iff, fun _ => readRibbonSetup_iff, fun _ => readRibbon_iff, fun _ => readRibbonStop_iff,
    fun _ => readAlign_iff, fun _ => readSegmentSetup_iff, fun _ => readLayout_iff, fun _ => readBind_iff,
    fun _ => readRow_iff, fun _ => readRowSetup_iff, fun _ => readExercise_iff, fun _ => readLineSetup_iff,
    fun _ => readTerminalText_iff, fun _ => readLineTest_iff⟩

end Sys2Proof.Machine
end


section
/-! PROOFS. Received characters, line errors and breaks (O51). -/

namespace Sys2Proof.Machine

variable {d e : Device} {s : State} {l : LineNo} {c : Byte} {src : RxSource} {x : Terminal}

/-! ## What a receiver takes (R131, R134) -/

theorem receives_wire_iff (x : Terminal) : receives x .wire = true ↔ x.state = .active ∧ x.receiver ≠ .afterBreak := by
  unfold receives
  cases x.state <;> simp

theorem receives_loop_iff (x : Terminal) : receives x .loop = true ↔ x.state = .loopback ∧ x.receiver ≠ .afterBreak := by
  unfold receives
  cases x.state <;> simp

theorem not_receives_of (h : x.state = .disabled ∨ x.state = .absent ∨ x.receiver = .afterBreak ∨
    (x.state = .active ∧ src = .loop) ∨ (x.state = .loopback ∧ src = .wire)) : receives x src = false := by
  refine Bool.eq_false_iff.2 fun hr => ?_
  cases src with
  | wire =>
    obtain ⟨hstate, hreceiver⟩ := (receives_wire_iff x).1 hr
    simp [hstate, hreceiver] at h
  | loop =>
    obtain ⟨hstate, hreceiver⟩ := (receives_loop_iff x).1 hr
    simp [hstate, hreceiver] at h

theorem carries_iff (f : Format) (c : Byte) : carries f c = true ↔ f = .none8 ∨ c.toNat ≤ 127 := by
  cases f <;> simp [carries]

theorem errorPossible_iff (f : Format) (k : RxError) : errorPossible f k = true ↔ (k = .parity → f ≠ .none8) := by
  cases f <;> cases k <;> simp [errorPossible]

/-! ## Characters, errors and breaks that are taken -/

theorem goodCharacter_of_not_received (h : receives (d.terminal l) src = false) : goodCharacter l src c d = d :=
  if_pos (Or.inl h)

theorem goodCharacter_of_active (h : (d.terminal l).state = .active) (hr : (d.terminal l).receiver ≠ .afterBreak)
    (hc : (d.terminal l).format = .none8 ∨ c.toNat ≤ 127) : goodCharacter l .wire c d = takeCharacter l c d := by
  have hreceives := (receives_wire_iff (d.terminal l)).2 ⟨h, hr⟩
  have hcarries := (carries_iff _ _).2 hc
  unfold goodCharacter
  dsimp only
  rw [if_neg (by simp [hreceives, hcarries]), if_neg (by simp [h])]

theorem breakTaken_of_not_received (h : receives (d.terminal l) src = false) : breakTaken l src d = d := if_pos h

theorem breakTaken_of_active (h : (d.terminal l).state = .active) (hr : (d.terminal l).receiver ≠ .afterBreak) :
    breakTaken l .wire d =
      oweRedraw l (d.setTerminal l { d.terminal l with receiver := .afterBreak, input := [], errored := false }) := by
  have hreceives := (receives_wire_iff (d.terminal l)).2 ⟨h, hr⟩
  unfold breakTaken
  dsimp only
  rw [if_neg (by simp [hreceives]), if_neg (by simp [h])]

theorem lineErrorTaken_of_not_received {k : RxError} (h : receives (d.terminal l) src = false) :
    lineErrorTaken l src k d = d := if_pos (Or.inl h)

theorem lineErrorTaken_of_active {k : RxError} (h : (d.terminal l).state = .active)
    (hr : (d.terminal l).receiver ≠ .afterBreak) (hk : k = .parity → (d.terminal l).format ≠ .none8) :
    lineErrorTaken l .wire k d = roomEvent l (offerEcho l [0x3F] (d.setTerminal l { d.terminal l with errored := true })) := by
  have hreceives := (receives_wire_iff (d.terminal l)).2 ⟨h, hr⟩
  have hpossible := (errorPossible_iff _ _).2 hk
  unfold lineErrorTaken
  dsimp only
  rw [if_neg (by simp [hreceives, hpossible]), if_neg (by simp [h])]
  rfl

/-! ## A character by its value (R136, R137) -/

theorem printable_iff (c : Byte) : printable c = true ↔ 0x20 ≤ c.toNat ∧ c.toNat ≤ 0x7E := by
  simp [printable]

theorem ne_of_toNat_ne {a b : Byte} (h : a.toNat ≠ b.toNat) : a ≠ b := fun hab => h (congrArg _ hab)

theorem takeCharacter_of_printable (hlow : 0x20 ≤ c.toNat) (hhigh : c.toNat ≤ 0x7E) : takeCharacter l c d =
    if (d.terminal l).input.length < 40 then
      roomEvent l (offerEcho l [c] (d.setTerminal l { d.terminal l with input := (d.terminal l).input ++ [c] }))
    else roomEvent l (offerEcho l [0x07] d) := by
  have hcr : c ≠ cr := ne_of_toNat_ne (by show c.toNat ≠ 13; omega)
  have hbs : c ≠ bs := ne_of_toNat_ne (by show c.toNat ≠ 8; omega)
  have hdel : c ≠ del := ne_of_toNat_ne (by show c.toNat ≠ 127; omega)
  unfold takeCharacter
  dsimp only
  rw [if_neg hcr, if_neg (by simp [hbs, hdel]), if_pos ((printable_iff c).2 ⟨hlow, hhigh⟩)]
  rfl

theorem takeCharacter_of_delete (h : c = 0x08 ∨ c = 0x7F) : takeCharacter l c d =
    if (d.terminal l).input = [] then roomEvent l (offerEcho l [0x07] d)
    else roomEvent l
      (offerEcho l [0x08, 0x20, 0x08] (d.setTerminal l { d.terminal l with input := (d.terminal l).input.dropLast })) := by
  have hcr : c ≠ cr := by rcases h with rfl | rfl <;> decide
  have hdelete : c = bs ∨ c = del := h
  unfold takeCharacter
  dsimp only
  rw [if_neg hcr, if_pos hdelete]
  rfl

theorem takeCharacter_of_other (h : (c.toNat < 0x20 ∧ c ≠ 0x08 ∧ c ≠ 0x0D) ∨ 0x7F < c.toNat) : takeCharacter l c d = d := by
  have hcr : c ≠ cr := by
    rcases h with ⟨-, -, h⟩ | h
    · exact h
    · exact ne_of_toNat_ne (by show c.toNat ≠ 13; omega)
  have hbs : c ≠ bs := by
    rcases h with ⟨-, h, -⟩ | h
    · exact h
    · exact ne_of_toNat_ne (by show c.toNat ≠ 8; omega)
  have hdel : c ≠ del := ne_of_toNat_ne (by show c.toNat ≠ 127; omega)
  have hprint : ¬printable c = true := by
    rw [printable_iff]
    omega
  unfold takeCharacter
  dsimp only
  rw [if_neg hcr, if_neg (by simp [hbs, hdel]), if_neg hprint]

theorem takeCharacter_cr : takeCharacter l 0x0D d = submit l d := by
  unfold takeCharacter
  exact if_pos rfl

/-! ## A submission (R137) -/

/-- The line with its input submitted and the echo of CR offered. -/
def submittedLine (l : LineNo) (d : Device) : Device :=
  offerEcho l crEcho (d.setTerminal l { d.terminal l with input := [], errored := false })

theorem submit_of_reply (h : (d.terminal l).reply ≠ none) : submit l d = roomEvent l (offerEcho l [0x07] d) :=
  if_pos (Option.isSome_iff_ne_none.2 h)

theorem submit_of_errored (h : (d.terminal l).reply = none) (he : (d.terminal l).errored = true) :
    submit l d = placeReply l replyLine (submittedLine l d) :=
  (if_neg (by simp [h])).trans (if_pos he)

theorem submit_of_empty (h : (d.terminal l).reply = none) (he : (d.terminal l).errored = false)
    (hi : (d.terminal l).input = []) : submit l d = roomEvent l (submittedLine l d) :=
  (if_neg (by simp [h])).trans ((if_neg (by simp [he])).trans (if_pos hi))

theorem submit_of_line (h : (d.terminal l).reply = none) (he : (d.terminal l).errored = false)
    (hi : (d.terminal l).input ≠ []) :
    submit l d = answerDealer l (interpretLine l (d.terminal l).input) (submittedLine l d) :=
  (if_neg (by simp [h])).trans ((if_neg (by simp [he])).trans (if_neg hi))

theorem wireMark_of_break (h : (d.terminal l).receiver = .afterBreak) :
    wireMark l d = d.setTerminal l { d.terminal l with receiver := .idle } := if_pos h

theorem wireMark_of_not (h : (d.terminal l).receiver ≠ .afterBreak) : wireMark l d = d := if_neg h

theorem offerEcho_eq (l : LineNo) (t : Text) (d : Device) : offerEcho l t d =
    if (d.terminal l).queue.length + t.length ≤ 512 ∨ t = [] then
      d.setTerminal l { d.terminal l with queue := (d.terminal l).queue ++ t } else d := by
  have hcapacity : Config.outputCapacity = 512 := rfl
  unfold offerEcho freeRoom
  refine if_congr ?_ rfl rfl
  rw [hcapacity, ← List.length_eq_zero_iff]
  omega

/-- Settles O51: each event is taken or not by the line's state, and a character that is taken acts by its value. -/
theorem receivedCharactersActByTheirValue : Obligations.ReceivedCharactersActByTheirValue := by
  refine ⟨fun s l c => ?_, fun d l t => offerEcho_eq l t d⟩
  intro d x taking carried out cleared submitted
  have hchar (src : RxSource) : exec (.goodCharacter ⟨l, src⟩ c) s = .next { s with device := goodCharacter l src c d } := rfl
  have htake (ht : taking) (hc : carried) : exec (.goodCharacter ⟨l, .wire⟩ c) s =
      .next { s with device := takeCharacter l c d } := by
    rw [hchar, goodCharacter_of_active ht.1 ht.2 hc]
  have hbreak (src : RxSource) : exec (.breakReceived ⟨l, src⟩) s = .next { s with device := breakTaken l src d } := rfl
  have herror (src : RxSource) (k : RxError) : exec (.lineError ⟨l, src⟩ k) s =
      .next { s with device := lineErrorTaken l src k d } := rfl
  have hmark : exec (.wireReturnsToMark l) s = .next { s with device := wireMark l d } := rfl
  refine ⟨fun src hnot => ?_, fun ht hc => ⟨?_, ?_, ?_, ?_, ?_, ?_, ?_, ?_, ?_⟩, fun ht => ?_, fun k ht hk => ?_, fun hr => ?_,
    fun hr => ?_⟩
  · have hnone : receives (d.terminal l) src = false := not_receives_of hnot
    rw [hchar, hbreak, goodCharacter_of_not_received hnone, breakTaken_of_not_received hnone]
    exact ⟨rfl, rfl, fun k => by rw [herror, lineErrorTaken_of_not_received hnone]⟩
  · intro hlow hhigh hroom
    rw [htake ht hc, takeCharacter_of_printable hlow hhigh, if_pos hroom]
  · intro hlow hhigh hfull
    rw [htake ht hc, takeCharacter_of_printable hlow hhigh, if_neg (Nat.not_lt.2 hfull)]
  · intro hdel hsome
    rw [htake ht hc, takeCharacter_of_delete hdel, if_neg hsome]
  · intro hdel hnone
    rw [htake ht hc, takeCharacter_of_delete hdel, if_pos hnone]
  · rintro rfl hreply
    rw [htake ht hc, takeCharacter_cr, submit_of_reply hreply]
  · rintro rfl hreply he
    rw [htake ht hc, takeCharacter_cr, submit_of_errored hreply he]
    rfl
  · rintro rfl hreply he hi
    rw [htake ht hc, takeCharacter_cr, submit_of_empty hreply he hi]
    rfl
  · rintro rfl hreply he hi
    rw [htake ht hc, takeCharacter_cr, submit_of_line hreply he hi]
    rfl
  · intro hother
    rw [htake ht hc, takeCharacter_of_other hother]
  · rw [hbreak, breakTaken_of_active ht.1 ht.2]
    rfl
  · rw [herror, lineErrorTaken_of_active ht.1 ht.2 hk]
  · rw [hmark, wireMark_of_break hr]
  · rw [hmark, wireMark_of_not hr]

end Sys2Proof.Machine
end


section
/-! PROOFS. LINE-SETUP and the changes of line-present (O50). -/

namespace Sys2Proof.Machine

variable {d e : Device} {s : State} {l : LineNo} {x : Terminal} {body : List Byte} {f : LineFields}

theorem modTerminal_setTerminal (d : Device) (l : LineNo) (x : Terminal) (g : Terminal → Terminal) :
    (d.setTerminal l x).modTerminal l g = d.setTerminal l (g x) := by
  rw [Device.modTerminal_eq, Device.terminal_setTerminal_same, Device.setTerminal_setTerminal]

/-! ## Out of service (R132, R133) -/

/-- What a line that leaves service has lost, and what it has kept. -/
structure OutOfService (l : LineNo) (st : TermState) (d e : Device) : Prop where
  terminal : e.terminal l = { emptied (d.terminal l) with state := st }
  dealer : e.dealer l = { d.dealer l with alerts := [] }
  others : ∀ k, k ≠ l → e.terminal k = d.terminal k ∧ e.dealer k = d.dealer k
  parts : ChangesOnly [.terminals, .dealers] d e

theorem clearLine_outOfService (l : LineNo) (st : TermState) (d : Device) : OutOfService l st d (clearLine l st d) := by
  have hterminal (k : LineNo) : (clearLine l st d).terminal k =
      if k = l then { emptied (d.terminal l) with state := st } else d.terminal k :=
    terminal_modTerminal d l k (fun x => { clearedTerminal x with state := st })
  have hdealer (k : LineNo) : (clearLine l st d).dealer k =
      if k = l then { d.dealer l with alerts := [] } else d.dealer k := dealer_modDealer _ l k _
  exact ⟨by rw [hterminal, if_pos rfl], by rw [hdealer, if_pos rfl],
    fun k hk => ⟨by rw [hterminal, if_neg hk], by rw [hdealer, if_neg hk]⟩, clearLine_changes l st d⟩

/-- Leaving service behind a change of the line's own fields. -/
theorem OutOfService.of_setTerminal {st : TermState} (h : OutOfService l st (d.setTerminal l x) e) :
    e.terminal l = { emptied x with state := st } ∧ e.dealer l = { d.dealer l with alerts := [] } ∧
      (∀ k, k ≠ l → e.terminal k = d.terminal k ∧ e.dealer k = d.dealer k) ∧ ChangesOnly [.terminals, .dealers] d e := by
  obtain ⟨hterminal, hdealer, hothers, hparts⟩ := h
  rw [Device.terminal_setTerminal_same] at hterminal
  refine ⟨hterminal, hdealer, fun k hk => ?_, (setTerminal_changes d l x).andThen hparts (by simp) (by simp)⟩
  obtain ⟨ht, hd⟩ := hothers k hk
  exact ⟨ht.trans (Device.terminal_setTerminal_other d l k x hk), hd⟩

/-! ## LINE-SETUP (R132) -/

theorem setupLine_of_loopback (h : (d.terminal f.line).state = .loopback) : setupLine f d = (d, refuse .busy) := if_pos h

/-- The device of a LINE-SETUP that is not refused. -/
def setUpLine (f : LineFields) (d : Device) : Device :=
  switchLine f.line f.enable (d.setTerminal f.line (setLineFormat f (d.terminal f.line)))

theorem setupLine_of_not_loopback (h : (d.terminal f.line).state ≠ .loopback) :
    setupLine f d = (setUpLine f d, accept (lineSettings ((setUpLine f d).terminal f.line))) := if_neg h

theorem switchLine_of_unchanged {enable : Option Bool}
    (h : enable = none ∨ (enable = some true ∧ x.state ≠ .disabled) ∨ (enable = some false ∧ x.state = .disabled)) :
    switchLine l enable (d.setTerminal l x) = d.setTerminal l x := by
  unfold switchLine
  rw [Device.terminal_setTerminal_same]
  rcases h with rfl | ⟨rfl, hd⟩ | ⟨rfl, hd⟩
  · rfl
  · cases hs : x.state with
    | disabled => exact absurd hs hd
    | absent => rfl
    | active => rfl
    | loopback => rfl
  · rw [hd]

theorem switchLine_of_enabled (hx : x.state = .disabled) : switchLine l (some true) (d.setTerminal l x) =
    if x.present then oweRedraw l (d.setTerminal l { x with state := .active })
    else d.setTerminal l { x with state := .absent } := by
  unfold switchLine
  rw [Device.terminal_setTerminal_same, hx]
  dsimp only
  rw [modTerminal_setTerminal, modTerminal_setTerminal]

theorem switchLine_of_disabled (hx : x.state = .absent ∨ x.state = .active) :
    switchLine l (some false) (d.setTerminal l x) = clearLine l .disabled (d.setTerminal l x) := by
  unfold switchLine
  rw [Device.terminal_setTerminal_same]
  rcases hx with hx | hx <;> rw [hx]

/-- A full redraw handed over and its room event, seen at its line. -/
theorem redrawn_written (d : Device) (l : LineNo) (x : Terminal) :
    WrittenOnly x ((oweRedraw l (d.setTerminal l x)).terminal l) ∧
      ChangesOnly [.terminals, .dealers] d (oweRedraw l (d.setTerminal l x)) := by
  have hentered := roomEvent_entered l ((d.setTerminal l x).modDealer l (fun y => { y with redrawOwed := true }))
  have hbefore : ((d.setTerminal l x).modDealer l (fun y => { y with redrawOwed := true })).terminal l = x :=
    Device.terminal_setTerminal_same d l x
  have hwritten := hentered.written
  rw [hbefore] at hwritten
  exact ⟨hwritten, ((setTerminal_changes d l x).andThen (modDealer_changes _ l _) (n := [.terminals, .dealers]) (by simp)
    (by simp)).andThen hentered.parts (by simp) (by simp)⟩

theorem lineSettings_of_written {y : Terminal} (h : WrittenOnly x y) : lineSettings y = lineSettings x := by
  rw [h]
  rfl

theorem exec_lineSetup_refused (htakes : takesRequest 0x30 body s.device = true) (hf : readLineSetup body = .ok f)
    (h : (s.device.terminal f.line).state = .loopback) : exec (.lineSetup body) s =
      .next ⟨s.device.setChannel (replied 0x30 0x09 [] s.device.channel), s.pending⟩ :=
  exec_refused htakes hf (setupLine_of_loopback h)

/-- An accepted LINE-SETUP leaves what its switch leaves, with the settings in the reply. -/
theorem exec_lineSetup_accepted (htakes : takesRequest 0x30 body s.device = true) (hf : readLineSetup body = .ok f)
    (h : (s.device.terminal f.line).state ≠ .loopback) {switched : Device} {data : List Byte}
    (hswitch : setUpLine f (beginWork 0x30 body s.device) = switched) (hdata : lineSettings (switched.terminal f.line) = data)
    (hparts : ChangesOnly [.terminals, .dealers] (beginWork 0x30 body s.device) switched) : exec (.lineSetup body) s =
      .next ⟨switched.setChannel (replied 0x30 0x00 data s.device.channel), s.pending⟩ := by
  have hwork := setupLine_of_not_loopback (d := beginWork 0x30 body s.device) h
  rw [hswitch, hdata] at hwork
  have hexec := exec_replied htakes hf hwork
  rw [hparts.channel_eq (by simp)] at hexec
  exact hexec

theorem replied_changes {kind : Byte} {data : List Byte} (h : ChangesOnly [.terminals, .dealers] (beginWork kind body d) e) :
    ChangesOnly [.link, .terminals, .dealers] d (e.setChannel (replied kind 0x00 data d.channel)) := by
  have hready := ready_changes (accept data) h
  rw [readyReply_accept, h.channel_eq (by simp)] at hready
  exact hready

/-- The terminal of a LINE-SETUP before its switch. -/
theorem setUpLine_eq {enable : Option Bool} (hl : f.line = l) (henable : f.enable = enable) : setUpLine f d =
    switchLine l enable (d.setTerminal l (setLineFormat f (d.terminal l))) := by
  subst hl henable
  rfl

/-! ## Line-present (R133) -/

theorem presentRises_of_present (h : (d.terminal l).present = true) : presentRises l d = d := if_pos h

theorem presentRises_of_disabled (h : (d.terminal l).present = false) (hs : (d.terminal l).state = .disabled) :
    presentRises l d = d.setTerminal l { d.terminal l with present := true } := by
  unfold presentRises
  dsimp only
  rw [if_neg (by simp [h]), hs]

theorem presentRises_of_absent (h : (d.terminal l).present = false) (hs : (d.terminal l).state = .absent) :
    presentRises l d =
      (oweRedraw l (d.setTerminal l { d.terminal l with present := true, state := .active })).raise (.terminal l) := by
  unfold presentRises
  dsimp only
  rw [if_neg (by simp [h]), hs]
  rfl

theorem presentRises_of_loopback (h : (d.terminal l).present = false) (hs : (d.terminal l).state = .loopback) :
    presentRises l d =
      (oweRedraw l (d.setTerminal l { abandonTest (d.terminal l) with present := true, state := .active })).raise
        (.terminal l) := by
  unfold presentRises
  dsimp only
  rw [if_neg (by simp [h]), hs]
  rfl

theorem presentFalls_of_not_present (h : (d.terminal l).present = false) : presentFalls l d = d := if_pos h

theorem presentFalls_of_disabled (h : (d.terminal l).present = true) (hs : (d.terminal l).state = .disabled) :
    presentFalls l d = d.setTerminal l { d.terminal l with present := false } := by
  unfold presentFalls
  dsimp only
  rw [if_neg (by simp [h]), hs]

/-- The line before its present falls away: a test it carries is abandoned. -/
def fallingLine (x : Terminal) : Terminal :=
  if x.state = .loopback then { abandonTest x with present := false } else { x with present := false }

theorem presentFalls_of_live (h : (d.terminal l).present = true)
    (hs : (d.terminal l).state = .active ∨ (d.terminal l).state = .loopback) :
    presentFalls l d = (clearLine l .absent (d.setTerminal l (fallingLine (d.terminal l)))).raise (.terminal l) := by
  unfold presentFalls fallingLine
  dsimp only
  rw [if_neg (by simp [h])]
  rcases hs with hs | hs <;> rw [hs] <;> rfl

/-- Settles O50: a line is switched by its state, and what it loses out of service is said once for both ways out. -/
theorem linesFollowSetupAndPresence : Obligations.LinesFollowSetupAndPresence := by
  intro s l d x redrawn
  have hrise : exec (.linePresentRise l) s = .next { s with device := presentRises l d } := rfl
  have hfall : exec (.linePresentFall l) s = .next { s with device := presentFalls l d } := rfl
  refine ⟨fun body f htakes hf hl => ?_, ?_, ?_, ?_, ?_, ?_, ?_, ?_, ?_⟩
  · intro x' data
    subst hl
    have hswitch {enable : Option Bool} (henable : f.enable = enable) : setUpLine f (beginWork 0x30 body d) =
        switchLine f.line enable ((beginWork 0x30 body d).setTerminal f.line x') := setUpLine_eq rfl henable
    have hset (y : Terminal) : ChangesOnly [.terminals, .dealers] (beginWork 0x30 body d)
        ((beginWork 0x30 body d).setTerminal f.line y) := (setTerminal_changes _ _ _).mono (by simp)
    have hlive (h : x.state = .disabled ∨ x.state = .absent ∨ x.state = .active) : x.state ≠ .loopback := by
      rcases h with h | h | h <;> rw [h] <;> decide
    refine ⟨exec_lineSetup_refused htakes hf, fun hx hsame => ?_, fun henable hx hpresent => ?_,
      fun henable hx hpresent => ?_, fun henable hx => ?_⟩
    · have hexec := exec_lineSetup_accepted htakes hf hx ((hswitch rfl).trans (switchLine_of_unchanged (x := x') hsame))
        (by rw [Device.terminal_setTerminal_same]) (hset x')
      exact hexec
    · have habsent := (hswitch henable).trans ((switchLine_of_enabled (x := x') hx).trans (if_neg (by simp [x', hpresent])))
      have hexec := exec_lineSetup_accepted htakes hf (hlive (Or.inl hx)) habsent
        (by rw [Device.terminal_setTerminal_same]) (hset _)
      exact hexec
    · have hactive := (hswitch henable).trans ((switchLine_of_enabled (x := x') hx).trans (if_pos hpresent))
      obtain ⟨hwritten, hparts⟩ := redrawn_written (beginWork 0x30 body d) f.line { x' with state := .active }
      have hexec := exec_lineSetup_accepted htakes hf (hlive (Or.inl hx)) hactive
        (lineSettings_of_written hwritten) hparts
      exact ⟨_, hexec, rfl, rfl, hwritten, replied_changes hparts⟩
    · have hdisabled := (hswitch henable).trans (switchLine_of_disabled (x := x') hx)
      obtain ⟨hterminal, hdealer, hothers, hparts⟩ :=
        (clearLine_outOfService f.line .disabled ((beginWork 0x30 body d).setTerminal f.line x')).of_setTerminal
      have hexec := exec_lineSetup_accepted htakes hf (hlive (Or.inr hx)) hdisabled
        (congrArg lineSettings hterminal) hparts
      refine ⟨_, hexec, rfl, rfl, hterminal, ?_, hdealer, hothers, replied_changes hparts⟩
      exact congrArg Terminal.serviceOutput hterminal
  · intro hpresent hx
    rw [hrise, presentRises_of_disabled hpresent hx]
  · intro hpresent hx
    rw [hrise, presentRises_of_absent hpresent hx]
    rfl
  · intro hpresent hx
    rw [hrise, presentRises_of_loopback hpresent hx]
    rfl
  · intro hpresent
    rw [hrise, presentRises_of_present hpresent]
  · intro hpresent hx
    rw [hfall, presentFalls_of_disabled hpresent hx]
  · intro hpresent hx
    have hout := (clearLine_outOfService l .absent (d.setTerminal l (fallingLine x))).of_setTerminal
    obtain ⟨hterminal, hdealer, hothers, hparts⟩ := hout
    have hraise := raise_changes (clearLine l .absent (d.setTerminal l (fallingLine x))) (.terminal l)
    rw [presentFalls_of_live hpresent hx] at hfall
    have hfallen : emptied (fallingLine x) = { emptied x with
        present := false, testResult := if x.state = .loopback then .abandoned else x.testResult } := by
      unfold fallingLine
      split <;> rfl
    rw [hfallen] at hterminal
    refine ⟨_, hfall, rfl, (hraise.terminal_eq (by simp) l).trans hterminal, ?_, (hraise.dealer_eq (by simp) l).trans hdealer,
      fun k hk => ⟨(hraise.terminal_eq (by simp) k).trans (hothers k hk).1,
        (hraise.dealer_eq (by simp) k).trans (hothers k hk).2⟩, by simp [mem_raise],
      hparts.andThen hraise (by simp) (by simp)⟩
    exact congrArg Terminal.serviceOutput ((hraise.terminal_eq (by simp) l).trans hterminal)
  · intro hpresent
    rw [hfall, presentFalls_of_not_present hpresent]
  · show (x.state != .disabled) = true ↔ _
    cases x.state <;> simp

end Sys2Proof.Machine
end


section
/-! PROOFS. TERMINAL-TEXT, the transmitter, LINE-TEST and its characters (O53). -/

namespace Sys2Proof.Machine

variable {d e : Device} {s : State} {l : LineNo} {c : Byte} {x : Terminal} {body : List Byte}

/-! ## TERMINAL-TEXT (R140) -/

theorem hostTextFor_of_off {f : LineNo × Text} (h : (d.terminal f.1).state = .disabled ∨ (d.terminal f.1).state = .absent) :
    hostTextFor f d = (d, refuse .wrongState) := if_pos h

theorem hostTextFor_of_busy {f : LineNo × Text} (h : (d.terminal f.1).state = .active ∨ (d.terminal f.1).state = .loopback)
    (hbusy : (d.terminal f.1).hostText ≠ none) : hostTextFor f d = (d, refuse .busy) := by
  unfold hostTextFor
  dsimp only
  rw [if_neg (by rcases h with h | h <;> simp [h]), if_pos (Option.isSome_iff_ne_none.2 hbusy)]

/-- The line with a host text waiting, after its room event. -/
def textOffered (f : LineNo × Text) (d : Device) : Device :=
  roomEvent f.1 (d.setTerminal f.1 { d.terminal f.1 with hostText := some f.2 })

theorem hostTextFor_of_free {f : LineNo × Text} (h : (d.terminal f.1).state = .active ∨ (d.terminal f.1).state = .loopback)
    (hfree : (d.terminal f.1).hostText = none) : hostTextFor f d =
      (textOffered f d, accept (wordBytes (512 - ((textOffered f d).terminal f.1).queue.length))) := by
  unfold hostTextFor
  dsimp only
  rw [if_neg (by rcases h with h | h <;> simp [h]), if_neg (by simp [hfree])]
  rfl

/-! ## The line test (R141) -/

theorem startTestCharacter_of_idle {t : TestRecord} (ht : x.test = some t) (hx : x.transmitter = none)
    (hc : t.text[t.started]? = some c) : startTestCharacter l (d.setTerminal l x) = d.setTerminal l { x with
      test := some { t with started := t.started + 1 }, transmitter := some ⟨carried x.format c, x.format, x.rate, true⟩ } := by
  unfold startTestCharacter
  dsimp only
  rw [Device.terminal_setTerminal_same, ht, hx]
  dsimp only
  rw [hc]
  dsimp only
  rw [Device.setTerminal_setTerminal]

theorem startTestCharacter_of_busy (hx : x.transmitter ≠ none) :
    startTestCharacter l (d.setTerminal l x) = d.setTerminal l x := by
  unfold startTestCharacter
  dsimp only
  rw [Device.terminal_setTerminal_same]
  cases ht : x.transmitter with
  | none => exact absurd ht hx
  | some y => cases x.test <;> rfl

/-! ## The outcome of a test -/

/-- Two characters that were received good and differ. -/
def differsAt (text : Text) (got : List Received) (j : Nat) : Bool :=
  match text[j]?, got[j]? with
  | some a, some (.good b) => a != b
  | _, _ => false

theorem differsAt_iff {text : Text} {got : List Received} {j : Nat} : differsAt text got j = true ↔
    ∃ a b, text[j]? = some a ∧ got[j]? = some (.good b) ∧ a ≠ b := by
  unfold differsAt
  cases text[j]? with
  | none => simp
  | some a =>
    cases got[j]? with
    | none => simp
    | some y => cases y <;> simp

theorem testKinds_value (text : Text) (got : List Received) :
    (testKinds text got).value = (List.range got.length).any (differsAt text got) := by
  rw [Bool.eq_iff_iff, List.any_eq_true]
  show (List.any _ id = true) ↔ _
  rw [List.any_eq_true]
  constructor
  · rintro ⟨y, hy, hone⟩
    obtain ⟨j, hj⟩ := List.mem_iff_getElem?.1 hy
    rw [List.getElem?_zipWith_eq_some] at hj
    obtain ⟨a, z, ha, hz, hval⟩ := hj
    have hlt : j < got.length := (List.getElem?_eq_some_iff.1 hz).1
    refine ⟨j, List.mem_range.2 hlt, differsAt_iff.2 ?_⟩
    cases z with
    | good b =>
      refine ⟨a, b, ha, hz, ?_⟩
      rintro rfl
      rw [← hval] at hone
      simp at hone
    | parity => rw [← hval] at hone; cases hone
    | framing => rw [← hval] at hone; cases hone
  · rintro ⟨j, -, hj⟩
    obtain ⟨a, b, ha, hb, hne⟩ := differsAt_iff.1 hj
    refine ⟨true, List.mem_iff_getElem?.2 ⟨j, List.getElem?_zipWith_eq_some.2 ⟨a, _, ha, hb, ?_⟩⟩, rfl⟩
    simp [hne.symm]

theorem testKinds_eq (text : Text) (got : List Received) : testKinds text got =
    ⟨(List.range got.length).any (differsAt text got), got.contains .parity, got.contains .framing,
      decide (got.length < text.length)⟩ := by
  have hany (y : Received) : got.any (· == y) = got.contains y := by
    rw [Bool.eq_iff_iff]
    simp
  rw [← testKinds_value, ← hany, ← hany]
  rfl

theorem testAgrees_iff {text : Text} {got : List Received} {k : Nat} (hk : k < text.length) :
    testAgrees text got k = true ↔ got[k]? = (text[k]?).map Received.good := by
  unfold testAgrees
  rw [List.getElem?_eq_getElem hk]
  cases got[k]? with
  | none => simp
  | some y => cases y <;> simp

/-- The result of a test, position by position (R141). -/
theorem testOutcome_eq (text : Text) (got : List Received) : testOutcome text got =
    match (List.range text.length).find? (fun k => got[k]? != (text[k]?).map Received.good) with
    | none => .matched
    | some k => .mismatch k ⟨(List.range got.length).any (differsAt text got), got.contains .parity,
        got.contains .framing, decide (got.length < text.length)⟩ := by
  have hfind : (List.range text.length).find? (fun k => !testAgrees text got k) =
      (List.range text.length).find? (fun k => got[k]? != (text[k]?).map Received.good) := by
    refine List.find?_congr fun k hk => ?_
    have hagrees := testAgrees_iff (got := got) (List.mem_range.1 hk)
    by_cases h : testAgrees text got k = true
    · simp [h, hagrees.1 h]
    · have hne := fun heq => h (hagrees.2 heq)
      simpa [h] using hne
  unfold testOutcome
  rw [hfind, ← testKinds_eq] <;> rfl

/-! ## The test's characters and its end (R141) -/

/-- The line back in the state a test recorded, with its result and the TERMINAL notice. -/
def testFinished (l : LineNo) (test : TestRecord) (y : Terminal) (got : List Received) (d : Device) : Device :=
  roomEvent l ((d.setTerminal l { y with
    state := test.prior, receiver := .idle, test := none, testResult := testOutcome test.text got }).raise (.terminal l))

theorem completeTest_of_test {test : TestRecord} (h : (d.terminal l).test = some test) :
    completeTest l d = testFinished l test (d.terminal l) test.received d := by
  unfold completeTest
  rw [h]
  rfl

theorem receiveTest_of_test {test : TestRecord} {a : Received} (h : (d.terminal l).test = some test) :
    receiveTest l a d = if test.text.length ≤ test.received.length + 1 then
      testFinished l test (d.terminal l) (test.received ++ [a]) d
    else d.setTerminal l { d.terminal l with test := some { test with received := test.received ++ [a] } } := by
  unfold receiveTest
  rw [h]
  dsimp only
  rw [List.length_append, List.length_singleton]
  refine if_congr Iff.rfl ?_ rfl
  rw [completeTest_of_test (test := { test with received := test.received ++ [a] })
    (by rw [Device.modTerminal_eq, Device.terminal_setTerminal_same])]
  unfold testFinished
  rw [Device.modTerminal_eq, Device.terminal_setTerminal_same, Device.setTerminal_setTerminal]

theorem goodCharacter_of_loop (h : (d.terminal l).state = .loopback) (hr : (d.terminal l).receiver ≠ .afterBreak)
    (hc : (d.terminal l).format = .none8 ∨ c.toNat ≤ 127) : goodCharacter l .loop c d = receiveTest l (.good c) d := by
  have hreceives := (receives_loop_iff (d.terminal l)).2 ⟨h, hr⟩
  have hcarries := (carries_iff _ _).2 hc
  unfold goodCharacter
  dsimp only
  rw [if_neg (by simp [hreceives, hcarries]), if_pos h]

/-- A line error as a test keeps it. -/
def receivedOf : RxError → Received
  | .parity => .parity
  | .framing => .framing

theorem lineErrorTaken_of_loop {k : RxError} (h : (d.terminal l).state = .loopback)
    (hr : (d.terminal l).receiver ≠ .afterBreak) (hk : k = .parity → (d.terminal l).format ≠ .none8) :
    lineErrorTaken l .loop k d = receiveTest l (receivedOf k) d := by
  have hreceives := (receives_loop_iff (d.terminal l)).2 ⟨h, hr⟩
  have hpossible := (errorPossible_iff _ _).2 hk
  unfold lineErrorTaken
  dsimp only
  rw [if_neg (by simp [hreceives, hpossible]), if_pos h]
  rfl

theorem breakTaken_of_loop (h : (d.terminal l).state = .loopback) (hr : (d.terminal l).receiver ≠ .afterBreak) :
    breakTaken l .loop d = receiveTest l .framing (d.setTerminal l { d.terminal l with receiver := .afterBreak }) := by
  have hreceives := (receives_loop_iff (d.terminal l)).2 ⟨h, hr⟩
  unfold breakTaken
  dsimp only
  rw [if_neg (by simp [hreceives]), if_pos h]

theorem waitExpired_of_running {test : TestRecord} {n : Nat} (h : (d.terminal l).test = some test)
    (hwait : test.wait = .running n) : waitExpired l d = testFinished l test (d.terminal l) test.received d := by
  unfold waitExpired
  rw [h]
  dsimp only
  rw [if_pos (by rw [hwait]; rfl), completeTest_of_test h]

theorem waitExpired_of_stopped {test : TestRecord} (h : (d.terminal l).test = some test) (hwait : test.wait = .stopped) :
    waitExpired l d = d := by
  unfold waitExpired
  rw [h]
  dsimp only
  rw [if_neg (by rw [hwait]; decide)]

/-! ## The transmitter (R138) -/

theorem characterSent_of_idle (h : (d.terminal l).transmitter = none) : characterSent l d = d :=
  if_pos (Option.isNone_iff_eq_none.2 h)

theorem characterSent_of_sending (h : (d.terminal l).transmitter ≠ none) :
    characterSent l d = afterCharacter l (d.setTerminal l { d.terminal l with transmitter := none }) :=
  if_neg (by simpa using h)

theorem afterCharacter_of_active (h : x.state = .active) :
    afterCharacter l (d.setTerminal l x) = roomEvent l (d.setTerminal l x) := by
  unfold afterCharacter
  rw [Device.terminal_setTerminal_same, h]

theorem afterCharacter_of_off (h : x.state = .disabled ∨ x.state = .absent) :
    afterCharacter l (d.setTerminal l x) = d.setTerminal l x := by
  unfold afterCharacter
  rw [Device.terminal_setTerminal_same]
  rcases h with h | h <;> rw [h]

theorem afterCharacter_of_test {test : TestRecord} (h : x.state = .loopback) (ht : x.test = some test) :
    afterCharacter l (d.setTerminal l x) =
      if test.started < test.text.length then startTestCharacter l (d.setTerminal l x)
      else if test.wait.isRunning then d.setTerminal l x
      else d.setTerminal l { x with test := some { test with wait := .running 100 } } := by
  have hafter : afterCharacter l (d.setTerminal l x) = testCharacterSent l (d.setTerminal l x) := by
    unfold afterCharacter
    rw [Device.terminal_setTerminal_same, h]
  rw [hafter]
  unfold testCharacterSent
  rw [Device.terminal_setTerminal_same, ht]
  dsimp only
  rw [modTerminal_setTerminal]
  rfl

/-! ## LINE-TEST (R141) -/

theorem startTest_of_busy {f : LineNo × Text} (h : (d.terminal f.1).state = .loopback) :
    startTest f d = (d, refuse .busy) := if_pos h

theorem startTest_of_disabled {f : LineNo × Text} (h : (d.terminal f.1).state = .disabled) :
    startTest f d = (d, refuse .wrongState) := by
  unfold startTest
  dsimp only
  rw [if_neg (by simp [h]), if_pos h]

/-- Whether a format carries every character of a text. -/
theorem all_carries_iff {y : Format} {text : Text} :
    text.all (carries y) = true ↔ y = .none8 ∨ ∀ c ∈ text, c.toNat ≤ 127 := by
  rw [List.all_eq_true]
  simp only [carries_iff]
  by_cases h : y = .none8 <;> simp [h]

theorem startTest_of_uncarried {f : LineNo × Text} (h : (d.terminal f.1).state = .absent ∨ (d.terminal f.1).state = .active)
    (hfit : ¬((d.terminal f.1).format = .none8 ∨ ∀ c ∈ f.2, c.toNat ≤ 127)) : startTest f d = (d, refuse .badField) := by
  unfold startTest
  dsimp only
  rw [if_neg (by rcases h with h | h <;> simp [h]), if_neg (by rcases h with h | h <;> simp [h]),
    if_pos (Bool.eq_false_iff.2 fun hall => hfit (all_carries_iff.1 hall))]

/-- The line at the start of a test, before its first character. -/
def testedLine (text : Text) (x : Terminal) : Terminal :=
  { x with state := .loopback, receiver := .idle, testResult := .none, test := some ⟨x.state, text, [], 0, .stopped⟩ }

theorem startTest_of_carried {f : LineNo × Text} (h : (d.terminal f.1).state = .absent ∨ (d.terminal f.1).state = .active)
    (hfit : (d.terminal f.1).format = .none8 ∨ ∀ c ∈ f.2, c.toNat ≤ 127) : startTest f d =
      (startTestCharacter f.1 (d.setTerminal f.1 (testedLine f.2 (d.terminal f.1))), accept []) := by
  have hall := all_carries_iff.2 hfit
  unfold startTest
  dsimp only
  rw [if_neg (by rcases h with h | h <;> simp [h]), if_neg (by rcases h with h | h <;> simp [h]), if_neg (by simp [hall])]
  rfl

theorem carried_eq (y : Format) (c : Byte) : carried y c = if y = .none8 then c else c &&& 0x7F := by
  cases y <;> rfl

/-- What a frame and its accepted reply leave of a change of one line. -/
theorem setTerminal_parts (d : Device) (l : LineNo) (x : Terminal) : (d.setTerminal l x).terminal l = x ∧
    (∀ k, k ≠ l → (d.setTerminal l x).terminal k = d.terminal k) ∧ ChangesOnly [.terminals] d (d.setTerminal l x) :=
  ⟨Device.terminal_setTerminal_same d l x, fun k hk => Device.terminal_setTerminal_other d l k x hk,
    setTerminal_changes d l x⟩

/-- Settles O53: the transmitter and a test act by the line's state, and a test's characters are compared at its end. -/
theorem textsAndTestsUseTheLine : Obligations.TextsAndTestsUseTheLine := by
  intro s l d x refused started
  have hsent : exec (.terminalCharacterSent l) s = .next { s with device := characterSent l d } := rfl
  have hstarted (y : Terminal) (c : Byte) : some ⟨carried y.format c, y.format, y.rate, true⟩ = started y c := by
    rw [carried_eq]
  refine ⟨fun body text htakes hf => ⟨fun hx => ?_, fun hx hbusy => ?_, fun hx hfree => ?_⟩, fun hidle => ?_,
    fun hbusy hx => ?_, fun hbusy hx => ?_, fun test c hbusy hx ht hc => ?_, fun test hbusy hx ht hlong hwait => ?_,
    fun body text htakes hf => ?_, fun test hx ht => ?_⟩
  · exact exec_refused htakes hf (hostTextFor_of_off (d := beginWork 0x31 body d) hx)
  · exact exec_refused htakes hf (hostTextFor_of_busy (d := beginWork 0x31 body d) hx hbusy)
  · have hwork := hostTextFor_of_free (d := beginWork 0x31 body d) (f := (l, text)) hx hfree
    have hexec := exec_replied htakes hf hwork
    have hparts : ChangesOnly [.terminals, .dealers] (beginWork 0x31 body d) (textOffered (l, text) (beginWork 0x31 body d)) :=
      (setTerminal_changes _ l _).andThen (roomEvent_entered l _).parts (by simp) (by simp)
    rw [hparts.channel_eq (by simp)] at hexec
    exact hexec
  · rw [hsent, characterSent_of_idle hidle]
  · rw [hsent, characterSent_of_sending hbusy, afterCharacter_of_active (x := { x with transmitter := none }) hx]
  · rw [hsent, characterSent_of_sending hbusy, afterCharacter_of_off (x := { x with transmitter := none }) hx]
  · have hlt : test.started < test.text.length := (List.getElem?_eq_some_iff.1 hc).1
    rw [characterSent_of_sending hbusy, afterCharacter_of_test (x := { x with transmitter := none }) hx ht, if_pos hlt,
      startTestCharacter_of_idle (x := { x with transmitter := none }) ht rfl hc, hstarted] at hsent
    obtain ⟨hterminal, hothers, hparts⟩ := setTerminal_parts d l
      { x with transmitter := started x c, test := some { test with started := test.started + 1 } }
    exact ⟨_, hsent, rfl, hterminal, (congrArg Terminal.onWire hterminal).trans rfl, hothers, hparts⟩
  · rw [characterSent_of_sending hbusy, afterCharacter_of_test (x := { x with transmitter := none }) hx ht,
      if_neg (Nat.not_lt.2 hlong), if_neg (by rw [hwait]; decide)] at hsent
    obtain ⟨hterminal, hothers, hparts⟩ := setTerminal_parts d l
      { x with transmitter := none, test := some { test with wait := .running 100 } }
    exact ⟨_, hsent, rfl, hterminal, hothers, hparts⟩
  · intro fits
    refine ⟨fun hx => ?_, fun hx => ?_, fun hx hfit => ?_, fun c rest hx hfit htext => ?_⟩
    · exact exec_refused htakes hf (startTest_of_busy (d := beginWork 0x32 body d) hx)
    · exact exec_refused htakes hf (startTest_of_disabled (d := beginWork 0x32 body d) hx)
    · exact exec_refused htakes hf (startTest_of_uncarried (d := beginWork 0x32 body d) hx hfit)
    · have hwork := startTest_of_carried (d := beginWork 0x32 body d) (f := (l, text)) hx hfit
      have hbegun : startTestCharacter l ((beginWork 0x32 body d).setTerminal l (testedLine text x)) =
          (beginWork 0x32 body d).setTerminal l { x with
            state := .loopback, receiver := .idle, testResult := .none,
            test := some ⟨x.state, text, [], if x.transmitter = none then 1 else 0, .stopped⟩,
            transmitter := if x.transmitter = none then started x c else x.transmitter } := by
        by_cases hidle : x.transmitter = none
        · rw [startTestCharacter_of_idle (x := testedLine text x) (c := c) rfl hidle (by rw [htext]; rfl), if_pos hidle,
            if_pos hidle, ← hstarted]
          rfl
        · rw [startTestCharacter_of_busy (x := testedLine text x) hidle, if_neg hidle, if_neg hidle]
          rfl
      have hexec := exec_replied htakes hf (hwork.trans (congrArg (·, accept []) hbegun))
      obtain ⟨hterminal, hothers, hparts⟩ := setTerminal_parts (beginWork 0x32 body d) l { x with
        state := .loopback, receiver := .idle, testResult := .none,
        test := some ⟨x.state, text, [], if x.transmitter = none then 1 else 0, .stopped⟩,
        transmitter := if x.transmitter = none then started x c else x.transmitter }
      refine ⟨_, hexec, rfl, rfl, hterminal, fun hidle => ?_, hothers, ?_⟩
      · refine (congrArg Terminal.onWire hterminal).trans ?_
        simp only [Terminal.onWire, if_pos hidle]
        rfl
      · have hready := ready_changes (accept []) hparts
        rwa [readyReply_accept] at hready
  · intro outcome finished received
    have houtcome (got : List Received) : testOutcome test.text got = outcome got := testOutcome_eq test.text got
    have hfinished (y : Terminal) (got : List Received) : testFinished l test y got d = finished y got := by
      unfold testFinished
      rw [houtcome]
    have htaken {i : Instr} {a : Received} (hi : exec i s = .next { s with device := receiveTest l a d }) :
        received i x a := by
      rw [receiveTest_of_test ht] at hi
      refine ⟨fun hmore => ?_, fun hlast => ?_⟩
      · rw [hi, if_neg (Nat.not_le.2 hmore)]
      · rw [hi, if_pos hlast, hfinished]
    have hwaited : exec (.waitTimerExpiry l) s = .next { s with device := waitExpired l d } := rfl
    refine ⟨fun hr => ⟨fun c hc => htaken ?_, fun hp => htaken ?_, htaken ?_, ?_⟩, fun n hwait => ?_, fun hwait => ?_⟩
    · rw [← goodCharacter_of_loop hx hr hc]
      rfl
    · have herror := lineErrorTaken_of_loop (k := .parity) hx hr (fun _ => hp)
      rw [show Received.parity = receivedOf .parity from rfl, ← herror]
      rfl
    · have herror := lineErrorTaken_of_loop (k := .framing) hx hr nofun
      rw [show Received.framing = receivedOf .framing from rfl, ← herror]
      rfl
    · have hbroken : exec (.breakReceived ⟨l, .loop⟩) s = .next { s with device := breakTaken l .loop d } := rfl
      rw [breakTaken_of_loop hx hr, receiveTest_of_test (test := test) (by rw [Device.terminal_setTerminal_same]; exact ht),
        Device.terminal_setTerminal_same, Device.setTerminal_setTerminal] at hbroken
      refine ⟨fun hmore => ?_, fun hlast => ?_⟩
      · rw [hbroken, if_neg (Nat.not_le.2 hmore)]
      · rw [hbroken, if_pos hlast, ← hfinished]
        unfold testFinished
        rw [Device.setTerminal_setTerminal]
    · rw [hwaited, waitExpired_of_running ht hwait, hfinished]
    · rw [hwaited, waitExpired_of_stopped ht hwait]

end Sys2Proof.Machine
end


section
/-! PROOFS. The dealer commands (O54). -/

namespace Sys2Proof.Machine

variable {d e : Device} {s : State} {l : LineNo} {rest name : Text} {i : Slot}

/-! ## Submitted lines (R137, R147) -/

theorem submittable_iff {line : Text} : submittable d l line = true ↔ (d.terminal l).state = .active ∧
    (d.terminal l).reply = none ∧ line ≠ [] ∧ line.length ≤ 40 ∧ ∀ c ∈ line, 0x20 ≤ c.toNat ∧ c.toNat ≤ 0x7E := by
  have hcapacity : Config.inputCapacity = 40 := rfl
  unfold submittable
  rw [hcapacity]
  simp only [Bool.and_eq_true, beq_iff_eq, Option.isNone_iff_eq_none, Bool.not_eq_true', List.isEmpty_eq_false_iff,
    decide_eq_true_iff, List.all_eq_true, printable_iff, and_assoc, ne_eq]

theorem dealerLine_of_submittable {line : Text} {work : Device → Device × Text} (h : submittable d l line = true)
    {reply : Text} (hwork : work d = (e, reply)) : dealerLine l line work d = placeReply l reply e := by
  unfold dealerLine answerDealer
  rw [if_pos h, hwork]

theorem dealerLine_of_not {line : Text} {work : Device → Device × Text} (h : ¬submittable d l line = true) :
    dealerLine l line work d = d := if_neg h

/-! ## Symbols (R147) -/

theorem readSymbol_of_malformed (h : symbolOk name = false) : readSymbol d name = .error replyCmd := by
  unfold readSymbol
  rw [if_neg (by simp [h])]

theorem readSymbol_of_missing (h : symbolOk name = true) (hl : lookup d name = none) :
    readSymbol d name = .error replySym := by
  unfold readSymbol
  rw [if_pos h, hl]

theorem readSymbol_of_found (h : symbolOk name = true) (hl : lookup d name = some i) : readSymbol d name = .ok i := by
  unfold readSymbol
  rw [if_pos h, hl]

/-! ## Quote (R148) -/

theorem quoteCommand_of_error {reply : Text} (h : readSymbol d rest = .error reply) : quoteCommand rest d = (d, reply) := by
  unfold quoteCommand
  rw [h]

theorem quoteCommand_of_found (h : readSymbol d rest = .ok i) : quoteCommand rest d = (d, quoteText (d.slot i)) := by
  unfold quoteCommand
  rw [h]

/-! ## Set a watch (R149) -/

theorem readCondition_sign (c : Condition) : readCondition (conditionSign c) = some c := by cases c <;> rfl

theorem blank_not_mem_sign (c : Condition) : blank ∉ conditionSign c := by cases c <;> decide

theorem endsBlank_eq_false {t : Text} (h : t.getLast? ≠ some blank) : endsBlank t = false := by
  simpa [endsBlank] using h

theorem readWatchLine_of_any (h : blank ∉ name) :
    readWatchLine (name ++ txt [' ', '*']) = some (name, .any, none) := by
  have hlast : endsBlank (name ++ txt [' ', '*']) = false :=
    endsBlank_eq_false (by rw [List.getLast?_append_of_ne_nil _ (by decide)]; decide)
  have hcut : cutAt blank (name ++ txt [' ', '*']) = some (name, txt ['*']) := cutAt_append h _
  unfold readWatchLine
  rw [hlast, hcut]
  rfl

theorem readWatchLine_of_price {price : Text} {c : Condition} (h : blank ∉ name) (hc : c ≠ .any) (hp : price ≠ [])
    (hlast : price.getLast? ≠ some blank) :
    readWatchLine (name ++ [blank] ++ conditionSign c ++ [blank] ++ price) = some (name, c, some price) := by
  have hrest : name ++ [blank] ++ conditionSign c ++ [blank] ++ price = name ++ blank :: (conditionSign c ++ blank :: price) := by
    simp
  have hends : endsBlank (name ++ [blank] ++ conditionSign c ++ [blank] ++ price) = false :=
    endsBlank_eq_false (by rwa [List.getLast?_append_of_ne_nil _ hp])
  unfold readWatchLine
  rw [hends, hrest, cutAt_append h]
  simp only [Bool.false_eq_true, if_false]
  rw [cutAt_append (blank_not_mem_sign c)]
  simp only [readCondition_sign]

theorem watchCommand_of_unread (h : readWatchLine rest = none) : watchCommand l rest d = (d, replyCmd) := by
  unfold watchCommand
  rw [h]

theorem isSome_findWatch {c : Condition} : (findWatch d l i c).isSome = true ↔
    ∃ w ∈ d.watches, w.terminal = l ∧ w.slot = i ∧ w.cond = c := by
  unfold findWatch
  rw [List.find?_isSome]
  simp [and_assoc]

section
variable {c : Condition} {p : Option Text} {threshold : Price} (h : readWatchLine rest = some (name, c, p))
include h

theorem watchCommand_of_error {reply : Text} (hs : readSymbol d name = .error reply) :
    watchCommand l rest d = (d, reply) := by
  unfold watchCommand
  rw [h]
  dsimp only
  rw [hs]

theorem watchCommand_of_no_price (hs : readSymbol d name = .ok i) (hp : readThreshold p = none) :
    watchCommand l rest d = (d, replyPrice) := by
  unfold watchCommand
  rw [h]
  dsimp only
  rw [hs]
  dsimp only
  rw [hp]

/-- A W line with its symbol and its price read: double, full or set. -/
theorem watchCommand_of_price (hs : readSymbol d name = .ok i) (hp : readThreshold p = some threshold) :
    watchCommand l rest d = if (findWatch d l i c).isSome then (d, replyDup)
      else if 8 ≤ (watchesOf d l).length ∨ 128 ≤ d.watches.length then (d, replyFull)
      else (d.setWatches (d.watches ++ [⟨l, i, c, threshold, .armed⟩]), replyWatchSet) := by
  unfold watchCommand
  rw [h]
  dsimp only
  rw [hs]
  dsimp only
  rw [hp]
  rfl

end

/-! ## Remove watches (R150) -/

theorem parts_of_no_blank {t : Text} (h : blank ∉ t) : parts t = [t] := by
  induction t with
  | nil => rfl
  | cons a t ih =>
    rw [parts, if_neg (List.ne_of_not_mem_cons h).symm, ih (List.not_mem_of_not_mem_cons h)]

theorem parts_append {t : Text} (h : blank ∉ t) (u : Text) : parts (t ++ blank :: u) = t :: parts u := by
  induction t with
  | nil => exact if_pos rfl
  | cons a t ih =>
    rw [List.cons_append, parts, if_neg (List.ne_of_not_mem_cons h).symm, ih (List.not_mem_of_not_mem_cons h)]

theorem readRemoveLine_of_symbol (h : blank ∉ name) : readRemoveLine name = some (name, none) := by
  unfold readRemoveLine
  rw [parts_of_no_blank h]

theorem readRemoveLine_of_condition (h : blank ∉ name) (c : Condition) :
    readRemoveLine (name ++ [blank] ++ conditionSign c) = some (name, some c) := by
  unfold readRemoveLine
  rw [List.append_assoc, List.singleton_append, parts_append h, parts_of_no_blank (blank_not_mem_sign c)]
  dsimp only
  rw [readCondition_sign]
  rfl

theorem removeCommand_of_unread (h : readRemoveLine rest = none) : removeCommand l rest d = (d, replyCmd) := by
  unfold removeCommand
  rw [h]

/-- The watches an X line names. -/
def namesWatch (l : LineNo) (i : Slot) (c : Option Condition) (w : Watch) : Bool :=
  w.terminal == l && w.slot == i && (c == none || c == some w.cond)

theorem removes_eq (l : LineNo) (i : Slot) (c : Option Condition) : removes l i c = namesWatch l i c := by
  funext w
  unfold removes namesWatch
  cases c with
  | none => rfl
  | some k =>
    show (_ && (w.cond == k)) = (_ && (false || (k == w.cond)))
    rw [Bool.false_or, BEq.comm (a := k)]

section
variable {c : Option Condition} (h : readRemoveLine rest = some (name, c))
include h

theorem removeCommand_of_error {reply : Text} (hs : readSymbol d name = .error reply) :
    removeCommand l rest d = (d, reply) := by
  unfold removeCommand
  rw [h]
  dsimp only
  rw [hs]

/-- The device without the watches named and their alerts. -/
def watchesRemoved (l : LineNo) (gone : List Watch) (left : List Watch) (d : Device) : Device :=
  (d.setWatches left).modDealer l (fun y =>
    { y with alerts := gone.foldl (fun a w => dropAlert w.slot w.cond a) y.alerts })

theorem removeCommand_of_found (hs : readSymbol d name = .ok i) : removeCommand l rest d =
    if d.watches.filter (namesWatch l i c) = [] then (d, replyNone)
    else (watchesRemoved l (d.watches.filter (namesWatch l i c)) (d.watches.filter (fun w => !namesWatch l i c w)) d,
      replyWatchOff) := by
  unfold removeCommand
  rw [h]
  dsimp only
  rw [hs]
  dsimp only
  rw [removes_eq]
  rfl

end

theorem watchesRemoved_parts (l : LineNo) (gone left : List Watch) (d : Device) :
    (watchesRemoved l gone left d).watches = left ∧
    (watchesRemoved l gone left d).dealer l = { d.dealer l with
      alerts := (d.dealer l).alerts.filter (fun a => !gone.any (fun w => a == .watch w.slot w.cond)) } ∧
    (∀ k, k ≠ l → (watchesRemoved l gone left d).dealer k = d.dealer k) ∧
    ChangesOnly [.watches, .dealers] d (watchesRemoved l gone left d) := by
  refine ⟨rfl, ?_, fun k hk => ?_, (setWatches_changes d _).andThen (modDealer_changes _ l _) (by simp) (by simp)⟩
  · unfold watchesRemoved
    rw [dealer_modDealer, if_pos rfl, foldl_dropAlert_watches]
    rfl
  · unfold watchesRemoved
    rw [dealer_modDealer, if_neg hk]
    rfl

/-! ## Set the page (R151) -/

theorem lookupAll_eq_some {t : List Text} {r : List Slot} : lookupAll d t = some r ↔ t.map (lookup d) = r.map some := by
  induction t generalizing r with
  | nil => cases r <;> simp [lookupAll]
  | cons y t ih =>
    rw [lookupAll]
    cases hy : lookup d y with
    | none => cases r <;> simp [hy]
    | some i =>
      cases ht : lookupAll d t with
      | none =>
        cases r with
        | nil => simp
        | cons j r =>
          have hne : t.map (lookup d) ≠ r.map some := fun heq => by
            rw [ih.2 heq] at ht
            cases ht
          simp [hne]
      | some r0 =>
        cases r with
        | nil => simp
        | cons j r => simp [hy, ← ih, ht]

theorem lookupAll_eq_none {t : List Text} (h : ∃ y ∈ t, lookup d y = none) : lookupAll d t = none := by
  refine Option.eq_none_iff_forall_ne_some.2 fun r hr => ?_
  obtain ⟨y, hy, hnone⟩ := h
  have hmem : lookup d y ∈ r.map some := lookupAll_eq_some.1 hr ▸ List.mem_map_of_mem hy
  rw [hnone] at hmem
  simp at hmem

theorem pageCommand_of_slots {rest : Option Text} {slots : List Slot} (h : (rest = none ∧ slots = []) ∨
    ∃ text, rest = some text ∧ (parts text).length ≤ 8 ∧ (parts text).all symbolOk = true ∧
      (parts text).map (lookup d) = slots.map some) :
    pageCommand l rest d = (d.modDealer l (setPage slots), replyPageSet) := by
  rcases h with ⟨rfl, rfl⟩ | ⟨text, rfl, hlen, hall, hfound⟩
  · rfl
  · unfold pageCommand
    dsimp only
    rw [if_neg (by simp [hall]; omega), lookupAll_eq_some.2 hfound]

theorem pageCommand_of_malformed {text : Text} (h : 8 < (parts text).length ∨ (parts text).all symbolOk = false) :
    pageCommand l (some text) d = (d, replyCmd) := if_pos h

theorem pageCommand_of_missing {text : Text} (hlen : (parts text).length ≤ 8) (hall : (parts text).all symbolOk = true)
    (h : ∃ y ∈ parts text, lookup d y = none) : pageCommand l (some text) d = (d, replySym) := by
  unfold pageCommand
  dsimp only
  rw [if_neg (by simp [hall]; omega), lookupAll_eq_none h]

theorem setPage_parts (slots : List Slot) (y : Dealer) :
    setPage slots y = { y with page := (setPage slots y).page, marks := (setPage slots y).marks } := by
  unfold setPage
  rw [markAll_eq, (foldl_setEntry (fun p => slots[p.val]?) everyPage y).1]

/-! ## Forward a text, and a line that is no command (R147, R152) -/

theorem forwardCommand_of_malformed {text : Text}
    (h : text = [] ∨ text.getLast? = some blank ∨ doubleBlank text = true) : forwardCommand l text d = (d, replyCmd) := by
  refine if_pos ?_
  rcases h with h | h | h
  · exact Or.inl h
  · exact Or.inr (Or.inl (by simp [endsBlank, h]))
  · exact Or.inr (Or.inr h)

theorem forwardCommand_of_formed {text : Text}
    (h : ¬(text = [] ∨ text.getLast? = some blank ∨ doubleBlank text = true)) : forwardCommand l text d =
      if (d.dealer l).forward ≠ [] then (d, replyWait)
      else ((d.setDealer l { d.dealer l with forward := text }).raise (.terminal l), replySent) := by
  obtain ⟨hsome, hlast, hdouble⟩ := not_or.1 h |>.imp id not_or.1
  refine if_neg ?_
  rintro (h | h | h)
  · exact hsome h
  · rw [endsBlank_eq_false hlast] at h
    cases h
  · exact hdouble h

/-- A line that begins as no command matches none. -/
theorem interpretLine_of_other {a : Byte} (h : a ∉ [(0x51 : Byte), 0x57, 0x58, 0x50, 0x3E]) :
    interpretLine l (a :: rest) d = (d, replyCmd) := by
  simp only [List.mem_cons, List.not_mem_nil, or_false, not_or] at h
  obtain ⟨hq, hw, hx, hp, hf⟩ := h
  have hq' : a ≠ ch 'Q' := hq
  have hw' : a ≠ ch 'W' := hw
  have hx' : a ≠ ch 'X' := hx
  have hp' : a ≠ ch 'P' := hp
  have hf' : a ≠ ch '>' := hf
  cases rest with
  | nil => exact if_neg hp'
  | cons b rest =>
    unfold interpretLine
    dsimp only
    rw [if_neg hf', if_neg hq', if_neg hw', if_neg hx', if_neg hp']
    exact ite_self _

end Sys2Proof.Machine
end


section
/-! PROOFS. O54, the dealer commands as they are submitted. -/

namespace Sys2Proof.Machine

variable {s : State} {l : LineNo}

/-- The columns of a quote in the rules' own order. -/
theorem quoteText_eq (x : Record) : quoteText x =
    fieldText x false .symbol 7 ++ fieldText x false .last 10 ++ fieldText x false .change 10 ++ fieldText x false .bid 9 ++
      [0x2F] ++ fieldText x false .ask 9 ++ fieldText x false .volume 9 ++ fieldText x false .high 10 ++
      fieldText x false .low 10 ++ [0x20] ++ stateWord x.state := by
  unfold quoteText pageText
  simp only [List.append_assoc, List.cons_append, List.nil_append]
  rfl

/-- A submitted line is answered by its work. -/
theorem exec_dealer {c : Instr} {line : Text} {work : Device → Device × Text} {d' : Device} {reply : Text}
    (hexec : exec c s = .next { s with device := dealerLine l line work s.device })
    (hcan : submittable s.device l line = true) (hwork : work s.device = (d', reply)) :
    exec c s = .next ⟨roomEvent l (d'.modTerminal l (fun x => { x with reply := some reply })), s.pending⟩ := by
  rw [hexec, dealerLine_of_submittable hcan hwork]
  rfl

theorem exec_dealer_of_not {c : Instr} {line : Text} {work : Device → Device × Text}
    (hexec : exec c s = .next { s with device := dealerLine l line work s.device })
    (hcan : ¬submittable s.device l line = true) : exec c s = .next s := by
  rw [hexec, dealerLine_of_not hcan]

theorem matchesNothing_iff {line : Text} {d : Device} :
    matchesNothing l line d = true ↔ (interpretLine l line d).2 = replyCmd := beq_iff_eq

theorem exec_unknownCommand_of_matching {line : Text} (h : (interpretLine l line s.device).2 ≠ replyCmd) :
    exec (.unknownCommand l line) s = .next s :=
  exec_of_same (if_neg fun hm => h (matchesNothing_iff.1 hm))

theorem exec_unknownCommand {line : Text} (h : (interpretLine l line s.device).2 = replyCmd) :
    exec (.unknownCommand l line) s = .next { s with device := dealerLine l line (fun d => (d, replyCmd)) s.device } := by
  show Host.Outcome.next { s with device := if matchesNothing l line s.device then _ else _ } = _
  rw [if_pos (matchesNothing_iff.2 h)]

/-- Settles O54: each command by its form, its symbol and what it asks, and the answer to each by the one submission rule. -/
theorem dealerCommandsChangeAndAnswer : Obligations.DealerCommandsChangeAndAnswer := by
  intro s l d answered can cmd sym
  have hcan (line : Text) : can line ↔ submittable d l line = true := submittable_iff.symm
  have hquote (rest : Text) : exec (.dealerQuote l rest) s =
      .next { s with device := dealerLine l (0x51 :: 0x20 :: rest) (quoteCommand rest) d } := rfl
  have hset (rest : Text) : exec (.setAWatch l rest) s =
      .next { s with device := dealerLine l (0x57 :: 0x20 :: rest) (watchCommand l rest) d } := rfl
  have hremove (rest : Text) : exec (.removeWatches l rest) s =
      .next { s with device := dealerLine l (0x58 :: 0x20 :: rest) (removeCommand l rest) d } := rfl
  have hpage (rest : Option Text) : exec (.setThePage l rest) s =
      .next { s with device := dealerLine l (pageLine rest) (pageCommand l rest) d } := rfl
  have hforward (text : Text) : exec (.forwardAText l text) s =
      .next { s with device := dealerLine l (0x3E :: text) (forwardCommand l text) d } := rfl
  refine ⟨fun rest h => ⟨fun hbad => ?_, fun hok hnone => ?_, fun i hok hi => ?_⟩, fun rest name c p h hname hform => ?_,
    fun rest h hunread => ?_, fun rest name c h hname hform => ?_, fun rest h hunread => ?_,
    fun rest slots h hslots => ?_, fun text h => ⟨fun hbad => ?_, fun hlen hall hnone => ?_⟩, fun text h => ?_,
    fun a rest h hother => ?_, fun line h hcmd => ?_, fun rest h => ?_, fun rest h => ?_, fun rest h => ?_,
    fun rest h => ?_, fun text h => ?_, fun line h => ?_⟩
  · exact exec_dealer (hquote rest) ((hcan _).1 h) (quoteCommand_of_error (readSymbol_of_malformed hbad))
  · exact exec_dealer (hquote rest) ((hcan _).1 h) (quoteCommand_of_error (readSymbol_of_missing hok hnone))
  · intro x column
    have hexec := exec_dealer (hquote rest) ((hcan _).1 h) (quoteCommand_of_found (readSymbol_of_found hok hi))
    rw [quoteText_eq] at hexec
    refine hexec.trans (congrArg (answered d) (congrArg _ ?_))
    cases x.state <;> rfl
  · intro threshold
    have hread : readWatchLine rest = some (name, c, p) := by
      rcases hform with ⟨rfl, rfl, rfl⟩ | ⟨price, rfl, hc, rfl, hp, hlast⟩
      · exact readWatchLine_of_any hname
      · exact readWatchLine_of_price hname hc hp hlast
    have hthreshold : readThreshold p = threshold := by cases p <;> rfl
    refine ⟨fun hbad => ?_, fun hok hnone => ?_, fun i hok hi hp => ?_, fun i q hok hi hp => ?_⟩
    · exact exec_dealer (hset rest) ((hcan _).1 h) (watchCommand_of_error hread (readSymbol_of_malformed hbad))
    · exact exec_dealer (hset rest) ((hcan _).1 h) (watchCommand_of_error hread (readSymbol_of_missing hok hnone))
    · exact exec_dealer (hset rest) ((hcan _).1 h)
        (watchCommand_of_no_price hread (readSymbol_of_found hok hi) (hthreshold.trans hp))
    · intro held full
      have hwork := watchCommand_of_price (l := l) hread (readSymbol_of_found hok hi) (hthreshold.trans hp)
      have hheld : held ↔ (findWatch d l i c).isSome = true := isSome_findWatch.symm
      have hfull : full ↔ 8 ≤ (watchesOf d l).length ∨ 128 ≤ d.watches.length := Iff.rfl
      refine ⟨fun hyes => ?_, fun hno hyes => ?_, fun hno hno' => ?_⟩
      · exact exec_dealer (hset rest) ((hcan _).1 h) (hwork.trans (if_pos (hheld.1 hyes)))
      · exact exec_dealer (hset rest) ((hcan _).1 h)
          (hwork.trans ((if_neg (fun hs => hno (hheld.2 hs))).trans (if_pos (hfull.1 hyes))))
      · exact exec_dealer (hset rest) ((hcan _).1 h)
          (hwork.trans ((if_neg (fun hs => hno (hheld.2 hs))).trans (if_neg (fun hf => hno' (hfull.2 hf)))))
  · exact exec_dealer (hset rest) ((hcan _).1 h) (watchCommand_of_unread hunread)
  · have hread : readRemoveLine rest = some (name, c) := by
      rcases hform with ⟨rfl, rfl⟩ | ⟨k, rfl, rfl⟩
      · exact readRemoveLine_of_symbol hname
      · exact readRemoveLine_of_condition hname k
    refine ⟨fun hbad => ?_, fun hok hnone => ?_, fun i hok hi => ?_⟩
    · exact exec_dealer (hremove rest) ((hcan _).1 h) (removeCommand_of_error hread (readSymbol_of_malformed hbad))
    · exact exec_dealer (hremove rest) ((hcan _).1 h) (removeCommand_of_error hread (readSymbol_of_missing hok hnone))
    · intro names
      have hwork := removeCommand_of_found (l := l) hread (readSymbol_of_found (d := d) hok hi)
      refine ⟨fun hempty => ?_, fun hsome => ?_⟩
      · exact exec_dealer (hremove rest) ((hcan _).1 h) (hwork.trans (if_pos hempty))
      · have hexec := exec_dealer (hremove rest) ((hcan _).1 h) (hwork.trans (if_neg hsome))
        obtain ⟨hwatches, hdealer, hothers, hparts⟩ := watchesRemoved_parts l (d.watches.filter names)
          (d.watches.filter (fun w => !names w)) d
        exact ⟨_, hexec, hwatches, hdealer, hothers, hparts⟩
  · exact exec_dealer (hremove rest) ((hcan _).1 h) (removeCommand_of_unread hunread)
  · have hexec := exec_dealer (hpage rest) ((hcan _).1 h) (pageCommand_of_slots hslots)
    refine ⟨d.modDealer l (setPage slots), hexec, fun p => ⟨?_, ?_⟩, ?_, fun k hk => ?_, modDealer_changes d l _⟩
    · rw [dealer_modDealer, if_pos rfl, entry_setPage]
    · rw [dealer_modDealer, if_pos rfl]
      exact marked_markAll _ p
    · rw [dealer_modDealer, if_pos rfl]
      exact setPage_parts slots _
    · rw [dealer_modDealer, if_neg hk]
  · exact exec_dealer (hpage _) ((hcan _).1 h) (pageCommand_of_malformed hbad)
  · exact exec_dealer (hpage _) ((hcan _).1 h) (pageCommand_of_missing hlen hall hnone)
  · intro malformed
    refine ⟨fun hbad => ?_, fun hgood hbusy => ?_, fun hgood hfree => ?_⟩
    · exact exec_dealer (hforward text) ((hcan _).1 h) (forwardCommand_of_malformed hbad)
    · exact exec_dealer (hforward text) ((hcan _).1 h) ((forwardCommand_of_formed hgood).trans (if_pos hbusy))
    · exact exec_dealer (hforward text) ((hcan _).1 h) ((forwardCommand_of_formed hgood).trans (if_neg (not_not.2 hfree)))
  · have hother := interpretLine_of_other (l := l) (d := d) (rest := rest) hother
    exact exec_dealer (exec_unknownCommand (congrArg Prod.snd hother)) ((hcan _).1 h) rfl
  · exact exec_dealer (exec_unknownCommand hcmd) ((hcan _).1 h) rfl
  · exact exec_dealer_of_not (hquote rest) (fun hs => h ((hcan _).2 hs))
  · exact exec_dealer_of_not (hset rest) (fun hs => h ((hcan _).2 hs))
  · exact exec_dealer_of_not (hremove rest) (fun hs => h ((hcan _).2 hs))
  · exact exec_dealer_of_not (hpage rest) (fun hs => h ((hcan _).2 hs))
  · exact exec_dealer_of_not (hforward text) (fun hs => h ((hcan _).2 hs))
  · by_cases hmatch : (interpretLine l line d).2 = cmd
    · exact exec_dealer_of_not (exec_unknownCommand hmatch)
        (fun hs => h.elim (fun hnot => hnot ((hcan _).2 hs)) (fun hne => hne hmatch))
    · exact exec_unknownCommand_of_matching hmatch

end Sys2Proof.Machine
end
